-- ==== Sys2Proof/Word.lean ====
section
/-! DEFINITION. The word types of the part: 32-bit registers (R22) and bytes of memory. -/

namespace Sys2Proof

/-- A register of control space (R22). -/
abbrev W32 := BitVec 32

/-- One byte of memory, of a frame or of an image. -/
abbrev Byte := BitVec 8

end Sys2Proof
end

