-- ==== Sys2Proof/Syntax.lean ====
section
/-! DEFINITION. The commands of the block: one constructor per row of spec/opcode_table.json, with the operands of
the event or access it stands for. -/

namespace Sys2Proof

/-- A software write of one register: the writing master (its identifier of R575) and the 32 bits written. -/
structure Wr where
  master : Nat
  data : W32
deriving DecidableEq, Repr

/-- A received Ethernet frame: its bytes without FCS, and whether the FCS was right. -/
structure Packet where
  bytes : List Byte
  fcsOk : Bool
deriving DecidableEq, Repr

/-- A frame at a sink port as measured at its last active line (R422, R431): active size, encoding in the coding of
STAT.FMT, progressive, pixel rate in kHz, frame period in µs, and per line the samples as received: red, green, blue of each
pixel, or Cb, Y, Cr, Y of each pair. -/
structure SinkFrame where
  width : Nat
  height : Nat
  fmt : Nat
  progressive : Bool
  khz : Nat
  periodUs : Nat
  lines : List (List Nat)
deriving DecidableEq, Repr

/-- What a source port reads from a sink's capabilities (R412, R406, R418): highest rate in the coding of MAX_RATE, lane
count, MSTM_CAP, PSR version 1 or later. -/
structure SinkCaps where
  rate : Nat
  lanes : Nat
  mst : Bool
  psr : Bool
deriving DecidableEq, Repr

/-- An item of R192 that the decode cores do not support. -/
inductive Unsupported where
  | rangeExtensions | screenContent | fieldSeq | interlaced | fmo | aso | dataPartitioning | spSi | high10 | high422 | high444
  | svc | mvc | lossless
deriving DecidableEq, Repr

/-- A NAL unit of an access unit: nuh_layer_id, redundant_pic_cnt, and the items of R192 that it or the parameter sets it
activates hold. -/
structure NalUnit where
  layer : Nat
  redundant : Nat
  items : List Unsupported
deriving DecidableEq, Repr

/-- A rectangle of a picture in luma samples. -/
structure Area where
  x : Nat
  y : Nat
  w : Nat
  h : Nat
deriving DecidableEq, Repr

/-- What the decoder finds in an access unit's headers: its NAL units; IRAP (IDR in H.264); a sequence parameter set
activated here, with profile, constraint_set1_flag (H.264), level, luma depth and tier as R233 codes them; the picture's
size; largest DPB size, reorder count and latency limit in pictures (none: no limit); conformance window (x, y, width,
height); 4:0:0; colour description and sample aspect ratio as R209 codes them; picture order count; pictures that the
reference picture set names and those of the active reference lists, by picture order count; whether later pictures may
refer to it, no other picture refers to it, it is output, and prior pictures are not; CTU size (16 in H.264), tile columns
and rows in CTUs (empty: no tiles), WPP, CTUs of each independent slice segment with its dependents or slice, and slice
data bits of each work unit. -/
structure AccessUnit where
  nals : List NalUnit
  irap : Bool
  newSps : Bool
  profile : Nat
  constrained : Bool
  level : Nat
  depth : Nat
  tier : Bool
  width : Nat
  height : Nat
  dpb : Nat
  reorder : Nat
  latency : Option Nat
  crop : Nat × Nat × Nat × Nat
  mono : Bool
  colour : Nat
  sar : Nat
  poc : Int
  rps : List Int
  refs : List Int
  isRef : Bool
  discardable : Bool
  output : Bool
  noPrior : Bool
  ctu : Nat
  tileCols : List Nat
  tileRows : List Nat
  wpp : Bool
  slices : List Nat
  bits : List Nat
deriving DecidableEq, Repr

/-- A reference or parameter read that a decode work unit made, and the blocks that use it (R218). -/
structure UnitRead where
  addr : Nat
  size : Nat
  uses : List Area
deriving DecidableEq, Repr

/-- How a decode work unit ended: the area of each slice found damaged or absent, from its first error to its end (R217),
and the reads that it made. -/
structure UnitResult where
  damaged : List (List Area)
  reads : List UnitRead
deriving DecidableEq, Repr

/-- The register that a ring rebinding writes (R251). -/
inductive RingReg where
  | ctrl | src
deriving DecidableEq, Repr

/-- An access to a data port register: a read by a master, or a write. -/
inductive PortAccess where
  | read (master : Nat)
  | write (w : Wr)
deriving DecidableEq, Repr

/-- The two links with the wall-link protocol: the wall link and the twin link (R522). (DEDUCED, log 70.) -/
inductive Link where
  | wall | twin
deriving DecidableEq, Repr

/-- Why a received link frame is rejected (R484). -/
inductive FrameFault where
  | crc | framing | auth | replay
deriving DecidableEq, Repr

/-- A received link frame whose CRC and, where it is encrypted, GCM tag are right (R482): ENC, virtual channel, tag,
flags, frame counter and plain payload. -/
structure LinkFrame where
  enc : Bool
  vc : Nat
  tag : Nat
  flags : Nat
  fcnt : Nat
  payload : List Byte
deriving DecidableEq, Repr

/-- What has happened to stored codes before an access (R560, R561, R571): 64-bit words with a single-bit error, words
with an uncorrectable one, by address / 8, and an uncorrectable error in the tag of the page accessed. -/
structure Upsets where
  single : List Nat
  double : List Nat
  tag : Bool
deriving DecidableEq, Repr

/-- One access of a master to memory; the host's address is an offset in the BAR 2 window. -/
structure Access where
  master : Nat
  addr : Nat
  size : Nat
  write : Bool
  data : List Byte
  upsets : Upsets
deriving DecidableEq, Repr

/-- A node temperature of a thermal channel that has been corrupted (R736): channel, node, its value in 1/256 °C. -/
structure NodeUpset where
  ch : Nat
  node : Nat
  temp : Int
deriving DecidableEq, Repr

/-- Result of a read of the board sensor (R735). -/
inductive BndResult where
  | value (raw : Nat)
  | fail
deriving DecidableEq, Repr

/-- The commands. -/
inductive Instr where
  /-- REGISTER_WRITE (R26): A write to a register that has no row of its own takes effect under its field access types. -/
  | registerWrite (master addr size : Nat) (data : W32)
  /-- PAIR_LO_READ (R24): A read of the _LO half of a 64-bit pair latches the _HI half for the following read. -/
  | pairLoRead (master addr : Nat)
  /-- PAIR_HI_WRITE (R25): A write of the _HI half of a writable pair updates both halves together with the held _LO
      write. -/
  | pairHiWrite (master addr : Nat) (data : W32)
  /-- HEAD_LATCH (R28): At the frame latch point of a head, commits apply, every judged stall is judged and the verdicts
      are delivered to the awning. -/
  | headLatch (n : Nat)
  /-- VERDICT_DEADLINE (R41): If no voted verdict reaches the awning within 4 us of the FLP, every live-class stall is
      drawn LOST with NOVERD. -/
  | verdictDeadline (n : Nat)
  /-- ATTEST_REQ (R58): A write of REQ takes the nonce and record address and requests an attestation of the head's next
      latch, or refuses it. -/
  | attestReq (n : Nat) (w : Wr)
  /-- ATTEST_RECORD_DONE (R61): The security controller writes the signed attestation record, and DONE sets. -/
  | attestRecordDone (n : Nat)
  /-- ATTEST_TIMEOUT (R63): A request whose latch has not occurred within 1 s of acceptance ends with ERR 0x6. -/
  | attestTimeout (n : Nat)
  /-- LOAD_A (R134): A PLAN.CTRL request loads the plan from flash slot A. -/
  | loadA (w : Wr)
  /-- LOAD_B (R134): A PLAN.CTRL request loads the plan from flash slot B. -/
  | loadB (w : Wr)
  /-- LOAD_MEM (R134): A PLAN.CTRL request loads a plan image from memory at SRC_ADDR. -/
  | loadMem (w : Wr)
  /-- WRITE_A (R119): A PLAN.CTRL request writes an image into flash slot A. -/
  | writeA (w : Wr)
  /-- WRITE_B (R119): A PLAN.CTRL request writes an image into flash slot B. -/
  | writeB (w : Wr)
  /-- ABORT (R127): A PLAN.CTRL request ends a load before apply, or a slot write at the next page or sector boundary. -/
  | abort (w : Wr)
  /-- PLAN_LOAD_START (R117): At start, the loader reads both markers and selects the slot to try. -/
  | planLoadStart
  /-- PLAN_COPY_DONE (R122): The image has been copied into the staging half of the plan store, with the hash and section
      CRCs computed. -/
  | planCopyDone
  /-- PLAN_VERIFY_DONE (R89): The key hash and ECDSA signature check of the plan ends. -/
  | planVerifyDone
  /-- PLAN_CHECK_DONE (R126): The section rules have been checked, and the plan is rejected with a code or proceeds to
      apply. -/
  | planCheckDone
  /-- PLAN_APPLY_START (R128): Once every head shows its slate on a lone part, apply starts. -/
  | planApplyStart
  /-- PLAN_APPLY_DONE (R123): Apply has reset units, written tags, masks, routing, classes and locks, and swapped the plan
      store; LOADED and LOAD_DONE set. -/
  | planApplyDone
  /-- SLOT_STAGING_DONE (R120): The staging copy and checks of a slot write have ended, and erasure of the marker sector
      begins. -/
  | slotStagingDone
  /-- MARKER_ERASE_DONE (R120): The marker sector of the slot being written has been erased. -/
  | markerEraseDone
  /-- IMAGE_ERASE_DONE (R120): The image area of the slot being written has been erased. -/
  | imageEraseDone
  /-- IMAGE_PROGRAM_DONE (R120): The image has been programmed into the slot. -/
  | imageProgramDone
  /-- READBACK_DONE (R120): The read-back of the slot ends, and a hash mismatch ends the write with VERIFY_FAIL. -/
  | readbackDone
  /-- MARKER_PROGRAM_DONE (R120): The new marker has been programmed with the next GENERATION, and WRITE_DONE sets. -/
  | markerProgramDone
  /-- QSPI_GRANT (R862): A unit waiting for the QSPI flash takes it when the holder releases it. -/
  | qspiGrant
  /-- ETH_PACKET_RX (R143): A received Ethernet frame is validated and classified to a stream entry or to the software
      receive queue. -/
  | ethPacketRx (p : Nat) (pkt : Packet)
  /-- ETH_TX_SLOT (R176): The port transmits the next software transmit slot in order and inserts the FCS. -/
  | ethTxSlot (p : Nat)
  /-- FRAME_CLOSE (R162): A frame closes when every packet has arrived, and ingress stamps it and publishes it to the
      ring. -/
  | frameClose (i : Nat)
  /-- FRAME_CLOSE_TIMER (R162): A frame closes as partial when a later timestamp has arrived and 2 ms have passed without
      a packet of the frame. -/
  | frameCloseTimer (i : Nat)
  /-- SNK_FRAME_START (R168): The first active line of a sink frame arrives, and ingress chooses its buffer. -/
  | snkFrameStart (j : Nat)
  /-- SNK_FRAME_CLOSE (R422): A sink frame closes at its last active line and is captured, stamped or dropped for format
      or size. -/
  | snkFrameClose (j : Nat) (f : SinkFrame)
  /-- STREAM_ENABLE (R145): Setting ENABLE on a stream entry is checked and either refused with CFG_REJ or enables the
      entry and resets its counters. -/
  | streamEnable (i : Nat) (w : Wr)
  /-- STREAM_DISABLE (R147): Clearing ENABLE discards the frame in assembly and makes the entry silent with TIMEOUT
      posted. -/
  | streamDisable (i : Nat) (w : Wr)
  /-- SILENCE_COMPARE (R172): Every 100 us ingress compares each entry's time since its last arrival with TIMEOUT and
      declares silence when exceeded. -/
  | silenceCompare
  /-- STREAM_RD_IDX_WRITE (R169): A consumer releases descriptor slots of a ring by writing RD_IDX. -/
  | streamRdIdxWrite (i : Nat) (w : Wr)
  /-- DEC_CTX_ENABLE (R197): Setting ENABLE on a decode context is checked and either refused or enables it with reset
      counters and references. -/
  | decCtxEnable (c : Nat) (w : Wr)
  /-- DEC_CTX_DISABLE (R198): Clearing ENABLE stops new pictures in the decode context. -/
  | decCtxDisable (c : Nat) (w : Wr)
  /-- DEC_DRAIN_DONE (R198): The pictures in decode have completed and been published, and ACTIVE clears. -/
  | decDrainDone (c : Nat)
  /-- DEC_CMD_WR_IDX_WRITE (R195): Software publishes access units in a decode command ring by writing CMD_WR_IDX. -/
  | decCmdWrIdxWrite (c : Nat) (w : Wr)
  /-- DEC_PICTURE_START (R201): A ready picture starts decoding on a free core of its group, taking the access unit from
      its input ring. -/
  | decPictureStart (c : Nat) (au : AccessUnit)
  /-- DEC_WORK_UNIT_DONE (R200): A decode work unit completes on its core, and the next unit is handed to the free core. -/
  | decWorkUnitDone (k : Nat) (r : UnitResult)
  /-- DEC_PICTURE_DONE (R203): Every work unit of a picture has completed, and the picture is written with its signature.
      `motion` is what its motion data hold (R205). -/
  | decPictureDone (c : Nat) (motion : List Byte)
  /-- DEC_WATCHDOG (R219): A work unit running over 100 ms trips the core watchdog, the core is reset and the unit
      concealed. -/
  | decWatchdog (k : Nat)
  /-- KEYREQ_REPEAT (R222): Every HOLD ms until an untainted IRAP picture is decoded, the key-picture request is repeated. -/
  | keyreqRepeat (c : Nat)
  /-- DEC_KEYREQ_WRITE (R223): A write of 1 to KEYREQ.REQ sends a key-picture request for a WLK context. -/
  | decKeyreqWrite (c : Nat) (w : Wr)
  /-- DEC_OUT_RD_IDX_WRITE (R208): The consumer releases output buffers by writing OUT_RD_IDX. -/
  | decOutRdIdxWrite (c : Nat) (w : Wr)
  /-- STALL_BASE_HI_WRITE (R251): In manual mode, a write of BASE_HI starts a shadow bind of the new buffer's stamp slot. -/
  | stallBaseHiWrite (n m : Nat) (w : Wr)
  /-- STALL_RING_SRC_WRITE (R251): In ring mode, a write that changes MODE, SRC_KIND or SRC starts a shadow bind of the
      newest published slot. -/
  | stallRingSrcWrite (n m : Nat) (reg : RingReg) (w : Wr)
  /-- SHADOW_BIND_DONE (R251): The shadow-bind reads end and STAMP_PEND clears. -/
  | shadowBindDone (n m : Nat)
  /-- TAKE_POINT (R253): At LEAD_LINES before the FLP, each ring-mode stall with a newer published slot takes the newest
      slot and reads its descriptor and stamp. -/
  | takePoint (n : Nat)
  /-- TAKE_READ_DONE (R253): The descriptor and stamp-slot reads of a take complete, or arrive too late and TAKE_LATE
      increments. -/
  | takeReadDone (n m : Nat)
  /-- STALL_FETCH_RETURN (R257): Data fetched for a stall returns and is decoded and composed. -/
  | stallFetchReturn (n m y : Nat)
  /-- STALL_FETCH_FAULT (R259): A refused or uncorrectable stall fetch draws fallback fill for the rest of the frame and
      posts FETCH_FAULT. -/
  | stallFetchFault (n m : Nat)
  /-- WB_ENABLE_WRITE (R282): A write that sets WB_CTRL.EN is refused for a bad ring size or enables write-back from the
      next latch. -/
  | wbEnableWrite (n : Nat) (w : Wr)
  /-- WB_PUBLISH (R270): The written-back frame, its stamp and descriptor become visible and WB_WR_IDX advances. -/
  | wbPublish (n : Nat)
  /-- AWNING_PIXEL_SPLIT (R298): Awning channels disagree on a pixel, and opaque SLATE is drawn or a head fault is raised. -/
  | awningPixelSplit (n x y : Nat) (pixels : List Nat)
  /-- INSTALL (R306): A BUNDLE_CTRL INSTALL request starts the security controller's copy and verification of an awning
      bundle. -/
  | install (w : Wr)
  /-- BUNDLE_VERIFY_DONE (R306): The bundle copy and checks end, and the staging region becomes the bundle's region or
      FAIL sets. -/
  | bundleVerifyDone
  /-- SP_BANK_SEL_WRITE (R330): A write of BANK_SEL naming the free bank starts a check of that bank. -/
  | spBankSelWrite (k : Nat) (w : Wr)
  /-- SP_BANK_CHECK_DONE (R330): The bank check ends, and the selection becomes pending or REJ_EV sets. -/
  | spBankCheckDone (k : Nat)
  /-- SP_COEF_DATA_ACCESS (R343): An access to COEF_DATA reaches two entries of the free bank and advances ENTRY by 2. -/
  | spCoefDataAccess (k : Nat) (a : PortAccess)
  /-- SP_ROM_LOAD (R332): A COEF_CMD write with LOAD copies a ROM set into the free bank. -/
  | spRomLoad (k : Nat) (w : Wr)
  /-- SP_ROM_LOAD_DONE (R332): The ROM load of coefficients ends. -/
  | spRomLoadDone (k : Nat)
  /-- LUT_DATA1_ACCESS (R336): An access to LUT_DATA1 stores or returns a table entry of the free bank and advances ENTRY. -/
  | lutData1Access (n : Nat) (a : PortAccess)
  /-- PIXCLK_WRITE (R353): A PIXCLK write on a stopped head sets the pixel PLL frequency, or is ignored with CFG_REJ_EV. -/
  | pixclkWrite (n : Nat) (w : Wr)
  /-- PLL_LOCK (R353): The head's pixel PLL locks and PLL_LOCK sets. -/
  | pllLock (n : Nat)
  /-- HEAD_RUN_SET (R354): Setting RUN on a planned head requests a start of its timing generator. -/
  | headRunSet (n : Nat) (w : Wr)
  /-- HEAD_START (R354): The generator starts at an FLP within 2 us of RUN or of PLL lock. -/
  | headStart (n : Nat)
  /-- HEAD_RUN_CLEAR (R355): Clearing RUN requests a halt at the next FLP. -/
  | headRunClear (n : Nat) (w : Wr)
  /-- HEAD_HALT (R355): The generator halts at the FLP after RUN was cleared, which is not a latch. -/
  | headHalt (n : Nat)
  /-- HEAD_COMMIT (R357): A write of COMMIT takes a snapshot of the commit set with its tag, or refuses it under R361. -/
  | headCommit (n : Nat) (w : Wr)
  /-- SNAPSHOT_ARM (R358): The snapshot handshake completes and the snapshot is armed, replacing any armed one. -/
  | snapshotArm (n : Nat)
  /-- HEAD_UNDERRUN (R366): An active pixel's clock comes without the pixel in the buffer, and the last pixel is repeated. -/
  | headUnderrun (n line pixel : Nat)
  /-- RGN_COMPARE (R372): At a region rectangle's last pixel, its CRC is compared with EXPECT. -/
  | rgnCompare (n r fault : Nat)
  /-- FAULT_CLR (R377): A FAULT_CLR write clears the head fault unless a channel shortfall persists. -/
  | faultClr (n : Nat) (w : Wr)
  /-- DS_FETCH_FAULT (R388): A refused or failed direct-scan fetch fills the rest of the frame with DS_FALLBACK. -/
  | dsFetchFault (n y : Nat)
  /-- TOL_MIN_READ (R398): A read of TOL_MIN returns the lowest TOL since the last read and restarts from the current TOL. -/
  | tolMinRead (n master : Nat)
  /-- SRC_PLUG (R412): A qualified plug at a source port starts the capability and EDID reads and training. -/
  | srcPlug (k : Nat) (caps : SinkCaps)
  /-- SRC_EDID_DONE (R412): The EDID read completes and EDID_EV sets. -/
  | srcEdidDone (k : Nat) (edid : List Byte)
  /-- SRC_UNPLUG (R414): A qualified unplug clears TRAINED, stops sending and sets HPD_EV. -/
  | srcUnplug (k : Nat) (edid : List Byte)
  /-- SRC_IRQ_HPD (R414): A qualified IRQ_HPD reads link status and retrains on lost lock, or flags a PSR error. -/
  | srcIrqHpd (k : Nat) (st : List Byte) (psrErr : Bool)
  /-- SRC_TRAIN_ATTEMPT_END (R413): A training attempt ends in success, a retry at a lower rate or lane count, or
      TRAIN_FAIL_EV. -/
  | srcTrainAttemptEnd (k : Nat) (ok : Bool)
  /-- RETRAIN (R425): A RETRAIN write starts training of the source port. -/
  | retrain (k : Nat) (w : Wr)
  /-- MST_REALLOC_DONE (R409): A reallocation after a DEPTH change completes, and video of the changed stream resumes. -/
  | mstReallocDone (k : Nat)
  /-- SRC_AUX_REQUEST (R428): A GO write issues a software AUX request, or refuses it for an owned DPCD address. -/
  | srcAuxRequest (k : Nat) (w : Wr)
  /-- SRC_AUX_DONE (R429): The software AUX request ends with its result and AUX_DONE_EV. -/
  | srcAuxDone (k : Nat) (result : Nat) (bytes : List Byte)
  /-- PANEL_PWR_ON (R415): Setting PWR_ON starts the eDP panel power-on sequence. -/
  | panelPwrOn (k : Nat) (w : Wr)
  /-- PANEL_PWR_OFF (R415): Clearing PWR_ON starts the eDP panel power-off sequence. -/
  | panelPwrOff (k : Nat) (w : Wr)
  /-- PANEL_DELAY_EXPIRY (R415): A panel sequence delay expires and the sequence takes its next step, with T3_MAX expiry
      setting PANEL_EV. -/
  | panelDelayExpiry (k : Nat)
  /-- SNK_HPD_EN_WRITE (R420): Setting or clearing HPD_EN asserts HPD or qualifies HPD loss at once. -/
  | snkHpdEnWrite (j : Nat) (w : Wr)
  /-- SNK_HPD_PULSE (R420): A HPD_PULSE write sends an IRQ_HPD pulse of 0.75 ms. -/
  | snkHpdPulse (j : Nat) (w : Wr)
  /-- SNK_SOURCE_DETECT (R421): A source is detected by the AUX idle bias and SRC_DET sets. -/
  | snkSourceDetect (j : Nat)
  /-- SNK_HPD_LOSS (R421): HPD loss is qualified, UNPLUG is posted to fed stalls and SRC_DET clears. -/
  | snkHpdLoss (j : Nat)
  /-- SNK_TRAINING (R419): The sink port answers a source's training requests in hardware. -/
  | snkTraining (j : Nat) (rate lanes : Nat) (ok : Bool)
  /-- SNK_LOCK_LOSS (R420): A trained sink link loses symbol lock, sends IRQ_HPD and counts LOCK_LOSS. -/
  | snkLockLoss (j : Nat)
  /-- ENC_CTX_ENABLE (R443): Setting ENABLE on an encode context is checked and either refused or enables it with a key
      picture first. -/
  | encCtxEnable (c : Nat) (w : Wr)
  /-- ENC_CTX_DISABLE (R444): Clearing ENABLE stops new pictures in the encode context. -/
  | encCtxDisable (c : Nat) (w : Wr)
  /-- ENC_DRAIN_DONE (R444): The picture in coding is published, its slot retires and ACTIVE clears. -/
  | encDrainDone (c : Nat)
  /-- ENC_PICTURE_START (R446): When all start conditions hold, the context takes the newest input slot and starts a
      picture. -/
  | encPictureStart (c : Nat)
  /-- ENC_ROW_START (R452): At each row start, rate control decides the row's QP, clamping or skip-coding. -/
  | encRowStart (c j spent : Nat) (done : List Nat)
  /-- ENC_WORK_UNIT_DONE (R449): An encode work unit completes on its core. -/
  | encWorkUnitDone (k : Nat) (rowBits : List Nat)
  /-- ENC_PICTURE_DONE (R452): A picture's last unit completes, rate control updates, the slot retires and the picture is
      published. `motion` is what the motion data of its reconstruction hold (R445). -/
  | encPictureDone (c : Nat) (au motion : List Byte)
  /-- ENC_OUTPUT_OVERFLOW (R468): A picture that outgrows the free data ring is discarded and counted in DROPS. -/
  | encOutputOverflow (c : Nat)
  /-- ENC_WATCHDOG (R466): A work unit running over 100 ms trips the core watchdog and the picture is discarded. -/
  | encWatchdog (k : Nat)
  /-- ENC_KEYREQ_WRITE (R461): A write of KEYREQ.REQ latches a key-picture request, or discards it under HOLDOFF. -/
  | encKeyreqWrite (c : Nat) (w : Wr)
  /-- ENC_OUT_RD_IDX_WRITE (R458): The consumer releases encoded access units by writing OUT_RD_IDX. -/
  | encOutRdIdxWrite (c : Nat) (w : Wr)
  /-- BLOCK_LOCK (R480): A receiving lane gains block lock after 64 valid sync headers. -/
  | blockLock (link : Link) (lane : Nat)
  /-- BLOCK_LOCK_LOSS (R480): A lane loses block lock and an UP link goes DOWN. -/
  | blockLockLoss (link : Link) (lane : Nat)
  /-- LINK_DESKEW (R481): All lanes are locked and deskewed, and the part sends HELLO. -/
  | linkDeskew (link : Link)
  /-- WLK_FRAME_REJECT (R484): A link frame failing CRC, framing, authentication or replay checks is dropped and counted. -/
  | wlkFrameReject (link : Link) (why : FrameFault)
  /-- HELLO (R500): A received HELLO is checked, keys are derived and FINISH is sent, or the link fails. -/
  | hello (link : Link) (f : LinkFrame)
  /-- FINISH (R502): A received FINISH with a matching H brings the link UP. -/
  | finish (link : Link) (f : LinkFrame)
  /-- FINISH_TIMEOUT (R502): No correct FINISH within 20 ms of HELLO sets FAIL FINISH. -/
  | finishTimeout (link : Link)
  /-- VIDEO (R490): A received VIDEO frame is assembled into an access unit at its ingress entry. -/
  | video (f : LinkFrame)
  /-- AUDIO (R491): A received AUDIO frame delivers samples to the audio ports bound to its VC and tag. -/
  | audio (f : LinkFrame)
  /-- INPUT (R493): A received INPUT frame goes to the software receive queue. -/
  | input (f : LinkFrame)
  /-- CONTROL_SOFTWARE (R497): A received CONTROL SOFTWARE frame goes to the software receive queue. -/
  | controlSoftware (f : LinkFrame)
  /-- KEYREQ (R494): A validated KEYREQ frame latches a key-picture request at the matching encode context or counts
      KEYREQ_UNMATCHED. -/
  | keyreq (f : LinkFrame)
  /-- HEARTBEAT (R495): A received HEARTBEAT frame refreshes the link's liveness. -/
  | heartbeat (f : LinkFrame)
  /-- ATTEST_REQUEST (R496): A received ATTEST REQUEST makes the part attest the head or answer REFUSED. -/
  | attestRequest (f : LinkFrame)
  /-- ATTEST_RECORD (R496): Received RECORD and REFUSED frames go to the software receive queue. -/
  | attestRecord (f : LinkFrame)
  /-- HEARTBEAT_SEND (R495): After HB_PERIOD without any sent frame, a HEARTBEAT is sent. -/
  | heartbeatSend (link : Link)
  /-- HEARTBEAT_LOSS (R506): No accepted frame for LOSS_LIMIT times HB_PERIOD takes the link DOWN. -/
  | heartbeatLoss (link : Link)
  /-- WLK_FRAME_TX (R487): The transmitter sends the next frame by VC 15 priority then weighted round robin. -/
  | wlkFrameTx (link : Link)
  /-- INPUT_FORWARD (R493): Queued touch and GPIO events are sent as an INPUT frame within 20 us. -/
  | inputForward
  /-- REKEY (R503): A REKEY write starts a rekey handshake under the current keys. -/
  | rekey (w : Wr)
  /-- WLK_ENABLE (R505): Setting EN starts bring-up of the wall link. -/
  | wlkEnable (w : Wr)
  /-- WLK_DISABLE (R506): Clearing EN takes the link DOWN at the next frame boundary. -/
  | wlkDisable (w : Wr)
  /-- PAIR_TICK (R525): At each pair tick, the part sends TICK, toggles TWIN_HB and captures a state copy. -/
  | pairTick
  /-- TICK (R527): A received TICK frame is a heartbeat and delivers the peer's health report. -/
  | tick (f : LinkFrame)
  /-- TWIN_PHB_EDGE (R527): An edge at TWIN_PHB is a heartbeat that restarts the window. -/
  | twinPhbEdge (level : Bool)
  /-- HEARTBEAT_MISSED (R527): A heartbeat window ends without a heartbeat, and the third consecutive miss triggers a
      switch-over. -/
  | heartbeatMissed
  /-- STEP (R531): A received step record directs the standby's commit, slot takes and output CRC comparison at its latch. -/
  | step (f : LinkFrame)
  /-- COPY (R534): A complete state copy is applied on the standby and committed, or an incomplete one is discarded. -/
  | copy (f : LinkFrame)
  /-- FORWARD (R524): A forwarded wall-link frame is taken by the standby's ingress as a wall-link frame. -/
  | forward (f : LinkFrame)
  /-- FORWARD_DROP (R524): A FORWARD frame not sent within 250 us is dropped and counted. -/
  | forwardDrop
  /-- SWITCH_REQ (R545): A received SWITCH REQ makes the standby check READY and answer ACCEPT or ABORT. -/
  | switchReq (f : LinkFrame)
  /-- SWITCH_ACCEPT (R545): A received ACCEPT makes the outgoing part drop TWIN_ACT and hand over. -/
  | switchAccept (f : LinkFrame)
  /-- SWITCH_ABORT (R549): A received ABORT makes a live outgoing part take back the active role. -/
  | switchAbort (f : LinkFrame)
  /-- TWIN_SWITCH (R542): A TWIN CTRL SWITCH command requests a host switch-over, or is refused. -/
  | twinSwitch (w : Wr)
  /-- TWIN_PLANNED (R542): A TWIN CTRL PLANNED command requests a switch-over at the active part's next tick. -/
  | twinPlanned (w : Wr)
  /-- DECLARE_FAULT (R543): A TWIN CTRL DECLARE_FAULT command on the active part declares a fault. -/
  | declareFault (w : Wr)
  /-- TWIN_PACT_FALL (R543): A fall of TWIN_PACT without an ACCEPT is treated by the standby as a fault declaration. -/
  | twinPactFall
  /-- TWIN_PACT_RISE (R541): A rise of TWIN_PACT without an ACCEPT puts an active part in conflict, and it yields. -/
  | twinPactRise
  /-- ELECTION_TIMEOUT (R540): After the election wait, the part becomes ACTIVE or STANDBY. -/
  | electionTimeout
  /-- ELECTION_RETRY (R541): After a conflict, the part re-enters ELECTING after 100 ms plus b ms. -/
  | electionRetry
  /-- BIST_UNIT_DONE (R537): BIST of an idle unit ends, and the rotation moves on or a failure is recorded. -/
  | bistUnitDone (ok : Bool)
  /-- TICK_WORK_MISSED (R786): After three ticks without tick work, the island drops TWIN_ACT and forces every slate. -/
  | tickWorkMissed
  /-- MEM_ACCESS (R577): A master's access is checked against its checker and then served by the memory. -/
  | memAccess (a : Access)
  /-- SCRUB_READ (R563): The scrubber reads the next 64-byte unit and handles errors. -/
  | scrubRead (u : Upsets)
  /-- SR_ENTRY (R565): After IDLE us without requests and with tolerance, the stack enters self-refresh. -/
  | srEntry
  /-- SR_EXIT (R566): A request or MIN_TOL at 6 us begins self-refresh exit. -/
  | srExit
  /-- SR_EXIT_DONE (R566): Self-refresh exit completes and waiting requests are served. -/
  | srExitDone
  /-- RECOLOUR_REQUEST (R572): A write of RC_CTRL starts a recolouring command over RC_COUNT pages. -/
  | recolourRequest (w : Wr)
  /-- RECOLOUR_PAGE (R572): One page is checked, retagged, invalidated and optionally zeroed, or the command fails. -/
  | recolourPage (u : Upsets)
  /-- SET (R598): A TB CTRL SET loads seconds and nanoseconds, refused while LOCKED. -/
  | set (t : Nat) (w : Wr)
  /-- STEP_TB (R598): A TB CTRL STEP adds signed nanoseconds, refused while LOCKED. -/
  | stepTb (t : Nat) (w : Wr)
  /-- LOCK (R598): A TB CTRL LOCK sets LOCKED. -/
  | lock (t : Nat) (w : Wr)
  /-- UNLOCK (R598): A TB CTRL UNLOCK clears LOCKED. -/
  | unlock (t : Nat) (w : Wr)
  /-- TB_RATE_HI_WRITE (R593): A write of RATE_HI sets the rate correction and feeds the holdover check, unless the servo
      owns it. -/
  | tbRateHiWrite (t : Nat) (w : Wr)
  /-- OFFSET_IN_WRITE (R604): A write of OFFSET_IN records the offset and runs the servo once on package Q. -/
  | offsetInWrite (t : Nat) (w : Wr)
  /-- SERVO_ENABLE_WRITE (R604): Setting SERVO.EN clears the integrator and hands RATE to the servo. -/
  | servoEnableWrite (t : Nat) (w : Wr)
  /-- HOLDOVER_EXPIRY (R602): LIMIT ms without a feeding write clears LOCKED and sets HOLDOVER_EV. -/
  | holdoverExpiry (t : Nat)
  /-- NOW_NS_READ (R597): A read of NOW_NS latches the seconds and fraction of the same TS clock. -/
  | nowNsRead (t master : Nat)
  /-- TS_POP (R608): A write of TS_POP removes the oldest timestamp queue entry. -/
  | tsPop (p : Nat) (tx : Bool) (w : Wr)
  /-- SWI_SET (R622): A write of SWI_SET makes software interrupt sources pending as edges. -/
  | swiSet (w : Wr)
  /-- IRQ_DELIVERY_POINT (R626): Every 4 FAB clocks, eligible sources are offered and stale offers withdrawn. -/
  | irqDeliveryPoint
  /-- HOLDOFF_EXPIRY (R630): A group's hold-off timer expires and its sources may be offered again. -/
  | holdoffExpiry (g : Nat)
  /-- CLAIM (R633): A read of CLAIM returns and pushes the highest claimable source. -/
  | claim (k master : Nat)
  /-- COMPLETE (R634): A write of COMPLETE pops the matching top entry. -/
  | complete (k : Nat) (w : Wr)
  /-- STACK_RESET (R636): A keyed STACK_RESET empties the stack and clears a freeze. -/
  | stackReset (k : Nat) (w : Wr)
  /-- GO (R653): A CVE CTRL GO starts a check-value job or fails with BUSY or CONFIG. -/
  | go (e : Nat) (w : Wr)
  /-- CVE_ABORT (R655): A CVE CTRL ABORT ends the running job within 1 us. -/
  | cveAbort (e : Nat) (w : Wr)
  /-- CVE_BLOCK_DONE (R648): A block completes, VALUE and AVALUE are computed, compared and recorded, and the alive count
      advances. -/
  | cveBlockDone (e : Nat)
  /-- CVE_ACCESS_FAULT (R654): A refused or failed job access ends the job with its code. -/
  | cveAccessFault (e : Nat)
  /-- LANE_PWR_WRITE (R668): A write of PWR requests a power state on a raw lane, or is refused on other lanes. -/
  | lanePwrWrite (l : Nat) (w : Wr)
  /-- LANE_STATE_CHANGE_DONE (R666): A lane completes a change of power state. -/
  | laneStateChangeDone (l : Nat)
  /-- CDR_LOCK (R666): A lane receiver locks its CDR, and adaptation runs where the function adapts. -/
  | cdrLock (l : Nat)
  /-- CDR_LOCK_LOSS (R680): A lane loses CDR lock while ACTIVE, discarding a pending slip. -/
  | cdrLockLoss (l : Nat)
  /-- SLIP (R675): A write of SLIP requests a one-UI boundary move, or is refused. -/
  | slip (l : Nat) (w : Wr)
  /-- SLIP_APPLIED (R675): The slip takes effect and SLIPS increments. -/
  | slipApplied (l : Nat)
  /-- PRBS_CHECK_ENABLE (R673): Setting CHK_EN clears the PRBS counts and starts seeding. -/
  | prbsCheckEnable (l : Nat) (w : Wr)
  /-- PRBS_LOCK (R673): The PRBS checker locks after 64 agreeing bits. -/
  | prbsLock (l : Nat)
  /-- PRBS_LOSS (R673): 256 errors in 65,536 bits lose checker lock. -/
  | prbsLoss (l : Nat)
  /-- RX_WORD_READ (R674): A read of RX_WORD_LO returns the newest word and latches RX_WORD_HI. -/
  | rxWordRead (l master word : Nat)
  /-- CAL_GO (R836): A keyed CAL_CTRL GO starts a shell calibration. -/
  | calGo (shell : Nat) (w : Wr)
  /-- CAL_DONE (R836): A shell calibration ends with DONE or FAIL. -/
  | calDone (shell : Nat) (ok : Bool) (us : Nat)
  /-- SHELL_HEALTH_EVAL (R837): Every 10 us a shell evaluates its health and reports its detector. -/
  | shellHealthEval (shell : Nat) (causes : Nat)
  /-- SAMPLE_FRAME (R698): At each FS boundary the port sends and receives a sample frame with drop or repeat decisions. -/
  | sampleFrame (p len : Nat) (rx : List (Nat × List Nat))
  /-- SAP_RUN_SET (R703): Setting RUN starts the port at the next frame boundary with gated channels. -/
  | sapRunSet (p : Nat) (w : Wr)
  /-- SAP_RUN_CLEAR (R703): Clearing RUN requests a gate change and stop. -/
  | sapRunClear (p : Nat) (w : Wr)
  /-- SAP_MUTE_WRITE (R703): Setting or clearing MUTE requests a gate change on every transmit channel. -/
  | sapMuteWrite (p : Nat) (w : Wr)
  /-- ZC_TIMEOUT (R703): Channels not yet changed after ZC_TIMEOUT ms change at the next frame. -/
  | zcTimeout (p : Nat)
  /-- SLOT_MASK_WRITE (R704): A SLOT_MASK write applies at the next frame boundary and records MASK_POS. -/
  | slotMaskWrite (p : Nat) (w : Wr)
  /-- PLL_CFG_WRITE (R690): A PLL_CFG write changes the audio PLL frequency, or is refused. -/
  | pllCfgWrite (w : Wr)
  /-- PLL_ADJ_WRITE (R690): A PLL_ADJ write trims the audio PLL without a phase step. -/
  | pllAdjWrite (w : Wr)
  /-- MEAS_FS_UPDATE (R692): Each second of REFCLK the measured frame rate is updated. -/
  | measFsUpdate (p : Nat)
  /-- TCH_RUN_SET (R715): Setting RUN on a touch group is checked and starts calibration and scanning. -/
  | tchRunSet (g : Nat) (w : Wr)
  /-- TCH_RUN_CLEAR (R724): Clearing RUN ends the group after the current scan with RELEASE_STOP events. -/
  | tchRunClear (g : Nat) (w : Wr)
  /-- TCH_CH_EN_WRITE (R716): Enabling channels while running starts their calibration. -/
  | tchChEnWrite (g : Nat) (hi : Bool) (w : Wr)
  /-- TCH_CALIBRATION_DONE (R716): A channel's calibration chooses COMP and charge current, or reports FAULT. -/
  | tchCalibrationDone (g : Nat) (caps : List (Nat × Nat))
  /-- TCH_SCAN_START (R714): Every SCAN_PERIOD a group starts a four-phase scan. -/
  | tchScanStart (g : Nat)
  /-- TCH_PHASE_END (R717): At each phase window end, each channel's RAW is evaluated for touch, release, anti-touch and
      drift. -/
  | tchPhaseEnd (g : Nat) (nets : List (Nat × Nat))
  /-- THERMAL_UPDATE (R732): Every 50 us each channel advances the thermal model and the levels are voted. -/
  | thermalUpdate (upsets : List NodeUpset)
  /-- POWER_SENSE_SAMPLE (R733): Every 10 us the power-sense cores measure each rail. -/
  | powerSenseSample (mw : List Nat)
  /-- BND_READ (R735): Every 10 ms the board sensor is read, or a failure counted and fallback applied. -/
  | bndRead (r : BndResult)
  /-- REARM (R746): A THERM CTRL REARM powers up and resets the display class, or is refused. -/
  | rearm (w : Wr)
  /-- TJ_PEAK_READ (R754): A read of TJ_PEAK returns the highest TJ since the last read and restarts. -/
  | tjPeakRead (master : Nat)
  /-- GET_ID (R765): A mailbox command returns the identity public key and DIE_ID. -/
  | getId (w : Wr)
  /-- GET_CERT (R765): A mailbox command returns DEV_CERT. -/
  | getCert (w : Wr)
  /-- GET_NONCE (R765): A mailbox command returns a nonce for authorisation. -/
  | getNonce (w : Wr)
  /-- GET_STATUS (R765): A mailbox command refreshes STATUS and PLAN_FLOOR. -/
  | getStatus (w : Wr)
  /-- ENROLL_KEY (R767): A mailbox command enrols a plan-key hash into an OTP slot. -/
  | enrollKey (w : Wr)
  /-- REVOKE_KEY (R767): A mailbox command revokes a plan-key slot. -/
  | revokeKey (w : Wr)
  /-- RAISE_FLOOR (R767): A mailbox command raises the OTP plan floor. -/
  | raiseFloor (w : Wr)
  /-- SET_LIFECYCLE (R763): A mailbox command moves the lifecycle state forward. -/
  | setLifecycle (w : Wr)
  /-- ENROLL_DEBUG (R767): A mailbox command enrols the debug key hash. -/
  | enrollDebug (w : Wr)
  /-- SET_BND (R767): A mailbox command programs the OTP boundary constant. -/
  | setBnd (w : Wr)
  /-- KEY_PUT (R765): A mailbox command stores a key record in the key store. -/
  | keyPut (w : Wr)
  /-- KEY_DELETE (R765): A mailbox command deletes a key-store entry. -/
  | keyDelete (w : Wr)
  /-- MACSEC_SAK (R767): A mailbox command unwraps a SAK and installs it in a MACsec engine. -/
  | macsecSak (w : Wr)
  /-- MKA_ICV (R765): A mailbox command computes an MKA ICV. -/
  | mkaIcv (w : Wr)
  /-- MAILBOX_COMMAND_END (R765): A running mailbox command ends with its code, DONE or FAIL. -/
  | mailboxCommandEnd (bad : Option Nat)
  /-- ID_RECONSTRUCT (R758): The identity key is reconstructed from the PUF and ID_OK or ID_FAIL_EV sets. -/
  | idReconstruct (ok : Bool)
  /-- KEYSTORE_LOAD (R757): At start the controller loads the authentic key-store copy with the higher generation. -/
  | keystoreLoad
  /-- DEBUG_UNLOCK (R768): A valid debug signature over the challenge unlocks debug in FIELD. -/
  | debugUnlock (pub sigR sigS : List Byte)
  /-- POWER_ON_RESET (R780): PORn low or VDD_AON loss starts a POWER-ON reset. -/
  | powerOnReset (aon : Bool)
  /-- BROWN_OUT_RESET (R780): A core supply below its threshold starts a BROWN-OUT reset. -/
  | brownOutReset
  /-- WARM_RESET (R780): WRSTn low starts a WARM reset. -/
  | warmReset
  /-- SWRST (R780): A keyed SWRST write with OP WARM starts a WARM reset. -/
  | swrst (w : Wr)
  /-- RESET_END (R791): A reset source ends and the start-up sequence begins. -/
  | resetEnd (gpio0 : Bool)
  /-- HBM_INIT_DONE (R559): HBM is trained and tags written, and INIT_DONE sets. -/
  | hbmInitDone
  /-- BOOT_IMAGE_VERIFY (R790): The boot ROM verifies a boot image and jumps to it, or refuses it. -/
  | bootImageVerify
  /-- HOST_BOOT_GO (R789): A keyed BOOT_CTRL GO hands the boot ROM a host image. -/
  | hostBootGo (w : Wr)
  /-- REFCLK_CHECK (R779): Each 10 us AON window counts REFCLK edges and detects good or lost REFCLK. -/
  | refclkCheck (edges : Nat)
  /-- AON_SPLIT (R784): The island's three channels split and TWIN_ACT is dropped. -/
  | aonSplit
  /-- WDOG_EXPIRY (R798): The system watchdog expires, setting WDOG_FIRST or acting under ACTION. -/
  | wdogExpiry
  /-- WDOG_KICK (R798): A keyed WDOG_KICK restarts the count and clears WDOG_FIRST. -/
  | wdogKick (w : Wr)
  /-- WDOG_CFG_WRITE (R798): An accepted WDOG_CFG write restarts or stops the watchdog count. -/
  | wdogCfgWrite (w : Wr)
  /-- CC_RESET_WRITE (R788): Clearing a core's RESET starts it at BOOT, and setting it holds it in reset. -/
  | ccResetWrite (k : Nat) (w : Wr)
  /-- CC_PARK_WRITE (R787): Clearing PARK releases a parked core, and setting it parks it at its next wait-for-interrupt. -/
  | ccParkWrite (k : Nat) (w : Wr)
  /-- CC_WFI (R787): A core executes wait-for-interrupt and enters WFI or PARKED. -/
  | ccWfi (k : Nat)
  /-- LEDGER_WRITE (R805): The island writes a fault-ledger entry within 10 us of a detection, or suppresses it. -/
  | ledgerWrite
  /-- FAULT_INJECT_ARM (R809): A keyed INJ write with ARM arms an injection point, or is refused with INJ_REFUSED. -/
  | faultInjectArm (d : Nat) (w : Wr)
  /-- DB_SET_WRITE (R827): A write of DB_SET raises doorbells and may assert source 318. -/
  | dbSetWrite (w : Wr)
  /-- GPIO_EDGE (R829): A counted GPIO edge is presented to its interrupt source and queued as a record. -/
  | gpioEdge (pin : Nat) (level : Bool)
  /-- I2C_TRANSACTION (R832): A GO write starts an I2C transaction, or waits behind a thermal read. -/
  | i2cTransaction (b : Nat) (w : Wr)
  /-- I2C_DONE (R832): An I2C transaction ends with its result. -/
  | i2cDone (b : Nat) (result : Nat) (bytes : List Byte)
  /-- DESKEW_LOSS (R506): Skew between the lanes of an UP link grows beyond the 64 block times of R481, and the link goes
      DOWN with FAIL DESKEW. -/
  | deskewLoss (link : Link)
  /-- SAP_BCLK_LOSS (R692): On a slave audio port, BCLK stops toggling for 4 expected periods and STAT.CLK_OK clears. -/
  | sapBclkLoss (p : Nat)
  /-- AON_DISSENT (R784): One channel of the island's state machine dissents, is overwritten from the majority at the next
      AON clock, and a ledger entry is written. -/
  | aonDissent (ch : Nat)
  /-- LUT_RESET_DONE (R336): After a reset of the HEAD block, the identity fill of both banks of both colour tables
      completes within 20 us, and table port writes stop being ignored. -/
  | lutResetDone
deriving DecidableEq, Repr

end Sys2Proof
end

