-- ==== Sys2Proof/Machine/Bits.lean ====
section
/-! DEFINITION. Byte order, sign and saturation helpers. -/

namespace Sys2Proof

/-- Little-endian bytes of a number, lowest first. -/
def bytesLE : Nat → Nat → List Byte
  | 0, _ => []
  | n + 1, v => BitVec.ofNat 8 v :: bytesLE n (v / 256)

/-- The number that little-endian bytes spell. -/
def natLE : List Byte → Nat
  | [] => 0
  | b :: bs => b.toNat + 256 * natLE bs

/-- The number that big-endian bytes spell (network headers, SEC 1 values). -/
def natBE (bs : List Byte) : Nat :=
  bs.foldl (fun a b => a * 256 + b.toNat) 0

/-- `n` bytes of `bs` from `o` on; bytes past the end are missing. -/
def slice (bs : List Byte) (o n : Nat) : List Byte :=
  (bs.drop o).take n

/-- The little-endian number of `n` bytes at offset `o`. -/
def leAt (bs : List Byte) (o n : Nat) : Nat :=
  natLE (slice bs o n)

/-- The big-endian number of `n` bytes at offset `o`. -/
def beAt (bs : List Byte) (o n : Nat) : Nat :=
  natBE (slice bs o n)

/-- Bits `hi` to `lo` of a number. -/
def bitsOf (v hi lo : Nat) : Nat :=
  v / 2 ^ lo % 2 ^ (hi + 1 - lo)

/-- Bit `i` of a number. -/
def bitOf (v i : Nat) : Bool :=
  v / 2 ^ i % 2 == 1

/-- A number of `w` bits read as two's complement. -/
def signed (w v : Nat) : Int :=
  if v % 2 ^ w < 2 ^ (w - 1) then (v % 2 ^ w : Nat) else (v % 2 ^ w : Nat) - (2 ^ w : Nat)

/-- An integer as `w` bits of two's complement. -/
def unsign (w : Nat) (v : Int) : Nat :=
  (v % (2 ^ w : Nat)).toNat

/-- Saturation at `w` bits. -/
def sat (w v : Nat) : Nat :=
  min v (2 ^ w - 1)

/-- An integer held to a range. -/
def clampInt (lo hi v : Int) : Int :=
  max lo (min hi v)

/-- 1 for true. -/
def b2n (b : Bool) : Nat :=
  if b then 1 else 0

/-- Bits of a list of truth values, bit 0 first. -/
def bitsFrom : List Bool → Nat
  | [] => 0
  | b :: t => b2n b + 2 * bitsFrom t

/-- A value put into its place by rank, after those of its rank. -/
def insertRanked {α : Type} (rank : α → Nat) (v : α) : List α → List α
  | [] => [v]
  | a :: as => if rank a ≤ rank v then a :: insertRanked rank v as else v :: a :: as

/-- The `n` values of least rank, in the order of rank. -/
def leastRanked {α : Type} (rank : α → Nat) (n : Nat) (l : List α) : List α :=
  l.foldl (fun best v => (insertRanked rank v best).take n) []

/-- Division rounding up. -/
def ceilDiv (a b : Nat) : Nat :=
  (a + b - 1) / b

/-- The value of a list at an index, or a default. -/
def nth {α : Type} (d : α) : List α → Nat → α
  | [], _ => d
  | a :: _, 0 => a
  | _ :: t, n + 1 => nth d t n

end Sys2Proof
end

