-- ==== Sys2Proof/Machine/Crc.lean ====
section
/-! DEFINITION. The cyclic redundancy checks of the manual (R34, R85, R371, R646), computed bit by bit. -/

namespace Sys2Proof

/-- One bit of a reflected CRC. -/
def crcBit (poly c : Nat) : Nat :=
  if c % 2 = 1 then Nat.xor (c / 2) poly else c / 2

/-- One byte of a reflected CRC. -/
def crcByte (poly c : Nat) (b : Byte) : Nat :=
  (List.range 8).foldl (fun c _ => crcBit poly c) (Nat.xor c b.toNat)

/-- A reflected CRC without final XOR. -/
def crcRun (poly c : Nat) (bs : List Byte) : Nat :=
  bs.foldl (crcByte poly) c

/-- CRC-32C with initial value and final XOR 0xFFFF_FFFF (R34, R85, R371). (DESIGN CHOICE, log 9.) -/
def crc32c (bs : List Byte) : Nat :=
  Nat.xor (crcRun 0x82F63B78 0xFFFFFFFF bs) 0xFFFFFFFF

/-- One byte of an unreflected CRC of `w` bits. -/
def crcByteMsb (w poly c : Nat) (b : Byte) : Nat :=
  (List.range 8).foldl (fun c _ => if bitOf c (w - 1) then Nat.xor (c * 2 % 2 ^ w) poly else c * 2 % 2 ^ w)
    (Nat.xor c (b.toNat * 2 ^ (w - 8)))

/-- The check value of POLY over bytes (R646): CRC-32C, CRC-32, CRC-16/CCITT-FALSE, CRC-64/ECMA-182.
(DESIGN CHOICE, log 9.) -/
def checkValue (poly : Nat) (bs : List Byte) : Nat :=
  match poly with
  | 0 => crc32c bs
  | 1 => Nat.xor (crcRun 0xEDB88320 0xFFFFFFFF bs) 0xFFFFFFFF
  | 2 => bs.foldl (crcByteMsb 16 0x1021) 0xFFFF
  | _ => bs.foldl (crcByteMsb 64 0x42F0E1EBA9EA3693) 0

end Sys2Proof
end

