-- ==== Sys2Proof/Config.lean ====
section
/-! DEFINITION. The free values: constants with no body, one for every value that the spec leaves open or that a
cryptographic function of the part makes. A claim holds whatever they are. -/

namespace Sys2Proof.Config

/-- UNPREDICTABLE outcomes (R18): the writes that stand for the `k`th such outcome, as (address, data) pairs. -/
opaque unpredWrites : Nat → List (Nat × W32)

/-- The `k`th value that the spec does not state; the caller cuts it to the width it needs. -/
opaque freeValue : Nat → Nat

/-- SHA-384 of a byte string (R88). -/
opaque sha384 : List Byte → List Byte

/-- ECDSA P-384 verification: public key, hash, r, s (R88, R89). -/
opaque ecdsaVerify : List Byte → List Byte → List Byte → List Byte → Bool

/-- ECDSA P-384 signature r and s by the identity key over a hash (R770, R500). -/
opaque identitySign : List Byte → List Byte × List Byte

/-- The identity public key, 97 bytes (R758, R765). -/
opaque identityKey : List Byte

/-- The `k`th draw of the random source (R756). -/
opaque random : Nat → List Byte

/-- AES-256-GCM decryption under a named key: key label, ciphertext; none where authentication fails (R757, R766). -/
opaque gcmOpen : List Byte → List Byte → Option (List Byte)

/-- AES-256-GCM encryption under a named key (R757). -/
opaque gcmSeal : List Byte → List Byte → List Byte

/-- RFC 3394 unwrap of a SAK under the KEK of a CAK (R767). -/
opaque unwrapSak : List Byte → List Byte → Option (List Byte)

/-- The MKA ICV of a message under the ICK of a CAK (R765). -/
opaque mkaIcv : List Byte → List Byte → List Byte

/-- ECDH and HKDF-SHA-384: own ephemeral label, peer public key, info (R501, R766). -/
opaque deriveKey : List Byte → List Byte → List Byte → List Byte

/-- The boot ROM's bytes, which the spec does not give (R569, R789). -/
opaque romByte : Nat → Byte

/-- AES-XTS-256 of a 64-byte data unit at an address under the keys of this power-on (R568): as stored, and as read. -/
opaque xtsSeal : Nat → List Byte → List Byte
opaque xtsOpen : Nat → List Byte → List Byte

/-- The HBM channel of an address: the fixed hash of R558, which the spec does not give. -/
opaque channelHash : Nat → Nat

/-- The ROM glyph set of the awning (R305): luminous pixels of a glyph, character code, row, column. -/
opaque romGlyph : Nat → Nat → Nat → Bool

/-- Rounding of an interpolated chroma sample that lies between two 12-bit values (R242): up where odd, by the sum of
its weighted neighbours in eighths. -/
opaque chromaRound : Nat → Nat

/-- Order in which the source samples under an output sample, whose covered fractions are no multiples of 1/256, have
their weights rounded up (R262): samples in, samples out, output index, source index. -/
opaque areaRank : Nat → Nat → Nat → Nat → Nat

/-- Validation of a received frame by IEEE 802.1AE under a receive SAK, at the `k`th free value (R151): the frame within;
none where it fails. -/
opaque macsecOpen : Nat → List Byte → List Byte → Option (List Byte)

/-- Protection of a frame sent by IEEE 802.1AE under a transmit SAK, at the `k`th free value (R151). -/
opaque macsecSeal : Nat → List Byte → List Byte → List Byte

/-- A YCbCr 4:2:2 stream of an entry comes at depth 8, not 10: no register holds it (R157). -/
opaque streamDepth8 : Nat → Bool

/-- Channels of an ST 2110-30 entry's stream, and whether its samples are L16: no register holds either (R694). -/
opaque audioChannels : Nat → Nat
opaque audioL16 : Nat → Bool

/-- Samples that the decoding process of a codec's standard gives, which is not in the spec (R191): at the `k`th free value,
from an access unit's bytes and its reference pictures by picture order count, as element by plane, column and line. -/
opaque decodeSample : Nat → List Byte → List (Int × (Nat → Nat → Nat → Nat)) → Nat → Nat → Nat → Nat

/-- What a decode core has not decoded of a work unit when its watchdog trips, as (x, y, width, height) (R219): at the `k`th
free value. -/
opaque undecoded : Nat → List (Nat × Nat × Nat × Nat)

/-- A component of the reconstruction that the coding of a codec's standard gives, which is not in the spec (R435, R436): at
the `k`th free value, of a key picture or not, with QP and skip coding of every row, from the converted input by component,
column and line, and the reference pictures likewise with their motion vectors (block, vector in quarter samples). -/
opaque encodeSample : Nat × Bool × List (Nat × Bool) → (Nat → Nat → Nat → Nat) →
  List ((Nat → Nat → Nat → Nat) × List ((Nat × Nat × Nat × Nat) × (Int × Int))) → Nat → Nat → Nat → Nat

/-- Rank that the motion search gives a candidate, least for the best (R439 does not say how positions compare): input and
edge-replicated reference luma by column and line, step of the search, block (x, y, width, height), and the vector in
quarter samples. -/
opaque motionRank : (Nat → Nat → Nat) → (Int → Int → Nat) → Nat → (Nat × Nat × Nat × Nat) → (Int × Int) → Nat

/-- What an 8-bit input sample becomes in a 10-bit stream (R438). -/
opaque encDeepen : Nat → Nat

/-- Contents of a lane's scrambler as its link starts (R479), and of a raw lane's PRBS generator (R672). -/
opaque scramblerSeed : Nat → Nat → Nat
opaque prbsSeed : Nat → Nat

/-- Phase of a serial audio port's BCLK divider (R691, log 52). -/
opaque bclkPhase : Nat → Nat

/-- Pages of motion data of a decode buffer, by width and height (R205). -/
opaque decMotion : Nat → Nat → Nat

/-- Pages of motion data of a reference buffer, by width, height and SPLIT_CFG (R445). -/
opaque encMotion : Nat → Nat → Nat → Nat

/-- Calibration of the thermal model in OTP (R734): heat capacity of a node in µJ/K, conductance between two nodes and to
the boundary in µW/K, share of a domain's power at a node in 1/65536, highest power of a domain in mW, whether a
power-sense core feeds a domain, and share of a domain's power that is of the bulk class in 1/256. -/
opaque thermCap : Nat → Nat
opaque thermG : Nat → Nat → Nat
opaque thermGb : Nat → Nat
opaque thermWeight : Nat → Nat → Nat
opaque thermMax : Nat → Nat
opaque thermFeeds : Nat → Nat → Bool
opaque thermBulk : Nat → Nat

/-- Rounding of the model's quotients (R732): up where odd, by dividend and divisor. -/
opaque thermRound : Int → Nat → Nat

/-- Core revision of an analogue-core kind, and test-set value of a TRIM register by address (R835). -/
opaque shellRev : Nat → Nat
opaque testTrim : Nat → Nat

/-- Size of a KEY_PUT record, and the entry ID that a record asks for; none where it names no valid one (R765): the spec
gives no layout. -/
opaque recordSize : Nat
opaque recordEntry : List Byte → Option Nat

/-- A key-store copy in flash, encoded, encrypted and authenticated (R757): from a generation and the entries, and back;
none where it is not authentic. -/
opaque storeSeal : Nat → List (Nat × List Byte) → List Byte
opaque storeOpen : List Byte → Option (Nat × List (Nat × List Byte))

/-- Entry ID and message length that DATA0 of MKA_ICV gives (R765): the spec gives no bit places. -/
opaque mkaArgs : Nat → Nat × Nat

/-- Number by which the ledger names an OTP word (R802), from this model's own. -/
opaque otpWord : Nat → Nat

end Sys2Proof.Config
end

