-- ==== Sys2Proof/Machine/RegMap.lean ====
section
/-! DEFINITION. The register map: for every block of control space its regions, and for every region its registers
with their fields, access types (R26) and reset values, as the offset maps of the chapters give them. -/

namespace Sys2Proof

/-- The access types of R26; `trim` is RW on lane PHYs and touch front ends and RO elsewhere (R835). -/
inductive Acc where
  | rw | ro | wo | w1c | w1s | rc | rwp | trim
deriving DecidableEq, Repr

/-- Reset values that depend on the instance: the identity colour matrix (R267), a checker's masks (R576), a control
core's reset bit and state (R799, R787), a lane's trims (R678), the mask bit of an MSI-X vector (R644). -/
inductive Special where
  | plain | csc | mask | cc | ccst | msix | trim
deriving DecidableEq, Repr

/-- Halves of a 64-bit pair (R24, R25). -/
inductive Half where
  | single | low | high
deriving DecidableEq, Repr

/-- The unit whose presence decides whether an instance answers (R13, R91, R825). -/
inductive UnitKind where
  | always | head | stall | pipeHead | eth | ingress | decCore | decode | encCore | encode | pipe | writeBack | scaler | src | snk | wallLink | checker | timeBase | sap | lane | touch | headFused | compStall | ethTime | twin | attest
deriving DecidableEq, Repr

/-- A field: bits `hi` to `lo`, access type and reset value. -/
structure FieldSpec where
  hi : Nat
  lo : Nat
  acc : Acc
  reset : Nat
deriving DecidableEq, Repr

/-- A register, or `count` consecutive registers of one layout, at offset `off` of its instance. -/
structure RegSpec where
  off : Nat
  count : Nat
  shadowed : Bool
  half : Half
  special : Special
  fields : List FieldSpec
deriving DecidableEq, Repr

/-- A region of control space: `count` instances `stride` apart (0: one), each with `count2` inner instances `stride2`
apart (0: one). -/
structure Region where
  base : Nat
  stride : Nat
  count : Nat
  stride2 : Nat
  count2 : Nat
  unit : UnitKind
  regs : List RegSpec
deriving DecidableEq, Repr

/-- A bit field of the register at `addr`. -/
structure Fld where
  addr : Nat
  hi : Nat
  lo : Nat
deriving DecidableEq, Repr

/-- Registers of SYS (R826). -/
def sysRegs : List RegSpec :=
  [ ⟨0x0, 1, false, .single, .plain, [⟨31, 0, .ro, 0x49474D53⟩]⟩,
    ⟨0x4, 1, false, .single, .plain, [⟨31, 24, .ro, 0x60⟩, ⟨23, 20, .ro, 0⟩, ⟨19, 16, .ro, 0⟩, ⟨15, 8, .ro, 0⟩]⟩,
    ⟨0x10, 1, false, .single, .plain, [⟨31, 26, .ro, 0⟩, ⟨25, 21, .ro, 0⟩, ⟨20, 17, .ro, 0⟩, ⟨16, 13, .ro, 0⟩, ⟨12, 9, .ro, 0⟩, ⟨8, 2, .ro, 0⟩]⟩,
    ⟨0x14, 1, false, .single, .plain, [⟨31, 28, .ro, 0⟩, ⟨27, 27, .ro, 0⟩, ⟨26, 18, .ro, 0⟩, ⟨17, 12, .ro, 0⟩, ⟨11, 5, .ro, 0⟩, ⟨4, 0, .ro, 0⟩]⟩,
    ⟨0x18, 1, false, .single, .plain, [⟨31, 28, .ro, 8⟩, ⟨27, 24, .ro, 8⟩, ⟨23, 20, .ro, 8⟩, ⟨19, 16, .ro, 8⟩, ⟨15, 8, .ro, 0x18⟩, ⟨7, 3, .ro, 0x10⟩]⟩,
    ⟨0x1c, 1, false, .single, .plain, [⟨31, 16, .ro, 0x200⟩, ⟨15, 12, .ro, 0xC⟩, ⟨11, 8, .ro, 1⟩, ⟨7, 4, .ro, 0⟩]⟩,
    ⟨0x40, 1, false, .single, .plain, [⟨15, 0, .w1s, 0⟩]⟩,
    ⟨0x44, 1, false, .single, .plain, [⟨15, 0, .w1c, 0⟩]⟩,
    ⟨0x48, 1, false, .single, .plain, [⟨15, 0, .rw, 0⟩]⟩,
    ⟨0x4c, 1, false, .single, .plain, [⟨1, 1, .ro, 0⟩, ⟨0, 0, .ro, 0⟩]⟩ ]

/-- Registers of PLAN (R132). -/
def planRegs : List RegSpec :=
  [ ⟨0x0, 1, false, .single, .plain, [⟨23, 16, .ro, 0⟩, ⟨15, 12, .ro, 0⟩, ⟨11, 10, .ro, 0⟩, ⟨1, 1, .ro, 0⟩, ⟨0, 0, .ro, 0⟩]⟩,
    ⟨0x4, 1, false, .single, .plain, [⟨31, 24, .wo, 0⟩, ⟨3, 0, .wo, 0⟩]⟩,
    ⟨0x8, 1, false, .low, .plain, [⟨31, 6, .rw, 0⟩]⟩,
    ⟨0xc, 1, false, .high, .plain, [⟨7, 0, .rw, 0⟩]⟩,
    ⟨0x10, 1, false, .single, .plain, [⟨3, 3, .ro, 0⟩, ⟨2, 2, .ro, 0⟩, ⟨1, 1, .ro, 0⟩, ⟨0, 0, .ro, 0⟩]⟩,
    ⟨0x14, 1, false, .single, .plain, [⟨31, 0, .ro, 0⟩]⟩,
    ⟨0x18, 1, false, .single, .plain, [⟨31, 0, .ro, 0⟩]⟩,
    ⟨0x1c, 1, false, .single, .plain, [⟨31, 0, .ro, 0⟩]⟩,
    ⟨0x20, 1, false, .single, .plain, [⟨31, 0, .ro, 0⟩]⟩,
    ⟨0x24, 1, false, .single, .plain, [⟨31, 0, .ro, 0⟩]⟩,
    ⟨0x28, 1, false, .single, .plain, [⟨31, 0, .ro, 0⟩]⟩,
    ⟨0x2c, 1, false, .single, .plain, [⟨31, 31, .ro, 0⟩, ⟨27, 2, .ro, 0⟩]⟩ ] ++
  [ ⟨0x30, 1, false, .single, .plain, [⟨15, 0, .ro, 0⟩]⟩,
    ⟨0x34, 1, false, .single, .plain, [⟨3, 3, .w1c, 0⟩, ⟨2, 2, .w1c, 0⟩, ⟨1, 1, .w1c, 0⟩, ⟨0, 0, .w1c, 0⟩]⟩,
    ⟨0x38, 1, false, .single, .plain, [⟨3, 0, .rw, 0⟩]⟩,
    ⟨0x40, 12, false, .single, .plain, [⟨31, 0, .ro, 0⟩]⟩ ]

/-- Registers of FRESH (R64). -/
def freshInstRegs : List RegSpec :=
  [ ⟨0x0, 1, false, .single, .plain, [⟨3, 3, .ro, 0⟩, ⟨2, 0, .ro, 7⟩]⟩,
    ⟨0x4, 1, false, .single, .plain, [⟨23, 16, .ro, 0⟩, ⟨15, 0, .ro, 0xFFFF⟩]⟩,
    ⟨0x8, 1, false, .single, .plain, [⟨7, 0, .w1c, 0⟩]⟩,
    ⟨0xc, 1, false, .single, .plain, [⟨2, 2, .rw, 0⟩, ⟨1, 1, .rw, 0⟩, ⟨0, 0, .rw, 0⟩]⟩,
    ⟨0x10, 1, false, .low, .plain, [⟨31, 0, .ro, 0⟩]⟩,
    ⟨0x14, 1, false, .high, .plain, [⟨31, 0, .ro, 0⟩]⟩,
    ⟨0x18, 1, false, .single, .plain, [⟨31, 0, .ro, 0⟩]⟩,
    ⟨0x24, 1, false, .low, .plain, [⟨31, 0, .rw, 0⟩]⟩,
    ⟨0x28, 1, false, .high, .plain, [⟨31, 0, .rw, 0⟩]⟩,
    ⟨0x2c, 1, false, .low, .plain, [⟨31, 6, .rw, 0⟩]⟩,
    ⟨0x30, 1, false, .high, .plain, [⟨7, 0, .rw, 0⟩]⟩ ]

/-- ATTEST_CTRL and ATTEST_STAT of FRESH[n], which answer on every head, since a request on one that is absent or not named is
refused there (R63, R70, R72). -/
def freshAttestRegs : List RegSpec :=
  [ ⟨0x20, 1, false, .single, .plain, [⟨0, 0, .wo, 0⟩]⟩,
    ⟨0x34, 1, false, .single, .plain, [⟨7, 4, .ro, 0⟩, ⟨2, 2, .w1c, 0⟩, ⟨1, 1, .w1c, 0⟩, ⟨0, 0, .ro, 0⟩]⟩ ]

/-- Registers of FSTALL (R64). -/
def freshStallRegs : List RegSpec :=
  [ ⟨0x0, 1, true, .single, .plain, [⟨3, 3, .rwp, 0⟩, ⟨2, 2, .rwp, 0⟩, ⟨1, 0, .ro, 0⟩]⟩,
    ⟨0x4, 1, true, .single, .plain, [⟨19, 0, .rwp, 0⟩]⟩,
    ⟨0x8, 1, true, .single, .plain, [⟨19, 16, .rwp, 0⟩, ⟨15, 8, .rwp, 0⟩, ⟨7, 0, .rwp, 0⟩]⟩,
    ⟨0xc, 1, false, .single, .plain, [⟨28, 16, .ro, 0⟩, ⟨8, 8, .ro, 1⟩, ⟨7, 4, .ro, 0⟩, ⟨3, 2, .ro, 3⟩, ⟨1, 0, .ro, 3⟩]⟩,
    ⟨0x10, 1, false, .single, .plain, [⟨31, 0, .ro, 0xFFFFFFFF⟩]⟩,
    ⟨0x14, 1, false, .single, .plain, [⟨15, 8, .ro, 0⟩, ⟨7, 0, .ro, 0⟩]⟩,
    ⟨0x18, 4, false, .single, .plain, [⟨31, 0, .ro, 0⟩]⟩,
    ⟨0x28, 1, false, .single, .plain, [⟨31, 0, .ro, 0⟩]⟩,
    ⟨0x2c, 1, false, .single, .plain, [⟨15, 0, .ro, 0⟩]⟩ ]

/-- Registers of FRESHG (R64). -/
def freshGlobalRegs : List RegSpec :=
  [ ⟨0x0, 1, false, .single, .plain, [⟨31, 0, .ro, 0⟩]⟩,
    ⟨0x4, 1, false, .single, .plain, [⟨31, 0, .ro, 0⟩]⟩ ]

/-- Registers of AWN (R315). -/
def awnInstRegs : List RegSpec :=
  [ ⟨0x0, 1, false, .single, .plain, [⟨27, 24, .ro, 0⟩, ⟨22, 16, .ro, 0⟩, ⟨12, 8, .ro, 0⟩, ⟨2, 0, .ro, 0⟩]⟩,
    ⟨0x4, 1, false, .single, .plain, [⟨31, 0, .ro, 0⟩]⟩,
    ⟨0x8, 1, false, .single, .plain, [⟨31, 0, .ro, 0⟩]⟩,
    ⟨0xc, 1, false, .single, .plain, [⟨31, 0, .ro, 0⟩]⟩,
    ⟨0x10, 1, false, .single, .plain, [⟨31, 16, .ro, 0⟩, ⟨15, 0, .ro, 0⟩]⟩,
    ⟨0x14, 1, true, .single, .plain, [⟨29, 16, .rwp, 0⟩, ⟨13, 0, .rwp, 0⟩]⟩,
    ⟨0x18, 1, true, .single, .plain, [⟨29, 16, .rwp, 0⟩, ⟨13, 0, .rwp, 0⟩]⟩,
    ⟨0x1c, 1, true, .single, .plain, [⟨31, 0, .rwp, 0⟩]⟩,
    ⟨0x20, 1, false, .single, .plain, [⟨31, 16, .ro, 0⟩, ⟨6, 6, .ro, 0⟩, ⟨5, 5, .ro, 1⟩, ⟨4, 4, .ro, 0⟩, ⟨2, 0, .ro, 7⟩]⟩,
    ⟨0x24, 1, false, .single, .plain, [⟨3, 3, .w1c, 0⟩, ⟨2, 2, .w1c, 0⟩, ⟨1, 1, .w1c, 0⟩, ⟨0, 0, .w1c, 0⟩]⟩,
    ⟨0x28, 1, false, .single, .plain, [⟨3, 0, .rw, 0⟩]⟩,
    ⟨0x2c, 1, false, .single, .plain, [⟨31, 0, .ro, 0⟩]⟩ ] ++
  [ ⟨0x30, 1, false, .single, .plain, [⟨31, 0, .ro, 0⟩]⟩,
    ⟨0x34, 1, false, .single, .plain, [⟨15, 8, .ro, 0xFF⟩, ⟨7, 0, .ro, 0xFF⟩]⟩ ]

/-- Registers of AWNG (R315). -/
def awnGlobalRegs : List RegSpec :=
  [ ⟨0x0, 1, false, .single, .plain, [⟨31, 24, .wo, 0⟩, ⟨3, 0, .wo, 0⟩]⟩,
    ⟨0x4, 1, false, .low, .plain, [⟨31, 6, .rw, 0⟩]⟩,
    ⟨0x8, 1, false, .high, .plain, [⟨7, 0, .rw, 0⟩]⟩,
    ⟨0xc, 1, false, .single, .plain, [⟨23, 16, .ro, 0⟩, ⟨2, 2, .w1c, 0⟩, ⟨1, 1, .w1c, 0⟩, ⟨0, 0, .ro, 0⟩]⟩,
    ⟨0x10, 5, false, .single, .plain, [⟨31, 16, .ro, 0⟩, ⟨15, 0, .ro, 0⟩]⟩,
    ⟨0x24, 1, false, .single, .plain, [⟨31, 0, .ro, 0⟩]⟩,
    ⟨0x28, 1, false, .single, .plain, [⟨31, 0, .ro, 0⟩]⟩ ]

/-- Registers of INGRG (R177). -/
def ingrGlobalRegs : List RegSpec :=
  [ ⟨0x0, 1, false, .single, .plain, [⟨25, 16, .ro, 512⟩, ⟨9, 0, .ro, 0⟩]⟩,
    ⟨0x100, 16, false, .single, .plain, [⟨31, 0, .ro, 0⟩]⟩ ]

/-- Registers of INGRP (R177). -/
def ingrPortRegs : List RegSpec :=
  [ ⟨0x0, 1, false, .low, .plain, [⟨31, 12, .rw, 0⟩]⟩,
    ⟨0x4, 1, false, .high, .plain, [⟨7, 0, .rw, 0⟩]⟩,
    ⟨0x8, 1, false, .low, .plain, [⟨31, 12, .rw, 0⟩]⟩,
    ⟨0xc, 1, false, .high, .plain, [⟨7, 0, .rw, 0⟩]⟩,
    ⟨0x10, 1, false, .single, .plain, [⟨31, 31, .rw, 0⟩, ⟨30, 30, .rw, 0⟩, ⟨11, 8, .rw, 4⟩, ⟨3, 0, .rw, 4⟩]⟩,
    ⟨0x14, 1, false, .single, .plain, [⟨15, 0, .ro, 0⟩]⟩,
    ⟨0x18, 1, false, .single, .plain, [⟨15, 0, .rw, 0⟩]⟩,
    ⟨0x1c, 1, false, .single, .plain, [⟨15, 0, .rw, 0⟩]⟩,
    ⟨0x20, 1, false, .single, .plain, [⟨15, 0, .ro, 0⟩]⟩,
    ⟨0x24, 1, false, .single, .plain, [⟨31, 0, .ro, 0⟩]⟩,
    ⟨0x28, 1, false, .single, .plain, [⟨31, 0, .ro, 0⟩]⟩,
    ⟨0x2c, 1, false, .single, .plain, [⟨31, 0, .ro, 0⟩]⟩ ]

/-- Registers of INGR (R177). -/
def ingrStreamRegs : List RegSpec :=
  [ ⟨0x0, 1, false, .single, .plain, [⟨31, 31, .rw, 0⟩, ⟨27, 24, .rw, 0⟩, ⟨23, 20, .rw, 0⟩, ⟨15, 15, .rw, 0⟩, ⟨14, 14, .rw, 0⟩, ⟨13, 13, .rw, 0⟩, ⟨12, 12, .rw, 0⟩, ⟨11, 11, .rw, 0⟩]⟩,
    ⟨0x4, 1, false, .single, .plain, [⟨27, 16, .rw, 0⟩, ⟨11, 8, .rw, 0⟩, ⟨6, 0, .rw, 0⟩]⟩,
    ⟨0x8, 1, false, .single, .plain, [⟨15, 0, .rw, 0⟩]⟩,
    ⟨0xc, 1, false, .single, .plain, [⟨31, 0, .rw, 0⟩]⟩,
    ⟨0x10, 4, false, .single, .plain, [⟨31, 0, .rw, 0⟩]⟩,
    ⟨0x20, 1, false, .single, .plain, [⟨31, 0, .rw, 0⟩]⟩,
    ⟨0x24, 1, false, .single, .plain, [⟨27, 16, .rw, 0⟩, ⟨3, 0, .rw, 0⟩]⟩,
    ⟨0x28, 1, false, .single, .plain, [⟨17, 16, .rw, 0⟩, ⟨15, 0, .rw, 0⟩]⟩,
    ⟨0x2c, 1, false, .single, .plain, [⟨23, 0, .rw, 0⟩]⟩,
    ⟨0x30, 1, false, .single, .plain, [⟨31, 0, .rw, 0⟩]⟩,
    ⟨0x34, 1, false, .single, .plain, [⟨31, 28, .rw, 0⟩, ⟨27, 14, .rw, 0⟩, ⟨13, 0, .rw, 0⟩]⟩,
    ⟨0x38, 1, false, .low, .plain, [⟨31, 12, .rw, 0⟩]⟩ ] ++
  [ ⟨0x3c, 1, false, .high, .plain, [⟨7, 0, .rw, 0⟩]⟩,
    ⟨0x40, 1, false, .low, .plain, [⟨31, 12, .rw, 0⟩]⟩,
    ⟨0x44, 1, false, .high, .plain, [⟨7, 0, .rw, 0⟩]⟩,
    ⟨0x48, 1, false, .single, .plain, [⟨31, 16, .rw, 0⟩, ⟨12, 8, .rw, 0x10⟩, ⟨3, 0, .rw, 1⟩]⟩,
    ⟨0x4c, 1, false, .single, .plain, [⟨15, 0, .ro, 0⟩]⟩,
    ⟨0x50, 1, false, .single, .plain, [⟨15, 0, .rw, 0⟩]⟩,
    ⟨0x54, 1, false, .single, .plain, [⟨8, 8, .ro, 0⟩, ⟨7, 7, .ro, 0⟩, ⟨4, 4, .w1c, 0⟩, ⟨3, 3, .w1c, 0⟩, ⟨2, 2, .w1c, 0⟩, ⟨1, 1, .w1c, 0⟩, ⟨0, 0, .w1c, 0⟩]⟩,
    ⟨0x58, 1, false, .single, .plain, [⟨4, 0, .rw, 0⟩]⟩,
    ⟨0x5c, 1, false, .single, .plain, [⟨31, 0, .ro, 0⟩]⟩,
    ⟨0x60, 1, false, .single, .plain, [⟨31, 0, .ro, 0⟩]⟩,
    ⟨0x64, 1, false, .single, .plain, [⟨31, 0, .ro, 0⟩]⟩,
    ⟨0x68, 1, false, .single, .plain, [⟨31, 0, .ro, 0⟩]⟩ ] ++
  [ ⟨0x6c, 1, false, .single, .plain, [⟨27, 24, .ro, 0⟩, ⟨23, 0, .ro, 0⟩]⟩ ]

/-- Global registers of the DEC block at 0x4050_0000, with their offsets, access types and resets (R226, R227). -/
def decGlobalRegs : List RegSpec :=
  [ ⟨0x0, 1, false, .single, .plain, [⟨25, 16, .ro, 128⟩, ⟨9, 0, .ro, 0⟩]⟩,
    ⟨0x100, 4, false, .single, .plain, [⟨31, 0, .ro, 0⟩]⟩ ]

/-- Registers of CORE[k] at 0x400 + k × 0x20 in the DEC block (R226, R228). -/
def decCoreRegs : List RegSpec :=
  [ ⟨0x0, 1, false, .single, .plain, [⟨5, 5, .ro, 0⟩, ⟨4, 4, .ro, 0⟩, ⟨3, 0, .ro, 0⟩]⟩,
    ⟨0x4, 1, false, .single, .plain, [⟨31, 0, .ro, 0⟩]⟩,
    ⟨0x8, 1, false, .single, .plain, [⟨31, 0, .ro, 0⟩]⟩,
    ⟨0xc, 1, false, .single, .plain, [⟨31, 0, .ro, 0⟩]⟩ ]

/-- Registers of CTX[c] at 0x1_0000 + c × 0x100 in the DEC block (R226, R229 to R233). -/
def decCtxRegs : List RegSpec :=
  [ ⟨0x0, 1, false, .single, .plain, [⟨31, 31, .rw, 0⟩, ⟨27, 24, .rw, 0⟩, ⟨23, 22, .rw, 0⟩, ⟨18, 16, .rw, 2⟩, ⟨8, 8, .rw, 0⟩, ⟨7, 7, .rw, 0⟩, ⟨6, 6, .rw, 0⟩, ⟨5, 5, .rw, 0⟩, ⟨4, 4, .rw, 0⟩, ⟨1, 0, .rw, 0⟩]⟩,
    ⟨0x4, 1, false, .single, .plain, [⟨8, 0, .rw, 0⟩]⟩,
    ⟨0x8, 1, false, .single, .plain, [⟨28, 28, .rw, 0⟩, ⟨27, 14, .rw, 0⟩, ⟨13, 0, .rw, 0⟩]⟩,
    ⟨0xc, 1, false, .single, .plain, [⟨31, 16, .rw, 0⟩, ⟨6, 0, .rw, 0⟩]⟩,
    ⟨0x10, 1, false, .low, .plain, [⟨31, 12, .rw, 0⟩]⟩,
    ⟨0x14, 1, false, .high, .plain, [⟨7, 0, .rw, 0⟩]⟩,
    ⟨0x18, 1, false, .single, .plain, [⟨15, 0, .ro, 0⟩]⟩,
    ⟨0x1c, 1, false, .single, .plain, [⟨12, 8, .rw, 0⟩, ⟨3, 0, .rw, 0⟩]⟩,
    ⟨0x20, 1, false, .low, .plain, [⟨31, 12, .rw, 0⟩]⟩,
    ⟨0x24, 1, false, .high, .plain, [⟨7, 0, .rw, 0⟩]⟩,
    ⟨0x28, 1, false, .low, .plain, [⟨31, 12, .rw, 0⟩]⟩,
    ⟨0x2c, 1, false, .high, .plain, [⟨7, 0, .rw, 0⟩]⟩ ] ++
  [ ⟨0x30, 1, false, .single, .plain, [⟨15, 0, .rw, 0⟩]⟩,
    ⟨0x34, 1, false, .single, .plain, [⟨15, 0, .ro, 0⟩]⟩,
    ⟨0x38, 1, false, .low, .plain, [⟨31, 12, .rw, 0⟩]⟩,
    ⟨0x3c, 1, false, .high, .plain, [⟨7, 0, .rw, 0⟩]⟩,
    ⟨0x40, 1, false, .single, .plain, [⟨15, 0, .ro, 0⟩]⟩,
    ⟨0x44, 1, false, .single, .plain, [⟨15, 0, .rw, 0⟩]⟩,
    ⟨0x48, 1, false, .single, .plain, [⟨31, 28, .ro, 0⟩, ⟨10, 10, .ro, 0⟩, ⟨9, 9, .ro, 0⟩, ⟨8, 8, .ro, 0⟩, ⟨5, 5, .w1c, 0⟩, ⟨4, 4, .w1c, 0⟩, ⟨3, 3, .w1c, 0⟩, ⟨2, 2, .w1c, 0⟩, ⟨1, 1, .w1c, 0⟩, ⟨0, 0, .w1c, 0⟩]⟩,
    ⟨0x4c, 1, false, .single, .plain, [⟨5, 0, .rw, 0⟩]⟩,
    ⟨0x50, 1, false, .single, .plain, [⟨31, 31, .wo, 0⟩, ⟨15, 0, .rw, 100⟩]⟩,
    ⟨0x54, 1, false, .single, .plain, [⟨20, 20, .ro, 0⟩, ⟨19, 16, .ro, 0⟩, ⟨15, 8, .ro, 0⟩, ⟨7, 0, .ro, 0⟩]⟩,
    ⟨0x58, 1, false, .single, .plain, [⟨31, 0, .ro, 0⟩]⟩,
    ⟨0x5c, 1, false, .single, .plain, [⟨31, 0, .ro, 0⟩]⟩ ] ++
  [ ⟨0x60, 1, false, .single, .plain, [⟨31, 0, .ro, 0⟩]⟩,
    ⟨0x64, 1, false, .single, .plain, [⟨31, 0, .ro, 0⟩]⟩,
    ⟨0x68, 1, false, .single, .plain, [⟨31, 0, .ro, 0⟩]⟩,
    ⟨0x6c, 1, false, .single, .plain, [⟨31, 0, .ro, 0⟩]⟩,
    ⟨0x70, 1, false, .single, .plain, [⟨31, 0, .ro, 0⟩]⟩,
    ⟨0x74, 1, false, .single, .plain, [⟨31, 0, .ro, 0⟩]⟩ ]

/-- Registers of ENCG (R470). -/
def encGlobalRegs : List RegSpec :=
  [ ⟨0x0, 1, false, .single, .plain, [⟨25, 16, .ro, 64⟩, ⟨9, 0, .ro, 0⟩]⟩,
    ⟨0x100, 2, false, .single, .plain, [⟨31, 0, .ro, 0⟩]⟩ ]

/-- Registers of ENCK (R470). -/
def encCoreRegs : List RegSpec :=
  [ ⟨0x0, 1, false, .single, .plain, [⟨5, 5, .ro, 0⟩, ⟨4, 4, .ro, 0⟩, ⟨3, 0, .ro, 0⟩]⟩,
    ⟨0x4, 1, false, .single, .plain, [⟨31, 0, .ro, 0⟩]⟩,
    ⟨0x8, 1, false, .single, .plain, [⟨31, 0, .ro, 0⟩]⟩,
    ⟨0xc, 1, false, .single, .plain, [⟨31, 0, .ro, 0⟩]⟩ ]

/-- Registers of ENC (R470). -/
def encCtxRegs : List RegSpec :=
  [ ⟨0x0, 1, false, .single, .plain, [⟨31, 31, .rw, 0⟩, ⟨27, 24, .rw, 0⟩, ⟨23, 22, .rw, 0⟩, ⟨13, 12, .rw, 0⟩, ⟨10, 10, .rw, 0⟩, ⟨9, 9, .rw, 0⟩, ⟨8, 8, .rw, 0⟩, ⟨5, 4, .rw, 0⟩, ⟨1, 0, .rw, 0⟩]⟩,
    ⟨0x4, 1, false, .single, .plain, [⟨8, 0, .rw, 0⟩]⟩,
    ⟨0x8, 1, false, .single, .plain, [⟨29, 16, .rw, 0⟩, ⟨13, 0, .rw, 0⟩]⟩,
    ⟨0xc, 1, false, .single, .plain, [⟨12, 8, .rw, 0⟩, ⟨7, 4, .rw, 0⟩, ⟨3, 0, .rw, 0⟩]⟩,
    ⟨0x10, 1, false, .single, .plain, [⟨17, 16, .rw, 1⟩, ⟨15, 0, .rw, 0⟩]⟩,
    ⟨0x14, 1, false, .single, .plain, [⟨19, 0, .rw, 0⟩]⟩,
    ⟨0x18, 1, false, .single, .plain, [⟨15, 0, .rw, 0⟩]⟩,
    ⟨0x1c, 1, false, .single, .plain, [⟨23, 0, .rw, 0⟩]⟩,
    ⟨0x20, 1, false, .single, .plain, [⟨27, 24, .rw, 4⟩, ⟨21, 16, .rw, 30⟩, ⟨13, 8, .rw, 51⟩, ⟨5, 0, .rw, 0⟩]⟩,
    ⟨0x24, 1, false, .single, .plain, [⟨6, 0, .rw, 8⟩]⟩,
    ⟨0x28, 1, false, .low, .plain, [⟨31, 12, .rw, 0⟩]⟩,
    ⟨0x2c, 1, false, .high, .plain, [⟨7, 0, .rw, 0⟩]⟩ ] ++
  [ ⟨0x30, 1, false, .single, .plain, [⟨31, 16, .rw, 0⟩]⟩,
    ⟨0x34, 1, false, .single, .plain, [⟨15, 0, .ro, 0⟩]⟩,
    ⟨0x38, 1, false, .single, .plain, [⟨12, 8, .rw, 0⟩, ⟨3, 0, .rw, 0⟩]⟩,
    ⟨0x3c, 1, false, .low, .plain, [⟨31, 12, .rw, 0⟩]⟩,
    ⟨0x40, 1, false, .high, .plain, [⟨7, 0, .rw, 0⟩]⟩,
    ⟨0x44, 1, false, .low, .plain, [⟨31, 12, .rw, 0⟩]⟩,
    ⟨0x48, 1, false, .high, .plain, [⟨7, 0, .rw, 0⟩]⟩,
    ⟨0x4c, 1, false, .single, .plain, [⟨15, 0, .ro, 0⟩]⟩,
    ⟨0x50, 1, false, .single, .plain, [⟨15, 0, .rw, 0⟩]⟩,
    ⟨0x54, 1, false, .single, .plain, [⟨19, 16, .rw, 0⟩, ⟨11, 0, .rw, 0⟩]⟩,
    ⟨0x58, 1, false, .single, .plain, [⟨9, 9, .ro, 0⟩, ⟨8, 8, .ro, 0⟩, ⟨5, 5, .w1c, 0⟩, ⟨4, 4, .w1c, 0⟩, ⟨3, 3, .w1c, 0⟩, ⟨2, 2, .w1c, 0⟩, ⟨1, 1, .w1c, 0⟩, ⟨0, 0, .w1c, 0⟩]⟩,
    ⟨0x5c, 1, false, .single, .plain, [⟨5, 0, .rw, 0⟩]⟩ ] ++
  [ ⟨0x60, 1, false, .single, .plain, [⟨31, 31, .wo, 0⟩, ⟨15, 0, .rw, 0⟩]⟩,
    ⟨0x64, 1, false, .single, .plain, [⟨31, 0, .ro, 0⟩]⟩,
    ⟨0x68, 1, false, .single, .plain, [⟨31, 0, .ro, 0⟩]⟩,
    ⟨0x6c, 1, false, .single, .plain, [⟨31, 0, .ro, 0⟩]⟩,
    ⟨0x70, 1, false, .single, .plain, [⟨31, 0, .ro, 0⟩]⟩,
    ⟨0x74, 1, false, .single, .plain, [⟨31, 0, .ro, 0⟩]⟩,
    ⟨0x78, 1, false, .single, .plain, [⟨31, 0, .ro, 0⟩]⟩,
    ⟨0x7c, 1, false, .single, .plain, [⟨31, 0, .ro, 0⟩]⟩,
    ⟨0x80, 1, false, .single, .plain, [⟨31, 0, .ro, 0⟩]⟩,
    ⟨0x84, 1, false, .single, .plain, [⟨31, 0, .ro, 0⟩]⟩,
    ⟨0x88, 1, false, .single, .plain, [⟨31, 0, .ro, 0⟩]⟩,
    ⟨0x8c, 1, false, .single, .plain, [⟨31, 0, .ro, 0⟩]⟩ ] ++
  [ ⟨0x90, 1, false, .single, .plain, [⟨31, 0, .ro, 0⟩]⟩,
    ⟨0x94, 1, false, .single, .plain, [⟨31, 0, .ro, 0⟩]⟩,
    ⟨0x98, 1, false, .single, .plain, [⟨31, 0, .ro, 0⟩]⟩,
    ⟨0x9c, 1, false, .single, .plain, [⟨31, 0, .ro, 0⟩]⟩ ]

/-- Registers of COMP (R276). -/
def compInstRegs : List RegSpec :=
  [ ⟨0x0, 1, false, .single, .plain, [⟨15, 8, .ro, 0⟩, ⟨4, 4, .ro, 0⟩, ⟨3, 0, .ro, 0⟩]⟩,
    ⟨0x4, 1, true, .single, .plain, [⟨7, 0, .rwp, 0⟩]⟩,
    ⟨0x8, 1, true, .single, .plain, [⟨29, 0, .rwp, 0⟩]⟩,
    ⟨0xc, 1, false, .single, .plain, [⟨7, 0, .rw, 16⟩]⟩ ]

/-- Registers of COMP (R276). -/
def compWbRegs : List RegSpec :=
  [ ⟨0x0, 1, false, .single, .plain, [⟨31, 31, .rw, 0⟩, ⟨4, 4, .rw, 0⟩, ⟨3, 0, .rw, 2⟩]⟩,
    ⟨0x4, 1, false, .single, .plain, [⟨27, 16, .rw, 0⟩]⟩,
    ⟨0x8, 1, false, .single, .plain, [⟨31, 16, .rw, 0⟩, ⟨3, 0, .rw, 0⟩]⟩,
    ⟨0xc, 1, false, .low, .plain, [⟨31, 12, .rw, 0⟩]⟩,
    ⟨0x10, 1, false, .high, .plain, [⟨7, 0, .rw, 0⟩]⟩,
    ⟨0x14, 1, false, .low, .plain, [⟨31, 12, .rw, 0⟩]⟩,
    ⟨0x18, 1, false, .high, .plain, [⟨7, 0, .rw, 0⟩]⟩,
    ⟨0x1c, 1, false, .single, .plain, [⟨15, 0, .ro, 0⟩]⟩,
    ⟨0x20, 1, false, .single, .plain, [⟨15, 0, .rw, 0⟩]⟩,
    ⟨0x24, 1, false, .single, .plain, [⟨8, 8, .ro, 0⟩, ⟨1, 1, .w1c, 0⟩, ⟨0, 0, .w1c, 0⟩]⟩,
    ⟨0x28, 1, false, .single, .plain, [⟨1, 0, .rw, 0⟩]⟩,
    ⟨0x2c, 1, false, .single, .plain, [⟨31, 0, .ro, 0⟩]⟩ ] ++
  [ ⟨0x30, 1, false, .single, .plain, [⟨31, 0, .ro, 0⟩]⟩,
    ⟨0x40, 6, false, .single, .csc, [⟨31, 16, .rw, 0⟩, ⟨15, 0, .rw, 0⟩]⟩ ]

/-- Registers of CSTALL (R276). -/
def compStallRegs : List RegSpec :=
  [ ⟨0x0, 1, true, .single, .plain, [⟨10, 10, .rw, 0⟩, ⟨9, 9, .rw, 0⟩, ⟨8, 8, .rw, 0⟩, ⟨5, 4, .rw, 0⟩, ⟨1, 0, .rw, 0⟩]⟩,
    ⟨0x4, 1, true, .single, .plain, [⟨8, 0, .rw, 0⟩]⟩,
    ⟨0x8, 1, true, .single, .plain, [⟨4, 4, .rw, 0⟩, ⟨3, 0, .rw, 0⟩]⟩,
    ⟨0xc, 1, true, .single, .plain, [⟨29, 16, .rw, 0⟩, ⟨13, 0, .rw, 0⟩]⟩,
    ⟨0x10, 1, true, .low, .plain, [⟨31, 12, .rw, 0⟩]⟩,
    ⟨0x14, 1, true, .high, .plain, [⟨7, 0, .rw, 0⟩]⟩,
    ⟨0x18, 1, true, .single, .plain, [⟨7, 0, .rw, 0⟩]⟩,
    ⟨0x1c, 1, true, .single, .plain, [⟨29, 16, .rw, 0⟩, ⟨13, 0, .rw, 0⟩]⟩,
    ⟨0x20, 1, true, .single, .plain, [⟨29, 16, .rw, 0⟩, ⟨13, 0, .rw, 0⟩]⟩,
    ⟨0x24, 1, true, .single, .plain, [⟨29, 16, .rwp, 0⟩, ⟨13, 0, .rwp, 0⟩]⟩,
    ⟨0x28, 1, true, .single, .plain, [⟨29, 16, .rwp, 0⟩, ⟨13, 0, .rwp, 0⟩]⟩,
    ⟨0x2c, 1, true, .single, .plain, [⟨7, 0, .rwp, 0xFF⟩]⟩ ] ++
  [ ⟨0x30, 1, true, .single, .plain, [⟨29, 0, .rw, 0⟩]⟩,
    ⟨0x34, 1, true, .single, .plain, [⟨29, 0, .rw, 0⟩]⟩,
    ⟨0x38, 1, true, .single, .plain, [⟨29, 0, .rwp, 0⟩]⟩,
    ⟨0x40, 6, true, .single, .csc, [⟨31, 16, .rw, 0⟩, ⟨15, 0, .rw, 0⟩]⟩,
    ⟨0x60, 1, false, .single, .plain, [⟨27, 16, .ro, 0⟩, ⟨8, 8, .ro, 0⟩, ⟨7, 7, .ro, 0⟩, ⟨6, 6, .ro, 0⟩, ⟨3, 3, .w1c, 0⟩, ⟨2, 2, .w1c, 0⟩, ⟨1, 1, .w1c, 0⟩, ⟨0, 0, .w1c, 0⟩]⟩,
    ⟨0x64, 1, false, .single, .plain, [⟨3, 0, .rw, 0⟩]⟩,
    ⟨0x70, 1, false, .low, .plain, [⟨31, 0, .ro, 0⟩]⟩,
    ⟨0x74, 1, false, .high, .plain, [⟨7, 0, .ro, 0⟩]⟩,
    ⟨0x78, 1, false, .single, .plain, [⟨31, 0, .ro, 0⟩]⟩,
    ⟨0x80, 1, false, .single, .plain, [⟨31, 0, .ro, 0⟩]⟩,
    ⟨0x84, 1, false, .single, .plain, [⟨31, 0, .ro, 0⟩]⟩,
    ⟨0x88, 1, false, .single, .plain, [⟨31, 0, .ro, 0⟩]⟩ ] ++
  [ ⟨0x8c, 1, false, .single, .plain, [⟨31, 0, .ro, 0⟩]⟩ ]

/-- Registers of COMPG (R276). -/
def compGlobalRegs : List RegSpec :=
  [ ⟨0x0, 1, false, .single, .plain, [⟨31, 0, .ro, 0⟩]⟩ ]

/-- Registers of SP[k] at k × 0x400 in the SPOOL block at 0x4080_0000, with their offsets, access types and resets (R341). -/
def spoolUnitRegs : List RegSpec :=
  [ ⟨0x0, 1, false, .single, .plain, [⟨15, 15, .ro, 0⟩, ⟨12, 8, .ro, 0⟩, ⟨2, 0, .ro, 0⟩]⟩,
    ⟨0x4, 1, false, .single, .plain, [⟨0, 0, .rw, 0⟩]⟩,
    ⟨0x8, 1, false, .single, .plain, [⟨9, 9, .rw, 0⟩, ⟨8, 0, .rw, 0⟩]⟩,
    ⟨0xc, 1, false, .single, .plain, [⟨25, 16, .rw, 0⟩, ⟨9, 0, .rw, 0⟩]⟩,
    ⟨0x10, 1, false, .single, .plain, [⟨8, 8, .wo, 0⟩, ⟨5, 5, .wo, 0⟩, ⟨4, 4, .wo, 0⟩, ⟨3, 0, .wo, 0⟩]⟩,
    ⟨0x14, 1, false, .single, .plain, [⟨10, 10, .ro, 0⟩, ⟨9, 9, .ro, 1⟩, ⟨8, 8, .ro, 0⟩, ⟨7, 7, .ro, 0⟩, ⟨2, 2, .w1c, 0⟩, ⟨1, 1, .w1c, 0⟩, ⟨0, 0, .w1c, 0⟩]⟩,
    ⟨0x18, 1, false, .single, .plain, [⟨2, 0, .rw, 0⟩]⟩,
    ⟨0x1c, 1, false, .single, .plain, [⟨31, 0, .ro, 0⟩]⟩,
    ⟨0x20, 1, false, .single, .plain, [⟨31, 0, .ro, 0⟩]⟩ ]

/-- Global registers at 0x8_0000 in the SPOOL block (R341). -/
def spoolGlobalRegs : List RegSpec :=
  [ ⟨0x0, 2, false, .single, .plain, [⟨31, 0, .ro, 0⟩]⟩ ]

/-- Registers of HEAD (R391). -/
def headInstRegs : List RegSpec :=
  [ ⟨0x0, 1, false, .single, .plain, [⟨16, 16, .ro, 0⟩, ⟨9, 8, .ro, 0⟩, ⟨7, 4, .ro, 0⟩, ⟨2, 2, .ro, 0⟩, ⟨1, 1, .ro, 0⟩, ⟨0, 0, .ro, 0⟩]⟩,
    ⟨0x4, 1, false, .single, .plain, [⟨4, 4, .wo, 0⟩, ⟨2, 2, .rw, 0⟩, ⟨0, 0, .rw, 0⟩]⟩,
    ⟨0x8, 1, false, .single, .plain, [⟨26, 24, .ro, 0⟩, ⟨23, 20, .ro, 0⟩, ⟨15, 12, .ro, 0⟩, ⟨8, 8, .ro, 0⟩, ⟨3, 3, .ro, 0⟩, ⟨2, 2, .ro, 0⟩, ⟨1, 1, .ro, 0⟩, ⟨0, 0, .ro, 0⟩]⟩,
    ⟨0xc, 1, false, .single, .plain, [⟨7, 7, .w1c, 0⟩, ⟨6, 6, .w1c, 0⟩, ⟨5, 5, .w1c, 0⟩, ⟨4, 4, .w1c, 0⟩, ⟨3, 3, .w1c, 0⟩, ⟨2, 2, .w1c, 0⟩, ⟨1, 1, .w1c, 0⟩, ⟨0, 0, .w1c, 0⟩]⟩,
    ⟨0x10, 1, false, .single, .plain, [⟨7, 0, .rw, 0⟩]⟩,
    ⟨0x14, 1, false, .single, .plain, [⟨15, 0, .wo, 0⟩]⟩,
    ⟨0x18, 1, false, .single, .plain, [⟨31, 0, .ro, 0⟩]⟩,
    ⟨0x1c, 1, false, .single, .plain, [⟨31, 0, .ro, 0⟩]⟩,
    ⟨0x20, 1, false, .single, .plain, [⟨15, 0, .ro, 0⟩]⟩,
    ⟨0x24, 1, false, .single, .plain, [⟨31, 0, .ro, 0⟩]⟩,
    ⟨0x28, 1, false, .single, .plain, [⟨31, 0, .ro, 0⟩]⟩,
    ⟨0x40, 1, false, .single, .plain, [⟨19, 0, .rwp, 0⟩]⟩ ] ++
  [ ⟨0x44, 1, true, .single, .plain, [⟨29, 16, .rwp, 2200⟩, ⟨13, 0, .rwp, 1920⟩]⟩,
    ⟨0x48, 1, true, .single, .plain, [⟨31, 31, .rwp, 1⟩, ⟨29, 16, .rwp, 44⟩, ⟨13, 0, .rwp, 88⟩]⟩,
    ⟨0x4c, 1, true, .single, .plain, [⟨29, 16, .rwp, 1125⟩, ⟨13, 0, .rwp, 1080⟩]⟩,
    ⟨0x50, 1, true, .single, .plain, [⟨31, 31, .rwp, 1⟩, ⟨29, 16, .rwp, 5⟩, ⟨13, 0, .rwp, 4⟩]⟩,
    ⟨0x60, 1, true, .single, .plain, [⟨15, 8, .rw, 0⟩, ⟨3, 0, .rw, 0⟩]⟩,
    ⟨0x64, 1, true, .low, .plain, [⟨31, 12, .rw, 0⟩]⟩,
    ⟨0x68, 1, true, .high, .plain, [⟨7, 0, .rw, 0⟩]⟩,
    ⟨0x6c, 1, true, .single, .plain, [⟨29, 0, .rw, 0⟩]⟩,
    ⟨0x70, 1, false, .low, .plain, [⟨31, 12, .ro, 0⟩]⟩,
    ⟨0x74, 1, false, .high, .plain, [⟨7, 0, .ro, 0⟩]⟩,
    ⟨0x78, 1, false, .single, .plain, [⟨31, 0, .ro, 0⟩]⟩,
    ⟨0x80, 1, false, .single, .plain, [⟨15, 0, .ro, 0xFFFF⟩]⟩ ] ++
  [ ⟨0x84, 1, false, .single, .plain, [⟨15, 0, .rc, 0xFFFF⟩]⟩,
    ⟨0x90, 1, false, .single, .plain, [⟨31, 0, .ro, 0⟩]⟩,
    ⟨0x94, 1, false, .single, .plain, [⟨31, 0, .ro, 0⟩]⟩,
    ⟨0x98, 1, false, .single, .plain, [⟨31, 16, .ro, 0⟩, ⟨12, 0, .ro, 0⟩]⟩,
    ⟨0xa0, 1, false, .single, .plain, [⟨31, 0, .rw, 0⟩]⟩,
    ⟨0xa4, 1, false, .single, .plain, [⟨31, 0, .rw, 0⟩]⟩,
    ⟨0xb0, 1, false, .single, .plain, [⟨31, 31, .rwp, 0⟩, ⟨30, 30, .wo, 0⟩, ⟨23, 8, .rwp, 600⟩, ⟨7, 0, .rwp, 4⟩]⟩,
    ⟨0xb4, 1, false, .single, .plain, [⟨31, 16, .ro, 0⟩, ⟨15, 8, .ro, 0⟩, ⟨1, 0, .ro, 0⟩]⟩,
    ⟨0xb8, 1, false, .single, .plain, [⟨31, 0, .ro, 0⟩]⟩,
    ⟨0xbc, 1, false, .single, .plain, [⟨31, 0, .ro, 0⟩]⟩,
    ⟨0x1800, 1, true, .single, .plain, [⟨6, 6, .rwp, 0⟩, ⟨5, 5, .rwp, 0⟩, ⟨2, 2, .rwp, 0⟩, ⟨1, 1, .rwp, 0⟩, ⟨0, 0, .rwp, 0⟩]⟩,
    ⟨0x1804, 1, true, .single, .plain, [⟨5, 4, .rwp, 1⟩, ⟨1, 0, .rwp, 0⟩]⟩ ] ++
  [ ⟨0x1808, 1, false, .single, .plain, [⟨10, 10, .rw, 0⟩, ⟨9, 0, .rw, 0⟩]⟩,
    ⟨0x180c, 1, false, .single, .plain, [⟨27, 16, .rw, 0⟩, ⟨11, 0, .rw, 0⟩]⟩,
    ⟨0x1810, 1, false, .single, .plain, [⟨11, 0, .rw, 0⟩]⟩,
    ⟨0x1814, 1, false, .single, .plain, [⟨9, 9, .ro, 0⟩, ⟨8, 8, .ro, 0⟩, ⟨0, 0, .w1c, 0⟩]⟩,
    ⟨0x1818, 1, false, .single, .plain, [⟨0, 0, .rw, 0⟩]⟩,
    ⟨0x181c, 1, false, .single, .plain, [⟨31, 0, .ro, 0⟩]⟩,
    ⟨0x1820, 6, true, .single, .csc, [⟨31, 16, .rwp, 0⟩, ⟨15, 0, .rwp, 0⟩]⟩ ]

/-- Registers of RGN (R391). -/
def headRgnRegs : List RegSpec :=
  [ ⟨0x0, 1, true, .single, .plain, [⟨2, 0, .rwp, 0⟩]⟩,
    ⟨0x4, 1, true, .single, .plain, [⟨29, 16, .rwp, 0⟩, ⟨13, 0, .rwp, 0⟩]⟩,
    ⟨0x8, 1, true, .single, .plain, [⟨29, 16, .rwp, 0⟩, ⟨13, 0, .rwp, 0⟩]⟩,
    ⟨0xc, 1, true, .single, .plain, [⟨31, 0, .rw, 0⟩]⟩,
    ⟨0x10, 1, false, .single, .plain, [⟨31, 0, .ro, 0⟩]⟩,
    ⟨0x14, 1, false, .single, .plain, [⟨31, 0, .ro, 0⟩]⟩,
    ⟨0x18, 1, false, .single, .plain, [⟨31, 0, .ro, 0⟩]⟩,
    ⟨0x1c, 1, false, .single, .plain, [⟨31, 0, .ro, 0⟩]⟩ ]

/-- Registers of HEADG (R391). -/
def headGlobalRegs : List RegSpec :=
  [ ⟨0x0, 1, false, .single, .plain, [⟨15, 0, .ro, 0xFFFF⟩]⟩,
    ⟨0x4, 1, false, .single, .plain, [⟨31, 0, .ro, 0⟩]⟩,
    ⟨0x8, 1, false, .single, .plain, [⟨31, 0, .ro, 0⟩]⟩,
    ⟨0xc, 1, false, .single, .plain, [⟨31, 0, .ro, 0⟩]⟩ ]

/-- Registers of SRC (R424). -/
def dpoSrcRegs : List RegSpec :=
  [ ⟨0x0, 1, false, .single, .plain, [⟨11, 8, .ro, 0⟩, ⟨3, 3, .ro, 0⟩, ⟨2, 0, .ro, 0⟩]⟩,
    ⟨0x4, 1, false, .single, .plain, [⟨31, 31, .wo, 0⟩, ⟨10, 8, .rw, 3⟩, ⟨4, 4, .rw, 0⟩]⟩,
    ⟨0x8, 1, false, .single, .plain, [⟨31, 28, .ro, 0⟩, ⟨27, 24, .ro, 0⟩, ⟨18, 18, .ro, 0⟩, ⟨17, 17, .ro, 0⟩, ⟨16, 16, .ro, 0⟩, ⟨10, 8, .ro, 0⟩, ⟨4, 2, .ro, 0⟩, ⟨1, 1, .ro, 0⟩, ⟨0, 0, .ro, 0⟩]⟩,
    ⟨0xc, 1, false, .single, .plain, [⟨8, 8, .w1c, 0⟩, ⟨7, 7, .w1c, 0⟩, ⟨6, 6, .w1c, 0⟩, ⟨5, 5, .w1c, 0⟩, ⟨4, 4, .w1c, 0⟩, ⟨3, 3, .w1c, 0⟩, ⟨2, 2, .w1c, 0⟩, ⟨1, 1, .w1c, 0⟩, ⟨0, 0, .w1c, 0⟩]⟩,
    ⟨0x10, 1, false, .single, .plain, [⟨8, 0, .rw, 0⟩]⟩,
    ⟨0x14, 1, false, .single, .plain, [⟨29, 24, .ro, 0⟩, ⟨21, 16, .ro, 0⟩, ⟨13, 8, .ro, 0⟩, ⟨5, 0, .ro, 0⟩]⟩,
    ⟨0x18, 1, false, .single, .plain, [⟨31, 0, .ro, 0⟩]⟩,
    ⟨0x1c, 1, false, .single, .plain, [⟨31, 0, .ro, 0⟩]⟩,
    ⟨0x20, 1, false, .single, .plain, [⟨31, 31, .wo, 0⟩, ⟨27, 24, .rw, 0⟩, ⟨23, 20, .rw, 0⟩, ⟨19, 0, .rw, 0⟩]⟩,
    ⟨0x24, 1, false, .single, .plain, [⟨31, 31, .ro, 0⟩, ⟨3, 0, .ro, 0⟩]⟩,
    ⟨0x30, 4, false, .single, .plain, [⟨31, 0, .rw, 0⟩]⟩,
    ⟨0x40, 1, false, .single, .plain, [⟨1, 1, .rwp, 0⟩, ⟨0, 0, .rwp, 0⟩]⟩ ] ++
  [ ⟨0x44, 1, false, .single, .plain, [⟨31, 16, .rwp, 200⟩, ⟨15, 0, .rwp, 200⟩]⟩,
    ⟨0x48, 1, false, .single, .plain, [⟨31, 20, .rwp, 500⟩, ⟨19, 10, .rwp, 50⟩, ⟨9, 0, .rwp, 50⟩]⟩,
    ⟨0x4c, 1, false, .single, .plain, [⟨19, 0, .rw, 10000⟩]⟩,
    ⟨0x50, 1, false, .single, .plain, [⟨19, 0, .rw, 0⟩]⟩,
    ⟨0x54, 1, false, .single, .plain, [⟨2, 0, .ro, 0⟩]⟩,
    ⟨0x200, 128, false, .single, .plain, [⟨31, 0, .ro, 0⟩]⟩ ]

/-- Registers of SNK (R424). -/
def dpoSnkRegs : List RegSpec :=
  [ ⟨0x0, 1, false, .single, .plain, [⟨2, 0, .ro, 0⟩]⟩,
    ⟨0x4, 1, false, .single, .plain, [⟨31, 31, .rw, 0⟩, ⟨10, 8, .rw, 3⟩]⟩,
    ⟨0x8, 1, false, .single, .plain, [⟨31, 28, .ro, 0⟩, ⟨12, 10, .ro, 0⟩, ⟨9, 7, .ro, 0⟩, ⟨3, 3, .ro, 0⟩, ⟨2, 2, .ro, 0⟩, ⟨1, 1, .ro, 0⟩, ⟨0, 0, .ro, 0⟩]⟩,
    ⟨0xc, 1, false, .single, .plain, [⟨6, 6, .w1c, 0⟩, ⟨5, 5, .w1c, 0⟩, ⟨4, 4, .w1c, 0⟩, ⟨3, 3, .w1c, 0⟩, ⟨2, 2, .w1c, 0⟩, ⟨1, 1, .w1c, 0⟩, ⟨0, 0, .w1c, 0⟩]⟩,
    ⟨0x10, 1, false, .single, .plain, [⟨6, 0, .rw, 0⟩]⟩,
    ⟨0x14, 1, false, .single, .plain, [⟨0, 0, .wo, 0⟩]⟩,
    ⟨0x18, 1, false, .single, .plain, [⟨29, 16, .ro, 0⟩, ⟨13, 0, .ro, 0⟩]⟩,
    ⟨0x1c, 1, false, .single, .plain, [⟨23, 0, .ro, 0⟩]⟩,
    ⟨0x20, 1, false, .single, .plain, [⟨31, 0, .ro, 0⟩]⟩,
    ⟨0x24, 1, false, .single, .plain, [⟨31, 0, .ro, 0⟩]⟩,
    ⟨0x28, 1, false, .single, .plain, [⟨31, 0, .ro, 0⟩]⟩,
    ⟨0x2c, 1, false, .single, .plain, [⟨31, 0, .ro, 0⟩]⟩ ] ++
  [ ⟨0x100, 64, false, .single, .plain, [⟨31, 0, .rw, 0⟩]⟩ ]

/-- Registers of DPOG (R424). -/
def dpoGlobalRegs : List RegSpec :=
  [ ⟨0x0, 1, false, .single, .plain, [⟨23, 16, .ro, 0⟩, ⟨15, 0, .ro, 0⟩]⟩ ]

/-- Registers of WLK (R512). -/
def wlkRegs : List RegSpec :=
  [ ⟨0x0, 1, false, .single, .plain, [⟨3, 0, .ro, 0⟩]⟩,
    ⟨0x4, 1, false, .single, .plain, [⟨31, 31, .wo, 0⟩, ⟨5, 5, .rw, 0⟩, ⟨4, 4, .rw, 0⟩, ⟨1, 1, .rwp, 0⟩, ⟨0, 0, .rw, 0⟩]⟩,
    ⟨0x8, 1, false, .single, .plain, [⟨30, 28, .ro, 0⟩, ⟨23, 20, .ro, 0⟩, ⟨15, 12, .ro, 0⟩, ⟨8, 8, .ro, 0⟩, ⟨2, 0, .ro, 0⟩]⟩,
    ⟨0xc, 1, false, .single, .plain, [⟨5, 5, .w1c, 0⟩, ⟨4, 4, .w1c, 0⟩, ⟨3, 3, .w1c, 0⟩, ⟨2, 2, .w1c, 0⟩, ⟨1, 1, .w1c, 0⟩, ⟨0, 0, .w1c, 0⟩]⟩,
    ⟨0x10, 1, false, .single, .plain, [⟨5, 0, .rw, 0⟩]⟩,
    ⟨0x14, 1, false, .single, .plain, [⟨19, 16, .rw, 4⟩, ⟨13, 0, .rw, 1000⟩]⟩,
    ⟨0x20, 1, false, .single, .plain, [⟨31, 0, .ro, 0⟩]⟩,
    ⟨0x24, 1, false, .single, .plain, [⟨31, 0, .ro, 0⟩]⟩,
    ⟨0x28, 1, false, .single, .plain, [⟨31, 0, .ro, 0⟩]⟩,
    ⟨0x2c, 1, false, .single, .plain, [⟨31, 0, .ro, 0⟩]⟩,
    ⟨0x30, 1, false, .single, .plain, [⟨31, 0, .ro, 0⟩]⟩,
    ⟨0x34, 1, false, .single, .plain, [⟨31, 0, .ro, 0⟩]⟩ ] ++
  [ ⟨0x38, 1, false, .single, .plain, [⟨31, 0, .ro, 0⟩]⟩,
    ⟨0x3c, 1, false, .single, .plain, [⟨31, 0, .ro, 0⟩]⟩,
    ⟨0x80, 15, false, .single, .plain, [⟨7, 0, .rw, 1⟩]⟩,
    ⟨0x100, 1, false, .low, .plain, [⟨31, 12, .rw, 0⟩]⟩,
    ⟨0x104, 1, false, .high, .plain, [⟨7, 0, .rw, 0⟩]⟩,
    ⟨0x108, 1, false, .low, .plain, [⟨31, 12, .rw, 0⟩]⟩,
    ⟨0x10c, 1, false, .high, .plain, [⟨7, 0, .rw, 0⟩]⟩,
    ⟨0x110, 1, false, .single, .plain, [⟨31, 31, .rw, 0⟩, ⟨30, 30, .rw, 0⟩, ⟨11, 8, .rw, 4⟩, ⟨3, 0, .rw, 4⟩]⟩,
    ⟨0x114, 1, false, .single, .plain, [⟨15, 0, .ro, 0⟩]⟩,
    ⟨0x118, 1, false, .single, .plain, [⟨15, 0, .rw, 0⟩]⟩,
    ⟨0x11c, 1, false, .single, .plain, [⟨15, 0, .rw, 0⟩]⟩,
    ⟨0x120, 1, false, .single, .plain, [⟨15, 0, .ro, 0⟩]⟩ ]

/-- Registers of WPEER (R512). -/
def wlkPeerRegs : List RegSpec :=
  [ ⟨0x0, 1, false, .single, .plain, [⟨1, 1, .ro, 0⟩, ⟨0, 0, .rwp, 0⟩]⟩,
    ⟨0x4, 12, false, .single, .plain, [⟨31, 0, .rwp, 0⟩]⟩ ]

/-- Registers of TWIN (R550). -/
def twinRegs : List RegSpec :=
  [ ⟨0x0, 1, false, .single, .plain, [⟨15, 8, .ro, 0⟩, ⟨4, 4, .ro, 0⟩, ⟨3, 3, .ro, 0⟩, ⟨2, 2, .ro, 0⟩, ⟨1, 0, .ro, 0⟩]⟩,
    ⟨0x4, 1, false, .single, .plain, [⟨31, 24, .wo, 0⟩, ⟨3, 0, .wo, 0⟩]⟩,
    ⟨0x8, 1, false, .single, .plain, [⟨26, 24, .ro, 0⟩, ⟨23, 20, .ro, 0⟩, ⟨11, 11, .ro, 0⟩, ⟨10, 10, .ro, 0⟩, ⟨9, 9, .ro, 0⟩, ⟨8, 8, .ro, 0⟩, ⟨2, 0, .ro, 0⟩]⟩,
    ⟨0xc, 1, false, .single, .plain, [⟨8, 8, .w1c, 0⟩, ⟨7, 7, .w1c, 0⟩, ⟨6, 6, .w1c, 0⟩, ⟨5, 5, .w1c, 0⟩, ⟨4, 4, .w1c, 0⟩, ⟨3, 3, .w1c, 0⟩, ⟨2, 2, .w1c, 0⟩, ⟨1, 1, .w1c, 0⟩, ⟨0, 0, .w1c, 0⟩]⟩,
    ⟨0x10, 1, false, .single, .plain, [⟨8, 0, .rw, 0⟩]⟩,
    ⟨0x14, 1, false, .single, .plain, [⟨15, 0, .ro, 9⟩]⟩,
    ⟨0x18, 1, false, .single, .plain, [⟨31, 0, .ro, 0⟩]⟩,
    ⟨0x1c, 1, false, .single, .plain, [⟨31, 24, .ro, 0⟩, ⟨19, 16, .ro, 0⟩, ⟨15, 0, .ro, 0⟩]⟩,
    ⟨0x20, 1, false, .single, .plain, [⟨31, 0, .ro, 0⟩]⟩,
    ⟨0x24, 1, false, .single, .plain, [⟨31, 0, .ro, 0⟩]⟩,
    ⟨0x28, 1, false, .single, .plain, [⟨31, 0, .ro, 0⟩]⟩,
    ⟨0x2c, 1, false, .single, .plain, [⟨31, 0, .ro, 0⟩]⟩ ] ++
  [ ⟨0x30, 1, false, .single, .plain, [⟨31, 0, .ro, 0⟩]⟩,
    ⟨0x34, 1, false, .single, .plain, [⟨31, 0, .ro, 0⟩]⟩,
    ⟨0x38, 1, false, .single, .plain, [⟨31, 0, .ro, 0⟩]⟩,
    ⟨0x3c, 1, false, .single, .plain, [⟨31, 0, .ro, 0⟩]⟩,
    ⟨0x40, 1, false, .single, .plain, [⟨31, 16, .ro, 0⟩, ⟨15, 12, .ro, 0⟩, ⟨11, 6, .ro, 0⟩]⟩,
    ⟨0x44, 1, false, .single, .plain, [⟨31, 0, .ro, 0⟩]⟩,
    ⟨0x48, 1, false, .single, .plain, [⟨31, 16, .ro, 0⟩, ⟨15, 0, .ro, 0⟩]⟩,
    ⟨0x80, 8, false, .single, .plain, [⟨31, 0, .ro, 0⟩]⟩,
    ⟨0xa0, 8, false, .single, .plain, [⟨31, 0, .ro, 0⟩]⟩ ]

/-- Registers of MEMC (R583). -/
def memcRegs : List RegSpec :=
  [ ⟨0x0, 1, false, .single, .plain, [⟨3, 3, .ro, 0⟩, ⟨2, 2, .ro, 0⟩, ⟨1, 1, .ro, 0⟩, ⟨0, 0, .ro, 0⟩]⟩,
    ⟨0x4, 1, false, .single, .plain, [⟨15, 0, .ro, 0x4000⟩]⟩,
    ⟨0x8, 1, false, .low, .plain, [⟨31, 21, .rw, 0⟩]⟩,
    ⟨0xc, 1, false, .high, .plain, [⟨7, 0, .rw, 0x10⟩]⟩,
    ⟨0x10, 1, false, .single, .plain, [⟨31, 31, .rw, 0⟩, ⟨23, 16, .rw, 2⟩, ⟨7, 0, .rw, 10⟩]⟩,
    ⟨0x14, 1, false, .single, .plain, [⟨31, 0, .ro, 0⟩]⟩,
    ⟨0x18, 1, false, .single, .plain, [⟨31, 0, .ro, 0⟩]⟩,
    ⟨0x20, 1, false, .single, .plain, [⟨31, 31, .rw, 1⟩, ⟨7, 0, .rw, 24⟩]⟩,
    ⟨0x24, 1, false, .single, .plain, [⟨31, 0, .ro, 0⟩]⟩,
    ⟨0x30, 1, false, .single, .plain, [⟨2, 2, .w1c, 0⟩, ⟨1, 1, .w1c, 0⟩, ⟨0, 0, .w1c, 0⟩]⟩,
    ⟨0x34, 1, false, .single, .plain, [⟨2, 0, .rw, 0⟩]⟩,
    ⟨0x38, 1, false, .single, .plain, [⟨31, 0, .ro, 0⟩]⟩ ] ++
  [ ⟨0x3c, 1, false, .single, .plain, [⟨31, 0, .ro, 0⟩]⟩,
    ⟨0x40, 1, false, .low, .plain, [⟨31, 6, .ro, 0⟩]⟩,
    ⟨0x44, 1, false, .high, .plain, [⟨7, 0, .ro, 0⟩]⟩,
    ⟨0x48, 1, false, .low, .plain, [⟨31, 6, .ro, 0⟩]⟩,
    ⟨0x4c, 1, false, .high, .plain, [⟨7, 0, .ro, 0⟩]⟩ ]

/-- Registers of TAG (R586). -/
def tagGlobalRegs : List RegSpec :=
  [ ⟨0x0, 1, false, .single, .plain, [⟨7, 0, .ro, 0⟩]⟩,
    ⟨0x10, 4, false, .single, .plain, [⟨31, 0, .ro, 0⟩]⟩,
    ⟨0x20, 1, false, .single, .plain, [⟨0, 0, .rw, 0⟩]⟩,
    ⟨0x24, 1, false, .single, .plain, [⟨31, 0, .ro, 0⟩]⟩,
    ⟨0x100, 1, false, .single, .plain, [⟨31, 31, .rw, 0⟩, ⟨22, 0, .rw, 0⟩]⟩,
    ⟨0x104, 1, false, .single, .plain, [⟨23, 0, .rw, 0⟩]⟩,
    ⟨0x108, 1, false, .single, .plain, [⟨31, 24, .wo, 0⟩, ⟨8, 8, .wo, 0⟩, ⟨3, 0, .wo, 0⟩]⟩,
    ⟨0x10c, 1, false, .single, .plain, [⟨31, 24, .ro, 0⟩, ⟨2, 2, .w1c, 0⟩, ⟨1, 1, .w1c, 0⟩, ⟨0, 0, .ro, 0⟩]⟩,
    ⟨0x110, 1, false, .single, .plain, [⟨23, 0, .ro, 0⟩]⟩,
    ⟨0x114, 1, false, .single, .plain, [⟨15, 0, .ro, 0⟩]⟩,
    ⟨0x200, 2, false, .single, .plain, [⟨31, 0, .rwp, 0⟩]⟩ ]

/-- Registers of CHK (R586). -/
def tagChkRegs : List RegSpec :=
  [ ⟨0x0, 1, false, .single, .mask, [⟨31, 29, .ro, 0⟩, ⟨28, 17, .rwp, 0⟩, ⟨16, 16, .ro, 0⟩, ⟨15, 13, .ro, 0⟩, ⟨12, 1, .rwp, 0⟩, ⟨0, 0, .ro, 0⟩]⟩,
    ⟨0x4, 1, false, .single, .plain, [⟨18, 18, .ro, 0⟩, ⟨17, 17, .ro, 0⟩, ⟨16, 16, .ro, 0⟩, ⟨15, 0, .ro, 0⟩]⟩,
    ⟨0x8, 1, false, .single, .plain, [⟨0, 0, .w1c, 0⟩]⟩,
    ⟨0xc, 1, false, .low, .plain, [⟨31, 0, .ro, 0⟩]⟩,
    ⟨0x10, 1, false, .high, .plain, [⟨7, 0, .ro, 0⟩]⟩,
    ⟨0x14, 1, false, .single, .plain, [⟨31, 28, .ro, 0⟩, ⟨27, 24, .ro, 0⟩, ⟨23, 20, .ro, 0⟩, ⟨19, 19, .ro, 0⟩, ⟨18, 18, .ro, 0⟩, ⟨17, 16, .ro, 0⟩, ⟨8, 0, .ro, 0⟩]⟩,
    ⟨0x18, 1, false, .single, .plain, [⟨31, 0, .ro, 0⟩]⟩,
    ⟨0x1c, 1, false, .single, .plain, [⟨31, 0, .ro, 0⟩]⟩ ]

/-- Registers of TB[t] at t × 0x100 in the TIME block at 0x40F0_0000, with their offsets, access types and resets (R612). -/
def timeTbRegs : List RegSpec :=
  [ ⟨0x0, 1, false, .single, .plain, [⟨31, 24, .wo, 0⟩, ⟨3, 0, .wo, 0⟩]⟩,
    ⟨0x4, 1, false, .single, .plain, [⟨2, 2, .ro, 0⟩, ⟨1, 1, .ro, 0⟩, ⟨0, 0, .ro, 0⟩]⟩,
    ⟨0x8, 1, false, .single, .plain, [⟨5, 5, .w1c, 0⟩, ⟨4, 4, .w1c, 0⟩, ⟨3, 3, .w1c, 0⟩, ⟨2, 2, .w1c, 0⟩, ⟨1, 1, .w1c, 0⟩, ⟨0, 0, .w1c, 0⟩]⟩,
    ⟨0xc, 1, false, .single, .plain, [⟨5, 0, .rw, 0⟩]⟩,
    ⟨0x10, 1, false, .single, .plain, [⟨29, 0, .ro, 0⟩]⟩,
    ⟨0x14, 1, false, .low, .plain, [⟨31, 0, .ro, 0⟩]⟩,
    ⟨0x18, 1, false, .high, .plain, [⟨15, 0, .ro, 0⟩]⟩,
    ⟨0x1c, 1, false, .single, .plain, [⟨15, 0, .ro, 0⟩]⟩,
    ⟨0x20, 1, false, .low, .plain, [⟨31, 0, .rw, 0⟩]⟩,
    ⟨0x24, 1, false, .high, .plain, [⟨15, 0, .rw, 0⟩]⟩,
    ⟨0x28, 1, false, .single, .plain, [⟨29, 0, .rw, 0⟩]⟩,
    ⟨0x2c, 1, false, .low, .plain, [⟨31, 0, .rw, 0⟩]⟩ ] ++
  [ ⟨0x30, 1, false, .high, .plain, [⟨31, 0, .rw, 0⟩]⟩,
    ⟨0x34, 1, false, .low, .plain, [⟨31, 0, .rw, 0⟩]⟩,
    ⟨0x38, 1, false, .high, .plain, [⟨31, 0, .rw, 0⟩]⟩,
    ⟨0x3c, 1, false, .single, .plain, [⟨15, 0, .rw, 0⟩]⟩,
    ⟨0x40, 1, false, .single, .plain, [⟨31, 0, .rw, 0⟩]⟩,
    ⟨0x44, 1, false, .single, .plain, [⟨31, 31, .rw, 0⟩, ⟨19, 16, .rw, 0xD⟩, ⟨15, 8, .rw, 32⟩, ⟨7, 0, .rw, 128⟩]⟩,
    ⟨0x48, 1, false, .single, .plain, [⟨30, 0, .rw, 100000⟩]⟩,
    ⟨0x4c, 1, false, .single, .plain, [⟨31, 0, .ro, 0⟩]⟩,
    ⟨0x50, 1, false, .single, .plain, [⟨31, 0, .ro, 0⟩]⟩,
    ⟨0x54, 1, false, .single, .plain, [⟨31, 0, .ro, 0⟩]⟩,
    ⟨0x58, 1, false, .single, .plain, [⟨31, 0, .ro, 0⟩]⟩ ]

/-- Registers of PORT[p] at 0x1000 + p × 0x80 in the TIME block (R612). -/
def timePortRegs : List RegSpec :=
  [ ⟨0x0, 1, false, .single, .plain, [⟨31, 31, .rw, 0⟩, ⟨18, 18, .rw, 0⟩, ⟨17, 17, .rw, 0⟩, ⟨16, 16, .rw, 0⟩, ⟨12, 12, .rw, 0⟩, ⟨11, 8, .rw, 0⟩, ⟨7, 0, .rw, 0⟩]⟩,
    ⟨0x4, 1, false, .single, .plain, [⟨15, 0, .rw, 0⟩]⟩,
    ⟨0x8, 1, false, .single, .plain, [⟨15, 0, .rw, 0⟩]⟩,
    ⟨0xc, 1, false, .single, .plain, [⟨2, 2, .w1c, 0⟩, ⟨1, 1, .w1c, 0⟩, ⟨0, 0, .w1c, 0⟩]⟩,
    ⟨0x10, 1, false, .single, .plain, [⟨2, 0, .rw, 0⟩]⟩,
    ⟨0x20, 1, false, .single, .plain, [⟨31, 31, .w1c, 0⟩, ⟨4, 0, .ro, 0⟩]⟩,
    ⟨0x24, 1, false, .single, .plain, [⟨31, 31, .ro, 0⟩, ⟨15, 0, .ro, 0⟩]⟩,
    ⟨0x28, 1, false, .single, .plain, [⟨29, 0, .ro, 0⟩]⟩,
    ⟨0x2c, 1, false, .low, .plain, [⟨31, 0, .ro, 0⟩]⟩,
    ⟨0x30, 1, false, .high, .plain, [⟨31, 16, .ro, 0⟩, ⟨15, 0, .ro, 0⟩]⟩,
    ⟨0x34, 1, false, .single, .plain, [⟨0, 0, .wo, 0⟩]⟩,
    ⟨0x38, 1, false, .single, .plain, [⟨31, 0, .ro, 0⟩]⟩ ] ++
  [ ⟨0x40, 1, false, .single, .plain, [⟨31, 31, .w1c, 0⟩, ⟨4, 0, .ro, 0⟩]⟩,
    ⟨0x44, 1, false, .single, .plain, [⟨31, 31, .ro, 0⟩, ⟨15, 0, .ro, 0⟩]⟩,
    ⟨0x48, 1, false, .single, .plain, [⟨29, 0, .ro, 0⟩]⟩,
    ⟨0x4c, 1, false, .low, .plain, [⟨31, 0, .ro, 0⟩]⟩,
    ⟨0x50, 1, false, .high, .plain, [⟨31, 16, .ro, 0⟩, ⟨15, 0, .ro, 0⟩]⟩,
    ⟨0x54, 1, false, .single, .plain, [⟨0, 0, .wo, 0⟩]⟩,
    ⟨0x58, 1, false, .single, .plain, [⟨31, 0, .ro, 0⟩]⟩ ]

/-- Global registers at 0x8_0000 in the TIME block (R612). -/
def timeGlobalRegs : List RegSpec :=
  [ ⟨0x0, 1, false, .single, .plain, [⟨4, 4, .ro, 0⟩, ⟨3, 0, .ro, 0⟩]⟩,
    ⟨0x4, 1, false, .single, .plain, [⟨23, 16, .ro, 0⟩, ⟨7, 0, .ro, 0⟩]⟩ ]

/-- Registers of IRQ (R638). -/
def irqGlobalRegs : List RegSpec :=
  [ ⟨0x0, 1, false, .single, .plain, [⟨29, 24, .ro, 32⟩, ⟨19, 16, .ro, 12⟩, ⟨9, 0, .ro, 512⟩]⟩,
    ⟨0x10, 1, false, .single, .plain, [⟨15, 0, .w1s, 0⟩]⟩,
    ⟨0x100, 32, false, .single, .plain, [⟨15, 0, .rwp, 0⟩]⟩,
    ⟨0x200, 16, false, .single, .plain, [⟨31, 0, .ro, 0⟩]⟩,
    ⟨0x240, 16, false, .single, .plain, [⟨31, 0, .ro, 0⟩]⟩,
    ⟨0x1000, 512, false, .single, .plain, [⟨31, 31, .rwp, 0⟩, ⟨30, 30, .ro, 0⟩, ⟨29, 29, .ro, 0⟩, ⟨19, 16, .rwp, 0⟩, ⟨11, 0, .rwp, 0⟩]⟩ ]

/-- Registers of TGT (R638). -/
def irqTgtRegs : List RegSpec :=
  [ ⟨0x0, 1, false, .single, .plain, [⟨31, 31, .rw, 0⟩, ⟨3, 0, .rw, 0⟩]⟩,
    ⟨0x4, 1, false, .single, .plain, [⟨31, 31, .ro, 0⟩, ⟨30, 30, .ro, 0⟩, ⟨29, 29, .ro, 0⟩, ⟨20, 16, .ro, 0⟩, ⟨15, 12, .ro, 0⟩, ⟨8, 0, .ro, 0⟩]⟩,
    ⟨0x8, 1, false, .single, .plain, [⟨31, 31, .rc, 0⟩, ⟨19, 16, .rc, 0⟩, ⟨8, 0, .rc, 0⟩]⟩,
    ⟨0xc, 1, false, .single, .plain, [⟨8, 0, .wo, 0⟩]⟩,
    ⟨0x10, 1, false, .single, .plain, [⟨31, 24, .wo, 0⟩, ⟨0, 0, .wo, 0⟩]⟩,
    ⟨0x14, 1, false, .single, .plain, [⟨31, 31, .ro, 0⟩, ⟨24, 16, .ro, 0⟩, ⟨8, 0, .ro, 0⟩]⟩,
    ⟨0x18, 1, false, .single, .plain, [⟨31, 0, .ro, 0⟩]⟩,
    ⟨0x1c, 1, false, .single, .plain, [⟨31, 0, .ro, 0⟩]⟩,
    ⟨0x40, 16, false, .single, .plain, [⟨31, 31, .ro, 0⟩, ⟨19, 16, .ro, 0⟩, ⟨8, 0, .ro, 0⟩]⟩ ]

/-- Registers of MSIX (R644). -/
def irqMsixRegs : List RegSpec :=
  [ ⟨0x0, 20, false, .single, .msix, [⟨31, 0, .rw, 0⟩]⟩,
    ⟨0x1000, 1, false, .single, .plain, [⟨4, 0, .ro, 0⟩]⟩ ]

/-- Registers of CVE (R657). -/
def cveRegs : List RegSpec :=
  [ ⟨0x0, 1, false, .single, .plain, [⟨31, 24, .wo, 0⟩, ⟨3, 0, .wo, 0⟩]⟩,
    ⟨0x4, 1, false, .single, .plain, [⟨19, 19, .rw, 0⟩, ⟨18, 18, .rw, 0⟩, ⟨17, 17, .rw, 0⟩, ⟨16, 16, .rw, 0⟩, ⟨12, 8, .rw, 0⟩, ⟨1, 0, .rw, 0⟩]⟩,
    ⟨0x8, 1, false, .low, .plain, [⟨31, 0, .rw, 0⟩]⟩,
    ⟨0xc, 1, false, .high, .plain, [⟨7, 0, .rw, 0⟩]⟩,
    ⟨0x10, 1, false, .single, .plain, [⟨31, 0, .rw, 0⟩]⟩,
    ⟨0x14, 1, false, .low, .plain, [⟨31, 5, .rw, 0⟩]⟩,
    ⟨0x18, 1, false, .high, .plain, [⟨7, 0, .rw, 0⟩]⟩,
    ⟨0x1c, 1, false, .low, .plain, [⟨31, 3, .rw, 0⟩]⟩,
    ⟨0x20, 1, false, .high, .plain, [⟨7, 0, .rw, 0⟩]⟩,
    ⟨0x24, 1, false, .single, .plain, [⟨3, 0, .rw, 0⟩]⟩,
    ⟨0x28, 1, false, .single, .plain, [⟨31, 24, .ro, 0⟩, ⟨3, 3, .w1c, 0⟩, ⟨2, 2, .w1c, 0⟩, ⟨1, 1, .w1c, 0⟩, ⟨0, 0, .ro, 0⟩]⟩,
    ⟨0x2c, 1, false, .single, .plain, [⟨3, 1, .rw, 0⟩]⟩ ] ++
  [ ⟨0x30, 1, false, .low, .plain, [⟨31, 0, .ro, 0⟩]⟩,
    ⟨0x34, 1, false, .high, .plain, [⟨31, 0, .ro, 0⟩]⟩,
    ⟨0x38, 1, false, .low, .plain, [⟨31, 0, .ro, 0⟩]⟩,
    ⟨0x3c, 1, false, .high, .plain, [⟨31, 0, .ro, 0⟩]⟩,
    ⟨0x40, 1, false, .low, .plain, [⟨31, 0, .ro, 0⟩]⟩,
    ⟨0x44, 1, false, .high, .plain, [⟨7, 0, .ro, 0⟩]⟩,
    ⟨0x48, 1, false, .single, .plain, [⟨31, 0, .ro, 0⟩]⟩,
    ⟨0x4c, 1, false, .single, .plain, [⟨31, 0, .ro, 0⟩]⟩,
    ⟨0x50, 1, false, .single, .plain, [⟨31, 0, .ro, 0⟩]⟩,
    ⟨0x54, 1, false, .single, .plain, [⟨31, 0, .ro, 0⟩]⟩ ]

/-- Registers of LANE (R681). -/
def laneRegs : List RegSpec :=
  [ ⟨0x0, 1, false, .single, .plain, [⟨21, 21, .ro, 0⟩, ⟨20, 20, .ro, 0⟩, ⟨18, 16, .ro, 0⟩, ⟨11, 8, .ro, 0⟩, ⟨3, 0, .ro, 0⟩]⟩,
    ⟨0x4, 1, false, .single, .plain, [⟨8, 8, .wo, 0⟩, ⟨1, 0, .rw, 2⟩]⟩,
    ⟨0x8, 1, false, .single, .plain, [⟨23, 16, .ro, 0⟩, ⟨7, 7, .ro, 0⟩, ⟨6, 6, .ro, 0⟩, ⟨5, 5, .ro, 0⟩, ⟨4, 4, .ro, 0⟩, ⟨3, 3, .ro, 0⟩, ⟨2, 0, .ro, 0⟩]⟩,
    ⟨0xc, 1, false, .single, .plain, [⟨4, 4, .w1c, 0⟩, ⟨3, 3, .w1c, 0⟩, ⟨2, 2, .w1c, 0⟩, ⟨1, 1, .w1c, 0⟩, ⟨0, 0, .w1c, 0⟩]⟩,
    ⟨0x10, 1, false, .single, .plain, [⟨4, 0, .rw, 0⟩]⟩,
    ⟨0x14, 1, false, .single, .plain, [⟨14, 0, .rwp, 0⟩]⟩,
    ⟨0x18, 1, false, .single, .plain, [⟨17, 17, .rw, 0⟩, ⟨16, 16, .rw, 0⟩, ⟨13, 12, .rw, 0⟩, ⟨8, 8, .rw, 0⟩, ⟨5, 4, .rw, 0⟩, ⟨1, 0, .rw, 0⟩]⟩,
    ⟨0x1c, 1, false, .low, .plain, [⟨31, 0, .rw, 0⟩]⟩,
    ⟨0x20, 1, false, .high, .plain, [⟨7, 0, .rw, 0⟩]⟩,
    ⟨0x24, 1, false, .low, .plain, [⟨31, 0, .ro, 0⟩]⟩,
    ⟨0x28, 1, false, .high, .plain, [⟨7, 0, .ro, 0⟩]⟩,
    ⟨0x2c, 1, false, .single, .plain, [⟨31, 0, .ro, 0⟩]⟩ ] ++
  [ ⟨0x30, 1, false, .low, .plain, [⟨31, 0, .ro, 0⟩]⟩,
    ⟨0x34, 1, false, .high, .plain, [⟨31, 0, .ro, 0⟩]⟩,
    ⟨0x38, 1, false, .single, .plain, [⟨31, 0, .ro, 0⟩]⟩,
    ⟨0x3c, 1, false, .single, .plain, [⟨31, 0, .ro, 0⟩]⟩,
    ⟨0x40, 1, false, .single, .plain, [⟨31, 0, .ro, 0⟩]⟩ ]

/-- Registers of LANEG (R681). -/
def laneGlobalRegs : List RegSpec :=
  [ ⟨0x0, 6, false, .single, .plain, [⟨15, 0, .ro, 0⟩]⟩ ]

/-- Registers of SAP (R706). -/
def sapRegs : List RegSpec :=
  [ ⟨0x0, 1, false, .single, .plain, [⟨1, 1, .rw, 0⟩, ⟨0, 0, .rw, 0⟩]⟩,
    ⟨0x4, 1, false, .single, .plain, [⟨31, 24, .rw, 3⟩, ⟨23, 23, .rw, 0⟩, ⟨22, 22, .rw, 0⟩, ⟨21, 21, .rw, 0⟩, ⟨20, 20, .rw, 0⟩, ⟨19, 19, .rw, 0⟩, ⟨18, 17, .rw, 1⟩, ⟨16, 15, .rw, 2⟩, ⟨14, 10, .rw, 2⟩, ⟨1, 0, .rw, 0⟩]⟩,
    ⟨0x8, 1, false, .single, .plain, [⟨31, 0, .rw, 0⟩]⟩,
    ⟨0xc, 1, false, .single, .plain, [⟨11, 8, .rw, 0⟩, ⟨7, 6, .rw, 0⟩, ⟨2, 2, .rw, 0⟩, ⟨1, 0, .rw, 0⟩]⟩,
    ⟨0x10, 1, false, .single, .plain, [⟨31, 16, .rw, 0⟩, ⟨15, 0, .rw, 0⟩]⟩,
    ⟨0x14, 1, false, .single, .plain, [⟨31, 28, .rw, 0⟩, ⟨27, 16, .rw, 0⟩, ⟨8, 0, .rw, 0⟩]⟩,
    ⟨0x18, 1, false, .single, .plain, [⟨31, 28, .rw, 0⟩, ⟨27, 16, .rw, 0⟩, ⟨7, 0, .rw, 0⟩]⟩,
    ⟨0x1c, 1, false, .single, .plain, [⟨23, 0, .rw, 0⟩]⟩,
    ⟨0x20, 1, false, .single, .plain, [⟨6, 0, .rw, 0⟩]⟩,
    ⟨0x24, 1, false, .low, .plain, [⟨31, 12, .rw, 0⟩]⟩,
    ⟨0x28, 1, false, .high, .plain, [⟨7, 0, .rw, 0⟩]⟩,
    ⟨0x2c, 1, false, .single, .plain, [⟨4, 0, .rw, 0⟩]⟩ ] ++
  [ ⟨0x30, 1, false, .single, .plain, [⟨31, 0, .rw, 0⟩]⟩,
    ⟨0x34, 1, false, .single, .plain, [⟨31, 0, .ro, 0⟩]⟩,
    ⟨0x38, 1, false, .low, .plain, [⟨31, 12, .rw, 0⟩]⟩,
    ⟨0x3c, 1, false, .high, .plain, [⟨7, 0, .rw, 0⟩]⟩,
    ⟨0x40, 1, false, .single, .plain, [⟨4, 0, .rw, 0⟩]⟩,
    ⟨0x44, 1, false, .single, .plain, [⟨31, 0, .ro, 0⟩]⟩,
    ⟨0x48, 1, false, .single, .plain, [⟨31, 0, .rw, 0⟩]⟩,
    ⟨0x4c, 1, false, .single, .plain, [⟨15, 0, .rw, 0⟩]⟩,
    ⟨0x50, 1, false, .single, .plain, [⟨4, 4, .ro, 0⟩, ⟨3, 3, .ro, 0⟩, ⟨2, 2, .ro, 0⟩, ⟨1, 1, .ro, 0⟩, ⟨0, 0, .ro, 0⟩]⟩,
    ⟨0x54, 1, false, .single, .plain, [⟨5, 5, .w1c, 0⟩, ⟨4, 4, .w1c, 0⟩, ⟨3, 3, .w1c, 0⟩, ⟨2, 2, .w1c, 0⟩, ⟨1, 1, .w1c, 0⟩, ⟨0, 0, .w1c, 0⟩]⟩,
    ⟨0x58, 1, false, .single, .plain, [⟨5, 0, .rw, 0⟩]⟩,
    ⟨0x5c, 1, false, .single, .plain, [⟨23, 0, .ro, 0⟩]⟩ ] ++
  [ ⟨0x60, 1, false, .single, .plain, [⟨31, 0, .ro, 0⟩]⟩,
    ⟨0x64, 1, false, .single, .plain, [⟨31, 0, .ro, 0⟩]⟩,
    ⟨0x68, 1, false, .single, .plain, [⟨31, 0, .ro, 0⟩]⟩,
    ⟨0x6c, 1, false, .single, .plain, [⟨31, 0, .ro, 0⟩]⟩,
    ⟨0x70, 1, false, .single, .plain, [⟨31, 0, .ro, 0⟩]⟩ ]

/-- Registers of AUDG (R706). -/
def audGlobalRegs : List RegSpec :=
  [ ⟨0x0, 1, false, .single, .plain, [⟨0, 0, .rw, 0⟩]⟩,
    ⟨0x4, 1, false, .single, .plain, [⟨31, 0, .rw, 0⟩]⟩,
    ⟨0x8, 1, false, .single, .plain, [⟨0, 0, .w1c, 0⟩]⟩ ]

/-- Registers of TCH (R725). -/
def tchRegs : List RegSpec :=
  [ ⟨0x0, 1, false, .single, .plain, [⟨0, 0, .rw, 0⟩]⟩,
    ⟨0x4, 1, false, .single, .plain, [⟨27, 24, .rw, 0⟩, ⟨18, 16, .rw, 1⟩, ⟨11, 0, .rw, 100⟩]⟩,
    ⟨0x8, 1, false, .single, .plain, [⟨19, 0, .rw, 10000⟩]⟩,
    ⟨0xc, 1, false, .single, .plain, [⟨31, 16, .rw, 10⟩, ⟨15, 0, .rw, 50⟩]⟩,
    ⟨0x10, 1, false, .single, .plain, [⟨31, 24, .rw, 30⟩, ⟨23, 20, .rw, 2⟩, ⟨19, 16, .rw, 2⟩, ⟨15, 0, .rw, 100⟩]⟩,
    ⟨0x14, 1, false, .single, .plain, [⟨11, 0, .rw, 60⟩]⟩,
    ⟨0x18, 1, false, .low, .plain, [⟨31, 0, .rw, 0⟩]⟩,
    ⟨0x1c, 1, false, .high, .plain, [⟨31, 0, .rw, 0⟩]⟩,
    ⟨0x20, 1, false, .single, .plain, [⟨2, 2, .ro, 0⟩, ⟨1, 1, .ro, 0⟩, ⟨0, 0, .ro, 0⟩]⟩,
    ⟨0x24, 1, false, .single, .plain, [⟨3, 3, .w1c, 0⟩, ⟨2, 2, .w1c, 0⟩, ⟨1, 1, .w1c, 0⟩, ⟨0, 0, .w1c, 0⟩]⟩,
    ⟨0x28, 1, false, .single, .plain, [⟨3, 0, .rw, 0⟩]⟩,
    ⟨0x2c, 1, false, .low, .plain, [⟨31, 0, .ro, 0⟩]⟩ ] ++
  [ ⟨0x30, 1, false, .high, .plain, [⟨31, 0, .ro, 0⟩]⟩,
    ⟨0x34, 1, false, .low, .plain, [⟨31, 12, .rw, 0⟩]⟩,
    ⟨0x38, 1, false, .high, .plain, [⟨7, 0, .rw, 0⟩]⟩,
    ⟨0x3c, 1, false, .single, .plain, [⟨3, 0, .rw, 4⟩]⟩,
    ⟨0x40, 1, false, .single, .plain, [⟨15, 0, .ro, 0⟩]⟩,
    ⟨0x44, 1, false, .single, .plain, [⟨15, 0, .rw, 0⟩]⟩,
    ⟨0x48, 1, false, .single, .plain, [⟨31, 0, .ro, 0⟩]⟩,
    ⟨0x4c, 1, false, .single, .plain, [⟨31, 0, .ro, 0⟩]⟩ ]

/-- Registers of TCHC (R725). -/
def tchChRegs : List RegSpec :=
  [ ⟨0x0, 1, false, .single, .plain, [⟨7, 0, .ro, 0⟩]⟩,
    ⟨0x4, 1, false, .single, .plain, [⟨12, 0, .ro, 0⟩]⟩,
    ⟨0x8, 1, false, .single, .plain, [⟨12, 0, .ro, 0⟩]⟩,
    ⟨0xc, 1, false, .single, .plain, [⟨31, 31, .ro, 0⟩, ⟨30, 30, .ro, 0⟩, ⟨15, 0, .ro, 0⟩]⟩ ]

/-- Registers of THERM (R750). -/
def thermRegs : List RegSpec :=
  [ ⟨0x0, 1, false, .single, .plain, [⟨11, 11, .ro, 0⟩, ⟨10, 10, .ro, 0⟩, ⟨9, 9, .ro, 0⟩, ⟨8, 8, .ro, 0⟩, ⟨7, 6, .ro, 0⟩, ⟨5, 5, .ro, 0⟩, ⟨4, 4, .ro, 0⟩, ⟨2, 0, .ro, 0⟩]⟩,
    ⟨0x4, 1, false, .single, .plain, [⟨31, 24, .wo, 0⟩, ⟨3, 0, .wo, 0⟩]⟩,
    ⟨0x8, 1, false, .single, .plain, [⟨7, 7, .w1c, 0⟩, ⟨6, 6, .w1c, 0⟩, ⟨5, 5, .w1c, 0⟩, ⟨4, 4, .w1c, 0⟩, ⟨3, 3, .w1c, 0⟩, ⟨2, 2, .w1c, 0⟩, ⟨1, 1, .w1c, 0⟩, ⟨0, 0, .w1c, 0⟩]⟩,
    ⟨0xc, 1, false, .single, .plain, [⟨7, 0, .rw, 0⟩]⟩,
    ⟨0x10, 1, false, .single, .plain, [⟨21, 16, .ro, 0⟩, ⟨15, 0, .ro, 0x550⟩]⟩,
    ⟨0x14, 1, false, .single, .plain, [⟨15, 0, .rc, 0x8000⟩]⟩,
    ⟨0x18, 1, false, .single, .plain, [⟨15, 0, .ro, 0⟩]⟩,
    ⟨0x1c, 1, false, .single, .plain, [⟨15, 0, .ro, 0x550⟩]⟩,
    ⟨0x20, 1, false, .single, .plain, [⟨24, 24, .rwp, 0⟩, ⟨23, 16, .rwp, 0⟩, ⟨14, 8, .rwp, 0⟩, ⟨4, 4, .rwp, 0⟩, ⟨0, 0, .rwp, 0⟩]⟩,
    ⟨0x24, 1, false, .single, .plain, [⟨15, 0, .rwp, 0x550⟩]⟩,
    ⟨0x28, 1, false, .single, .plain, [⟨31, 0, .ro, 0⟩]⟩,
    ⟨0x2c, 1, false, .single, .plain, [⟨31, 0, .ro, 0⟩]⟩ ] ++
  [ ⟨0x30, 1, false, .single, .plain, [⟨31, 0, .ro, 0⟩]⟩,
    ⟨0x40, 10, false, .single, .plain, [⟨19, 0, .ro, 0⟩]⟩,
    ⟨0x80, 48, false, .single, .plain, [⟨15, 0, .ro, 0x550⟩]⟩ ]

/-- Registers of SEC (R772). -/
def secRegs : List RegSpec :=
  [ ⟨0x0, 1, false, .single, .plain, [⟨21, 17, .ro, 0⟩, ⟨16, 16, .ro, 0⟩, ⟨15, 12, .ro, 0⟩, ⟨11, 8, .ro, 0⟩, ⟨4, 4, .ro, 0⟩, ⟨3, 3, .ro, 0⟩, ⟨2, 2, .ro, 0⟩, ⟨1, 0, .ro, 0⟩]⟩,
    ⟨0x4, 1, false, .single, .plain, [⟨31, 24, .wo, 0⟩, ⟨7, 0, .wo, 0⟩]⟩,
    ⟨0x8, 1, false, .single, .plain, [⟨31, 24, .ro, 0⟩, ⟨2, 2, .w1c, 0⟩, ⟨1, 1, .w1c, 0⟩, ⟨0, 0, .ro, 0⟩]⟩,
    ⟨0xc, 1, false, .single, .plain, [⟨15, 0, .ro, 0⟩]⟩,
    ⟨0x10, 1, false, .low, .plain, [⟨31, 6, .rw, 0⟩]⟩,
    ⟨0x14, 1, false, .high, .plain, [⟨7, 0, .rw, 0⟩]⟩,
    ⟨0x18, 1, false, .single, .plain, [⟨3, 3, .w1c, 0⟩, ⟨2, 2, .w1c, 0⟩, ⟨1, 1, .w1c, 0⟩, ⟨0, 0, .w1c, 0⟩]⟩,
    ⟨0x1c, 1, false, .single, .plain, [⟨3, 0, .rw, 0⟩]⟩,
    ⟨0x20, 1, false, .single, .plain, [⟨31, 0, .ro, 0⟩]⟩,
    ⟨0x40, 12, false, .single, .plain, [⟨31, 0, .ro, 0⟩]⟩,
    ⟨0x80, 32, false, .single, .plain, [⟨31, 0, .rw, 0⟩]⟩ ]

/-- Registers of CLKRST (R795). -/
def clkrstRegs : List RegSpec :=
  [ ⟨0x0, 1, false, .single, .plain, [⟨8, 8, .ro, 0⟩, ⟨3, 0, .ro, 1⟩]⟩,
    ⟨0x4, 1, false, .single, .plain, [⟨31, 0, .ro, 0⟩]⟩,
    ⟨0x8, 1, false, .single, .plain, [⟨5, 5, .ro, 0⟩, ⟨4, 4, .ro, 0⟩, ⟨3, 3, .ro, 0⟩, ⟨2, 2, .ro, 0⟩, ⟨1, 1, .ro, 0⟩, ⟨0, 0, .ro, 0⟩]⟩,
    ⟨0xc, 1, false, .single, .plain, [⟨4, 4, .w1c, 0⟩, ⟨3, 3, .w1c, 0⟩, ⟨2, 2, .w1c, 0⟩, ⟨1, 1, .w1c, 0⟩, ⟨0, 0, .w1c, 0⟩]⟩,
    ⟨0x10, 1, false, .single, .plain, [⟨4, 0, .rw, 0⟩]⟩,
    ⟨0x14, 1, false, .single, .plain, [⟨31, 24, .wo, 0⟩, ⟨3, 0, .wo, 0⟩]⟩,
    ⟨0x18, 1, false, .single, .plain, [⟨31, 31, .rw, 0⟩, ⟨30, 30, .rw, 0⟩, ⟨29, 28, .rw, 0⟩, ⟨15, 0, .rw, 1000⟩]⟩,
    ⟨0x1c, 1, false, .single, .plain, [⟨31, 24, .wo, 0⟩]⟩,
    ⟨0x20, 1, false, .single, .plain, [⟨15, 0, .ro, 0⟩]⟩,
    ⟨0x30, 1, false, .single, .plain, [⟨31, 24, .wo, 0⟩, ⟨0, 0, .wo, 0⟩]⟩,
    ⟨0x34, 1, false, .low, .plain, [⟨31, 6, .rw, 0⟩]⟩,
    ⟨0x38, 1, false, .high, .plain, [⟨7, 0, .rw, 0⟩]⟩ ] ++
  [ ⟨0x3c, 1, false, .single, .plain, [⟨31, 24, .ro, 0⟩, ⟨1, 1, .ro, 0⟩, ⟨0, 0, .ro, 0⟩]⟩ ]

/-- Registers of CC (R795). -/
def clkrstCcRegs : List RegSpec :=
  [ ⟨0x0, 1, false, .single, .cc, [⟨1, 1, .rw, 0⟩, ⟨0, 0, .rw, 0⟩]⟩,
    ⟨0x4, 1, false, .low, .plain, [⟨31, 2, .rw, 0⟩]⟩,
    ⟨0x8, 1, false, .high, .plain, [⟨7, 0, .rw, 0⟩]⟩,
    ⟨0xc, 1, false, .single, .ccst, [⟨2, 0, .ro, 0⟩]⟩ ]

/-- Registers of FLT (R814). -/
def fltRegs : List RegSpec :=
  [ ⟨0x0, 1, false, .single, .plain, [⟨31, 31, .ro, 0⟩, ⟨7, 0, .ro, 0⟩]⟩,
    ⟨0x4, 1, false, .single, .plain, [⟨31, 0, .ro, 0⟩]⟩,
    ⟨0x8, 1, false, .single, .plain, [⟨31, 0, .rw, 0⟩]⟩,
    ⟨0xc, 1, false, .single, .plain, [⟨31, 0, .ro, 0⟩]⟩,
    ⟨0x10, 1, false, .single, .plain, [⟨2, 2, .w1c, 0⟩, ⟨1, 1, .w1c, 0⟩, ⟨0, 0, .w1c, 0⟩]⟩,
    ⟨0x14, 1, false, .single, .plain, [⟨2, 0, .rw, 0⟩]⟩,
    ⟨0x18, 1, false, .single, .plain, [⟨31, 0, .ro, 0⟩]⟩,
    ⟨0x1c, 1, false, .single, .plain, [⟨31, 0, .ro, 0⟩]⟩,
    ⟨0x100, 96, false, .single, .plain, [⟨15, 0, .ro, 0⟩]⟩,
    ⟨0x400, 96, false, .single, .plain, [⟨31, 24, .wo, 0⟩, ⟨23, 8, .rw, 0⟩, ⟨7, 4, .rw, 1⟩, ⟨3, 2, .rw, 0⟩, ⟨1, 1, .ro, 0⟩, ⟨0, 0, .wo, 0⟩]⟩,
    ⟨0x1000, 1024, false, .single, .plain, [⟨31, 0, .ro, 0⟩]⟩ ]

/-- Registers of MISC (R828). -/
def miscRegs : List RegSpec :=
  [ ⟨0x0, 1, false, .single, .plain, [⟨31, 0, .ro, 0⟩]⟩,
    ⟨0x4, 1, false, .single, .plain, [⟨31, 0, .rw, 0⟩]⟩,
    ⟨0x8, 1, false, .single, .plain, [⟨31, 0, .rw, 0⟩]⟩,
    ⟨0xc, 2, false, .single, .plain, [⟨31, 0, .rw, 0⟩]⟩,
    ⟨0x14, 1, false, .single, .plain, [⟨31, 0, .rw, 0⟩]⟩,
    ⟨0x20, 1, false, .low, .plain, [⟨31, 12, .rw, 0⟩]⟩,
    ⟨0x24, 1, false, .high, .plain, [⟨7, 0, .rw, 0⟩]⟩,
    ⟨0x28, 1, false, .single, .plain, [⟨11, 8, .rw, 0⟩, ⟨3, 0, .rw, 4⟩]⟩,
    ⟨0x2c, 1, false, .single, .plain, [⟨15, 0, .ro, 0⟩]⟩,
    ⟨0x30, 1, false, .single, .plain, [⟨15, 0, .rw, 0⟩]⟩,
    ⟨0x34, 1, false, .single, .plain, [⟨31, 0, .ro, 0⟩]⟩,
    ⟨0x38, 1, false, .single, .plain, [⟨3, 3, .w1c, 0⟩, ⟨2, 2, .w1c, 0⟩, ⟨1, 1, .w1c, 0⟩, ⟨0, 0, .w1c, 0⟩]⟩ ] ++
  [ ⟨0x3c, 1, false, .single, .plain, [⟨3, 0, .rw, 0⟩]⟩,
    ⟨0x40, 4, false, .single, .plain, [⟨31, 0, .rw, 0⟩]⟩,
    ⟨0x50, 1, false, .single, .plain, [⟨8, 8, .ro, 0⟩, ⟨1, 0, .ro, 0⟩]⟩,
    ⟨0x54, 1, false, .single, .plain, [⟨23, 0, .ro, 0⟩]⟩ ]

/-- Registers of I2C (R828). -/
def miscI2cRegs : List RegSpec :=
  [ ⟨0x0, 1, false, .single, .plain, [⟨2, 2, .rw, 0⟩, ⟨1, 1, .rw, 0⟩, ⟨0, 0, .rw, 0⟩]⟩,
    ⟨0x4, 1, false, .single, .plain, [⟨31, 31, .wo, 0⟩, ⟨27, 24, .wo, 0⟩, ⟨22, 16, .wo, 0⟩, ⟨12, 8, .wo, 0⟩, ⟨4, 0, .wo, 0⟩]⟩,
    ⟨0x8, 1, false, .single, .plain, [⟨31, 31, .ro, 0⟩, ⟨3, 0, .ro, 0⟩]⟩,
    ⟨0x10, 8, false, .single, .plain, [⟨31, 0, .rw, 0⟩]⟩ ]

/-- Registers of an analogue-core shell (R834). -/
def shellRegs : List RegSpec :=
  [ ⟨0x0, 1, false, .single, .plain, [⟨31, 24, .ro, 0⟩, ⟨23, 16, .ro, 0⟩, ⟨15, 0, .ro, 0⟩]⟩,
    ⟨0x4, 1, false, .single, .plain, [⟨31, 24, .wo, 0⟩, ⟨8, 8, .ro, 0⟩, ⟨0, 0, .wo, 0⟩]⟩,
    ⟨0x8, 1, false, .single, .plain, [⟨31, 16, .ro, 0⟩, ⟨2, 2, .w1c, 0⟩, ⟨1, 1, .w1c, 0⟩, ⟨0, 0, .ro, 0⟩]⟩,
    ⟨0x10, 12, false, .single, .trim, [⟨31, 0, .trim, 0⟩]⟩,
    ⟨0x40, 1, false, .single, .plain, [⟨31, 31, .ro, 0⟩, ⟨4, 4, .w1c, 0⟩, ⟨3, 3, .w1c, 0⟩, ⟨2, 2, .w1c, 0⟩, ⟨1, 1, .w1c, 0⟩, ⟨0, 0, .w1c, 0⟩]⟩,
    ⟨0x44, 1, false, .single, .plain, [⟨31, 24, .wo, 0⟩, ⟨23, 8, .rw, 0⟩, ⟨7, 4, .rw, 1⟩, ⟨3, 2, .rw, 0⟩, ⟨1, 1, .ro, 0⟩, ⟨0, 0, .wo, 0⟩]⟩ ]

/-- The regions of block `b`: base, stride and number of instances of every register table (R823; R226, R341, R612 and the like
give them for each block). -/
def blockRegions (b : Nat) : List Region :=
  match b with
  | 0 => [⟨0x40000000, 0x0, 0, 0x0, 0, .always, sysRegs⟩]
  | 1 => [⟨0x40100000, 0x0, 0, 0x0, 0, .always, planRegs⟩]
  | 2 => [⟨0x40200100, 0x4000, 32, 0x40, 8, .stall, freshStallRegs⟩,
      ⟨0x40200000, 0x4000, 32, 0x0, 0, .head, freshInstRegs⟩,
      ⟨0x40200000, 0x4000, 32, 0x0, 0, .attest, freshAttestRegs⟩,
      ⟨0x40280000, 0x0, 0, 0x0, 0, .always, freshGlobalRegs⟩]
  | 3 => [⟨0x40300000, 0x1000, 32, 0x0, 0, .pipeHead, awnInstRegs⟩,
      ⟨0x40380000, 0x0, 0, 0x0, 0, .always, awnGlobalRegs⟩]
  | 4 => [⟨0x40400000, 0x0, 0, 0x0, 0, .always, ingrGlobalRegs⟩,
      ⟨0x40400800, 0x40, 8, 0x0, 0, .eth, ingrPortRegs⟩,
      ⟨0x40410000, 0x80, 512, 0x0, 0, .ingress, ingrStreamRegs⟩]
  | 5 => [⟨0x40500000, 0x0, 0, 0x0, 0, .always, decGlobalRegs⟩,
      ⟨0x40500400, 0x20, 16, 0x0, 0, .decCore, decCoreRegs⟩,
      ⟨0x40510000, 0x100, 128, 0x0, 0, .decode, decCtxRegs⟩]
  | 6 => [⟨0x40600000, 0x0, 0, 0x0, 0, .always, encGlobalRegs⟩,
      ⟨0x40600400, 0x20, 8, 0x0, 0, .encCore, encCoreRegs⟩,
      ⟨0x40610000, 0x100, 64, 0x0, 0, .encode, encCtxRegs⟩]
  | 7 => [⟨0x40700400, 0x4000, 32, 0x100, 8, .compStall, compStallRegs⟩,
      ⟨0x40700000, 0x4000, 32, 0x0, 0, .pipe, compInstRegs⟩,
      ⟨0x40700100, 0x4000, 32, 0x0, 0, .writeBack, compWbRegs⟩,
      ⟨0x40780000, 0x0, 0, 0x0, 0, .always, compGlobalRegs⟩]
  | 8 => [⟨0x40800000, 0x400, 64, 0x0, 0, .scaler, spoolUnitRegs⟩,
      ⟨0x40880000, 0x0, 0, 0x0, 0, .always, spoolGlobalRegs⟩]
  | 9 => [⟨0x40900100, 0x2000, 32, 0x20, 8, .head, headRgnRegs⟩,
      ⟨0x40900000, 0x2000, 32, 0x0, 0, .head, headInstRegs⟩,
      ⟨0x40980000, 0x0, 0, 0x0, 0, .always, headGlobalRegs⟩]
  | 10 => [⟨0x40a00000, 0x1000, 16, 0x0, 0, .src, dpoSrcRegs⟩,
      ⟨0x40a20000, 0x1000, 8, 0x0, 0, .snk, dpoSnkRegs⟩,
      ⟨0x40a80000, 0x0, 0, 0x0, 0, .always, dpoGlobalRegs⟩]
  | 11 => [⟨0x40b00000, 0x0, 0, 0x0, 0, .wallLink, wlkRegs⟩,
      ⟨0x40b00200, 0x40, 8, 0x0, 0, .wallLink, wlkPeerRegs⟩]
  | 12 => [⟨0x40c00000, 0x0, 0, 0x0, 0, .twin, twinRegs⟩]
  | 13 => [⟨0x40d00000, 0x0, 0, 0x0, 0, .always, memcRegs⟩,
      ⟨0x40d80000, 0x1000, 16, 0x0, 0, .always, shellRegs⟩]
  | 14 => [⟨0x40e00000, 0x0, 0, 0x0, 0, .always, tagGlobalRegs⟩,
      ⟨0x40e10000, 0x40, 128, 0x0, 0, .checker, tagChkRegs⟩]
  | 15 => [⟨0x40f00000, 0x100, 8, 0x0, 0, .timeBase, timeTbRegs⟩,
      ⟨0x40f01000, 0x80, 8, 0x0, 0, .ethTime, timePortRegs⟩,
      ⟨0x40f80000, 0x0, 0, 0x0, 0, .always, timeGlobalRegs⟩]
  | 16 => [⟨0x41000000, 0x0, 0, 0x0, 0, .always, irqGlobalRegs⟩,
      ⟨0x41002000, 0x100, 12, 0x0, 0, .always, irqTgtRegs⟩,
      ⟨0x41060000, 0x0, 0, 0x0, 0, .always, irqMsixRegs⟩]
  | 17 => [⟨0x41100000, 0x100, 8, 0x0, 0, .always, cveRegs⟩]
  | 18 => [⟨0x41200000, 0x100, 96, 0x0, 0, .lane, laneRegs⟩,
      ⟨0x41260000, 0x0, 0, 0x0, 0, .always, laneGlobalRegs⟩,
      ⟨0x41280000, 0x1000, 96, 0x0, 0, .lane, shellRegs⟩]
  | 19 => [⟨0x41300000, 0x100, 8, 0x0, 0, .sap, sapRegs⟩,
      ⟨0x41380000, 0x0, 0, 0x0, 0, .always, audGlobalRegs⟩,
      ⟨0x41381000, 0x0, 0, 0x0, 0, .always, shellRegs⟩]
  | 20 => [⟨0x41400400, 0x1000, 4, 0x10, 64, .touch, tchChRegs⟩,
      ⟨0x41400000, 0x1000, 4, 0x0, 0, .touch, tchRegs⟩,
      ⟨0x41480000, 0x1000, 4, 0x0, 0, .touch, shellRegs⟩]
  | 21 => [⟨0x41500000, 0x0, 0, 0x0, 0, .always, thermRegs⟩,
      ⟨0x41580000, 0x1000, 8, 0x0, 0, .always, shellRegs⟩]
  | 22 => [⟨0x41600000, 0x0, 0, 0x0, 0, .always, secRegs⟩]
  | 23 => [⟨0x41700000, 0x0, 0, 0x0, 0, .always, clkrstRegs⟩,
      ⟨0x41700100, 0x10, 8, 0x0, 0, .always, clkrstCcRegs⟩,
      ⟨0x41780000, 0x1000, 8, 0x0, 0, .always, shellRegs⟩,
      ⟨0x41790000, 0x1000, 32, 0x0, 0, .headFused, shellRegs⟩]
  | 24 => [⟨0x41800000, 0x0, 0, 0x0, 0, .always, fltRegs⟩]
  | 25 => [⟨0x41900000, 0x0, 0, 0x0, 0, .always, miscRegs⟩,
      ⟨0x41900100, 0x40, 2, 0x0, 0, .always, miscI2cRegs⟩]
  | _ => []

/-- A register as the guard of a write sees it: address, the unit it serves, and the bits that are not reserved. -/
structure RegAt where
  addr : Nat
  unit : UnitKind
  n : Nat
  m : Nat
  valid : Nat
deriving DecidableEq, Repr

/-- Where a register lies: its region, the two instance indices, its layout and the index within an array. -/
structure Place where
  region : Region
  n : Nat
  m : Nat
  reg : RegSpec
  i : Nat
deriving DecidableEq, Repr

/-- The register of a list that holds the word at offset `o`. -/
def regAt (o : Nat) : List RegSpec → Option (RegSpec × Nat)
  | [] => none
  | r :: t => if r.off ≤ o ∧ o < r.off + 4 * r.count then some (r, (o - r.off) / 4) else regAt o t

/-- The instance indices of address `a` in a region and its offset there; none where it lies outside. -/
def Region.split (g : Region) (a : Nat) : Option (Nat × Nat × Nat) :=
  if a < g.base then none else
  let o := a - g.base
  let n := if g.count = 0 then 0 else o / g.stride
  let o1 := if g.count = 0 then o else o % g.stride
  let m := if g.count2 = 0 then 0 else o1 / g.stride2
  let o2 := if g.count2 = 0 then o1 else o1 % g.stride2
  if n < max 1 g.count ∧ m < max 1 g.count2 then some (n, m, o2) else none

/-- The register at address `a` in a region. -/
def Region.find (g : Region) (a : Nat) : Option Place :=
  match g.split a with
  | none => none
  | some (n, m, o) =>
    match regAt o g.regs with
    | none => none
    | some (r, i) => some ⟨g, n, m, r, i⟩

/-- The register at address `a` in the first region of a list that has one. -/
def findIn (a : Nat) : List Region → Option Place
  | [] => none
  | g :: t =>
    match g.find a with
    | some p => some p
    | none => findIn a t

/-- First address of control space (R819). -/
def cspaceBase : Nat := 0x40000000

/-- The block of an address in control space (R819). -/
def blockOf (a : Nat) : Nat :=
  (a - cspaceBase) / 0x100000

/-- First address of block `b` (R819). -/
def blockBase (b : Nat) : Nat :=
  cspaceBase + b * 0x100000

/-- The register at an address of control space. -/
def placeOf (a : Nat) : Option Place :=
  if a < cspaceBase then none else findIn (a / 4 * 4) (blockRegions (blockOf a))

/-- The identity matrix of R267: coefficients C00, C11 and C22 at 1.0 in signed 4.12. -/
def cscReset (i : Nat) : Nat :=
  if i = 0 then 0x1000 else if i = 2 then 0x10000000 else if i = 5 then 0x1000 else 0

/-- The masks of checker `i` before the first plan load (R576, R570); bit c reads colour c, bit 16 + c writes it. -/
def maskReset (i : Nat) : Nat :=
  if i ≤ 8 then 0x1FFE1FFE
  else if i = 9 then 0x1FFEBFFE
  else if i = 10 then 0x20003FFE
  else if i = 11 then 0xC000C000
  else if i = 12 then 0x80008000
  else 0

/-- A lane's trims after reset (R678): swing, CTLE, gain and CDR bandwidth. -/
def trimReset (i : Nat) : Nat :=
  if i = 0 then 0x10 else if i = 3 ∨ i = 4 then 8 else if i = 10 then 3 else 0

/-- What a register reads as after the reset of its block (R27). (PRESUMED, log 69.) -/
def Place.reset (p : Place) : Nat :=
  match p.reg.special with
  | .csc => cscReset p.i
  | .mask => maskReset p.n
  | .cc => if p.n = 0 then 0 else 1
  | .ccst => if p.n = 0 then 0 else 3
  | .trim => if p.region.unit = .lane then trimReset p.i else 0
  | .msix => if p.i % 4 = 3 then 1 else 0
  | .plain => p.reg.fields.foldl (fun v f => v + f.reset * 2 ^ f.lo) 0

/-- What the register at `a` reads as after the reset of its block; 0 where there is none.
(DEDUCED, log 14; PRESUMED, log 69.) -/
def resetWord (a : Nat) : W32 :=
  match placeOf a with
  | some p => BitVec.ofNat 32 p.reset
  | none => 0

end Sys2Proof
end

