-- ==== Sys2Proof/Machine/Regs.lean ====
section
/-! DEFINITION. The addresses of the registers (namespace R) and their fields (namespace F), by the manual's names:
`R.HEAD_STAT n` is HEAD[n].STAT and `F.HEAD_STAT_RUNNING n` its field RUNNING. -/

namespace Sys2Proof

/-- SYS.SIG (R826). -/
def R.SYS_SIG : Nat := 0x40000000
/-- SYS.VARIANT (R8). -/
def R.SYS_VARIANT : Nat := 0x40000000 + 0x4
/-- SYS.CAPS0 (R9). -/
def R.SYS_CAPS0 : Nat := 0x40000000 + 0x10
/-- SYS.CAPS1 (R10). -/
def R.SYS_CAPS1 : Nat := 0x40000000 + 0x14
/-- SYS.CAPS2 (R11). -/
def R.SYS_CAPS2 : Nat := 0x40000000 + 0x18
/-- SYS.CAPS3 (R12). -/
def R.SYS_CAPS3 : Nat := 0x40000000 + 0x1c
/-- SYS.DB_SET (R827). -/
def R.SYS_DB_SET : Nat := 0x40000000 + 0x40
/-- SYS.DB_CLR (R827). -/
def R.SYS_DB_CLR : Nat := 0x40000000 + 0x44
/-- SYS.DB_EN (R827). -/
def R.SYS_DB_EN : Nat := 0x40000000 + 0x48
/-- SYS.IRQ_SUM (R827). -/
def R.SYS_IRQ_SUM : Nat := 0x40000000 + 0x4c
/-- PLAN.STATUS (R133). -/
def R.PLAN_STATUS : Nat := 0x40100000
/-- PLAN.CTRL (R134). -/
def R.PLAN_CTRL : Nat := 0x40100000 + 0x4
/-- PLAN.SRC_ADDR_LO (R135). -/
def R.PLAN_SRC_ADDR_LO : Nat := 0x40100000 + 0x8
/-- PLAN.SRC_ADDR_HI (R135). -/
def R.PLAN_SRC_ADDR_HI : Nat := 0x40100000 + 0xc
/-- PLAN.SLOT_INFO (R136). -/
def R.PLAN_SLOT_INFO : Nat := 0x40100000 + 0x10
/-- PLAN.GEN_A (R137). -/
def R.PLAN_GEN_A : Nat := 0x40100000 + 0x14
/-- PLAN.GEN_B (R137). -/
def R.PLAN_GEN_B : Nat := 0x40100000 + 0x18
/-- PLAN.LOAD_TIME (R137). -/
def R.PLAN_LOAD_TIME : Nat := 0x40100000 + 0x1c
/-- PLAN.PLAN_ID (R137). -/
def R.PLAN_PLAN_ID : Nat := 0x40100000 + 0x20
/-- PLAN.PLAN_SEQ (R137). -/
def R.PLAN_PLAN_SEQ : Nat := 0x40100000 + 0x24
/-- PLAN.LOCK_HITS (R138). -/
def R.PLAN_LOCK_HITS : Nat := 0x40100000 + 0x28
/-- PLAN.LOCK_FIRST (R138). -/
def R.PLAN_LOCK_FIRST : Nat := 0x40100000 + 0x2c
/-- PLAN.LOCK_MASTER (R138). -/
def R.PLAN_LOCK_MASTER : Nat := 0x40100000 + 0x30
/-- PLAN.EVENT (R139). -/
def R.PLAN_EVENT : Nat := 0x40100000 + 0x34
/-- PLAN.IRQ_EN (R139). -/
def R.PLAN_IRQ_EN : Nat := 0x40100000 + 0x38
/-- PLAN.HASH (R137). -/
def R.PLAN_HASH (i : Nat) : Nat := 0x40100000 + 0x40 + i * 4
/-- FRESH.HSTAT (R65). -/
def R.FRESH_HSTAT (n : Nat) : Nat := 0x40200000 + n * 0x4000
/-- FRESH.SUMMARY (R66). -/
def R.FRESH_SUMMARY (n : Nat) : Nat := 0x40200000 + n * 0x4000 + 0x4
/-- FRESH.CHANGED (R67). -/
def R.FRESH_CHANGED (n : Nat) : Nat := 0x40200000 + n * 0x4000 + 0x8
/-- FRESH.IRQ_EN (R68). -/
def R.FRESH_IRQ_EN (n : Nat) : Nat := 0x40200000 + n * 0x4000 + 0xc
/-- FRESH.LATCH_CNT_LO (R69). -/
def R.FRESH_LATCH_CNT_LO (n : Nat) : Nat := 0x40200000 + n * 0x4000 + 0x10
/-- FRESH.LATCH_CNT_HI (R69). -/
def R.FRESH_LATCH_CNT_HI (n : Nat) : Nat := 0x40200000 + n * 0x4000 + 0x14
/-- FRESH.DISSENT_CNT (R69). -/
def R.FRESH_DISSENT_CNT (n : Nat) : Nat := 0x40200000 + n * 0x4000 + 0x18
/-- FRESH.ATTEST_CTRL (R70). -/
def R.FRESH_ATTEST_CTRL (n : Nat) : Nat := 0x40200000 + n * 0x4000 + 0x20
/-- FRESH.ATTEST_NONCE_LO (R71). -/
def R.FRESH_ATTEST_NONCE_LO (n : Nat) : Nat := 0x40200000 + n * 0x4000 + 0x24
/-- FRESH.ATTEST_NONCE_HI (R71). -/
def R.FRESH_ATTEST_NONCE_HI (n : Nat) : Nat := 0x40200000 + n * 0x4000 + 0x28
/-- FRESH.ATTEST_ADDR_LO (R71). -/
def R.FRESH_ATTEST_ADDR_LO (n : Nat) : Nat := 0x40200000 + n * 0x4000 + 0x2c
/-- FRESH.ATTEST_ADDR_HI (R71). -/
def R.FRESH_ATTEST_ADDR_HI (n : Nat) : Nat := 0x40200000 + n * 0x4000 + 0x30
/-- FRESH.ATTEST_STAT (R72). -/
def R.FRESH_ATTEST_STAT (n : Nat) : Nat := 0x40200000 + n * 0x4000 + 0x34
/-- FSTALL.CFG (R73). -/
def R.FSTALL_CFG (n m : Nat) : Nat := 0x40200100 + n * 0x4000 + m * 0x40
/-- FSTALL.BUDGET (R74). -/
def R.FSTALL_BUDGET (n m : Nat) : Nat := 0x40200100 + n * 0x4000 + m * 0x40 + 0x4
/-- FSTALL.WINDOWS (R75). -/
def R.FSTALL_WINDOWS (n m : Nat) : Nat := 0x40200100 + n * 0x4000 + m * 0x40 + 0x8
/-- FSTALL.STATUS (R76). -/
def R.FSTALL_STATUS (n m : Nat) : Nat := 0x40200100 + n * 0x4000 + m * 0x40 + 0xc
/-- FSTALL.AGE (R77). -/
def R.FSTALL_AGE (n m : Nat) : Nat := 0x40200100 + n * 0x4000 + m * 0x40 + 0x10
/-- FSTALL.COUNTS (R78). -/
def R.FSTALL_COUNTS (n m : Nat) : Nat := 0x40200100 + n * 0x4000 + m * 0x40 + 0x14
/-- FSTALL.STAMP (R79). -/
def R.FSTALL_STAMP (n m i : Nat) : Nat := 0x40200100 + n * 0x4000 + m * 0x40 + 0x18 + i * 4
/-- FSTALL.NONLIVE_CNT (R79). -/
def R.FSTALL_NONLIVE_CNT (n m : Nat) : Nat := 0x40200100 + n * 0x4000 + m * 0x40 + 0x28
/-- FSTALL.ALIVE_ERR_CNT (R79). -/
def R.FSTALL_ALIVE_ERR_CNT (n m : Nat) : Nat := 0x40200100 + n * 0x4000 + m * 0x40 + 0x2c
/-- FRESHG.PEND (R80). -/
def R.FRESHG_PEND : Nat := 0x40280000
/-- FRESHG.CH_FAIL (R80). -/
def R.FRESHG_CH_FAIL : Nat := 0x40280000 + 0x4
/-- AWN.LAYOUT (R316). -/
def R.AWN_LAYOUT (n : Nat) : Nat := 0x40300000 + n * 0x1000
/-- AWN.AMBER (R316). -/
def R.AWN_AMBER (n : Nat) : Nat := 0x40300000 + n * 0x1000 + 0x4
/-- AWN.HATCH (R316). -/
def R.AWN_HATCH (n : Nat) : Nat := 0x40300000 + n * 0x1000 + 0x8
/-- AWN.SLATE (R316). -/
def R.AWN_SLATE (n : Nat) : Nat := 0x40300000 + n * 0x1000 + 0xc
/-- AWN.BUNDLE (R316). -/
def R.AWN_BUNDLE (n : Nat) : Nat := 0x40300000 + n * 0x1000 + 0x10
/-- AWN.CLOCK_POS (R316). -/
def R.AWN_CLOCK_POS (n : Nat) : Nat := 0x40300000 + n * 0x1000 + 0x14
/-- AWN.IND_POS (R316). -/
def R.AWN_IND_POS (n : Nat) : Nat := 0x40300000 + n * 0x1000 + 0x18
/-- AWN.CLOCK_OFS (R316). -/
def R.AWN_CLOCK_OFS (n : Nat) : Nat := 0x40300000 + n * 0x1000 + 0x1c
/-- AWN.STAT (R317). -/
def R.AWN_STAT (n : Nat) : Nat := 0x40300000 + n * 0x1000 + 0x20
/-- AWN.EVT (R318). -/
def R.AWN_EVT (n : Nat) : Nat := 0x40300000 + n * 0x1000 + 0x24
/-- AWN.IRQ_EN (R318). -/
def R.AWN_IRQ_EN (n : Nat) : Nat := 0x40300000 + n * 0x1000 + 0x28
/-- AWN.DISSENT_CNT (R316). -/
def R.AWN_DISSENT_CNT (n : Nat) : Nat := 0x40300000 + n * 0x1000 + 0x2c
/-- AWN.CHECKS (R316). -/
def R.AWN_CHECKS (n : Nat) : Nat := 0x40300000 + n * 0x1000 + 0x30
/-- AWN.LAST_CHECK (R316). -/
def R.AWN_LAST_CHECK (n : Nat) : Nat := 0x40300000 + n * 0x1000 + 0x34
/-- AWNG.BUNDLE_CTRL (R319). -/
def R.AWNG_BUNDLE_CTRL : Nat := 0x40380000
/-- AWNG.BUNDLE_SRC_LO (R321). -/
def R.AWNG_BUNDLE_SRC_LO : Nat := 0x40380000 + 0x4
/-- AWNG.BUNDLE_SRC_HI (R321). -/
def R.AWNG_BUNDLE_SRC_HI : Nat := 0x40380000 + 0x8
/-- AWNG.BUNDLE_STAT (R320). -/
def R.AWNG_BUNDLE_STAT : Nat := 0x40380000 + 0xc
/-- AWNG.REGION (R321). -/
def R.AWNG_REGION (i : Nat) : Nat := 0x40380000 + 0x10 + i * 4
/-- AWNG.CH_FAIL (R321). -/
def R.AWNG_CH_FAIL : Nat := 0x40380000 + 0x24
/-- AWNG.PEND (R321). -/
def R.AWNG_PEND : Nat := 0x40380000 + 0x28
/-- INGRG.STATUS (R178). -/
def R.INGRG_STATUS : Nat := 0x40400000
/-- INGRG.EVT (R178). -/
def R.INGRG_EVT (i : Nat) : Nat := 0x40400000 + 0x100 + i * 4
/-- INGRP.RXQ_BASE_LO (R179). -/
def R.INGRP_RXQ_BASE_LO (n : Nat) : Nat := 0x40400800 + n * 0x40
/-- INGRP.RXQ_BASE_HI (R179). -/
def R.INGRP_RXQ_BASE_HI (n : Nat) : Nat := 0x40400800 + n * 0x40 + 0x4
/-- INGRP.TXQ_BASE_LO (R179). -/
def R.INGRP_TXQ_BASE_LO (n : Nat) : Nat := 0x40400800 + n * 0x40 + 0x8
/-- INGRP.TXQ_BASE_HI (R179). -/
def R.INGRP_TXQ_BASE_HI (n : Nat) : Nat := 0x40400800 + n * 0x40 + 0xc
/-- INGRP.QCFG (R179). -/
def R.INGRP_QCFG (n : Nat) : Nat := 0x40400800 + n * 0x40 + 0x10
/-- INGRP.RXQ_WR (R180). -/
def R.INGRP_RXQ_WR (n : Nat) : Nat := 0x40400800 + n * 0x40 + 0x14
/-- INGRP.RXQ_RD (R180). -/
def R.INGRP_RXQ_RD (n : Nat) : Nat := 0x40400800 + n * 0x40 + 0x18
/-- INGRP.TXQ_WR (R180). -/
def R.INGRP_TXQ_WR (n : Nat) : Nat := 0x40400800 + n * 0x40 + 0x1c
/-- INGRP.TXQ_RD (R180). -/
def R.INGRP_TXQ_RD (n : Nat) : Nat := 0x40400800 + n * 0x40 + 0x20
/-- INGRP.RX_UNMATCHED (R180). -/
def R.INGRP_RX_UNMATCHED (n : Nat) : Nat := 0x40400800 + n * 0x40 + 0x24
/-- INGRP.RX_BAD (R180). -/
def R.INGRP_RX_BAD (n : Nat) : Nat := 0x40400800 + n * 0x40 + 0x28
/-- INGRP.RX_OVF (R180). -/
def R.INGRP_RX_OVF (n : Nat) : Nat := 0x40400800 + n * 0x40 + 0x2c
/-- INGR.CTRL (R181). -/
def R.INGR_CTRL (n : Nat) : Nat := 0x40410000 + n * 0x80
/-- INGR.MATCH (R182). -/
def R.INGR_MATCH (n : Nat) : Nat := 0x40410000 + n * 0x80 + 0x4
/-- INGR.UDP (R183). -/
def R.INGR_UDP (n : Nat) : Nat := 0x40410000 + n * 0x80 + 0x8
/-- INGR.SSRC (R183). -/
def R.INGR_SSRC (n : Nat) : Nat := 0x40410000 + n * 0x80 + 0xc
/-- INGR.DST_ADDR (R183). -/
def R.INGR_DST_ADDR (n i : Nat) : Nat := 0x40410000 + n * 0x80 + 0x10 + i * 4
/-- INGR.SRC_ADDR (R183). -/
def R.INGR_SRC_ADDR (n : Nat) : Nat := 0x40410000 + n * 0x80 + 0x20
/-- INGR.IDENT (R184). -/
def R.INGR_IDENT (n : Nat) : Nat := 0x40410000 + n * 0x80 + 0x24
/-- INGR.TIMING (R185). -/
def R.INGR_TIMING (n : Nat) : Nat := 0x40410000 + n * 0x80 + 0x28
/-- INGR.ARR_OFFSET (R183). -/
def R.INGR_ARR_OFFSET (n : Nat) : Nat := 0x40410000 + n * 0x80 + 0x2c
/-- INGR.TS_OFFSET (R183). -/
def R.INGR_TS_OFFSET (n : Nat) : Nat := 0x40410000 + n * 0x80 + 0x30
/-- INGR.PICTURE (R186). -/
def R.INGR_PICTURE (n : Nat) : Nat := 0x40410000 + n * 0x80 + 0x34
/-- INGR.DESC_BASE_LO (R179). -/
def R.INGR_DESC_BASE_LO (n : Nat) : Nat := 0x40410000 + n * 0x80 + 0x38
/-- INGR.DESC_BASE_HI (R179). -/
def R.INGR_DESC_BASE_HI (n : Nat) : Nat := 0x40410000 + n * 0x80 + 0x3c
/-- INGR.DATA_BASE_LO (R179). -/
def R.INGR_DATA_BASE_LO (n : Nat) : Nat := 0x40410000 + n * 0x80 + 0x40
/-- INGR.DATA_BASE_HI (R179). -/
def R.INGR_DATA_BASE_HI (n : Nat) : Nat := 0x40410000 + n * 0x80 + 0x44
/-- INGR.RING (R187). -/
def R.INGR_RING (n : Nat) : Nat := 0x40410000 + n * 0x80 + 0x48
/-- INGR.WR_IDX (R188). -/
def R.INGR_WR_IDX (n : Nat) : Nat := 0x40410000 + n * 0x80 + 0x4c
/-- INGR.RD_IDX (R188). -/
def R.INGR_RD_IDX (n : Nat) : Nat := 0x40410000 + n * 0x80 + 0x50
/-- INGR.STAT (R189). -/
def R.INGR_STAT (n : Nat) : Nat := 0x40410000 + n * 0x80 + 0x54
/-- INGR.IRQ_EN (R189). -/
def R.INGR_IRQ_EN (n : Nat) : Nat := 0x40410000 + n * 0x80 + 0x58
/-- INGR.FRAMES (R188). -/
def R.INGR_FRAMES (n : Nat) : Nat := 0x40410000 + n * 0x80 + 0x5c
/-- INGR.LOST_PKTS (R188). -/
def R.INGR_LOST_PKTS (n : Nat) : Nat := 0x40410000 + n * 0x80 + 0x60
/-- INGR.DROPS (R188). -/
def R.INGR_DROPS (n : Nat) : Nat := 0x40410000 + n * 0x80 + 0x64
/-- INGR.LATE (R188). -/
def R.INGR_LATE (n : Nat) : Nat := 0x40410000 + n * 0x80 + 0x68
/-- INGR.LAST (R188). -/
def R.INGR_LAST (n : Nat) : Nat := 0x40410000 + n * 0x80 + 0x6c
/-- DECG.STATUS (R227). -/
def R.DECG_STATUS : Nat := 0x40500000
/-- DECG.EVT (R227). -/
def R.DECG_EVT (i : Nat) : Nat := 0x40500000 + 0x100 + i * 4
/-- DECK.STAT (R228). -/
def R.DECK_STAT (n : Nat) : Nat := 0x40500400 + n * 0x20
/-- DECK.UNITS (R228). -/
def R.DECK_UNITS (n : Nat) : Nat := 0x40500400 + n * 0x20 + 0x4
/-- DECK.BUSY (R228). -/
def R.DECK_BUSY (n : Nat) : Nat := 0x40500400 + n * 0x20 + 0x8
/-- DECK.WDOG_CNT (R228). -/
def R.DECK_WDOG_CNT (n : Nat) : Nat := 0x40500400 + n * 0x20 + 0xc
/-- DEC.CTRL (R229). -/
def R.DEC_CTRL (n : Nat) : Nat := 0x40510000 + n * 0x100
/-- DEC.SRC (R230). -/
def R.DEC_SRC (n : Nat) : Nat := 0x40510000 + n * 0x100 + 0x4
/-- DEC.LIMITS (R230). -/
def R.DEC_LIMITS (n : Nat) : Nat := 0x40510000 + n * 0x100 + 0x8
/-- DEC.POOL (R230). -/
def R.DEC_POOL (n : Nat) : Nat := 0x40510000 + n * 0x100 + 0xc
/-- DEC.POOL_BASE_LO (R227). -/
def R.DEC_POOL_BASE_LO (n : Nat) : Nat := 0x40510000 + n * 0x100 + 0x10
/-- DEC.POOL_BASE_HI (R227). -/
def R.DEC_POOL_BASE_HI (n : Nat) : Nat := 0x40510000 + n * 0x100 + 0x14
/-- DEC.POOL_NEED (R230). -/
def R.DEC_POOL_NEED (n : Nat) : Nat := 0x40510000 + n * 0x100 + 0x18
/-- DEC.CMD_RING (R230). -/
def R.DEC_CMD_RING (n : Nat) : Nat := 0x40510000 + n * 0x100 + 0x1c
/-- DEC.CMD_BASE_LO (R227). -/
def R.DEC_CMD_BASE_LO (n : Nat) : Nat := 0x40510000 + n * 0x100 + 0x20
/-- DEC.CMD_BASE_HI (R227). -/
def R.DEC_CMD_BASE_HI (n : Nat) : Nat := 0x40510000 + n * 0x100 + 0x24
/-- DEC.CMD_DATA_LO (R227). -/
def R.DEC_CMD_DATA_LO (n : Nat) : Nat := 0x40510000 + n * 0x100 + 0x28
/-- DEC.CMD_DATA_HI (R227). -/
def R.DEC_CMD_DATA_HI (n : Nat) : Nat := 0x40510000 + n * 0x100 + 0x2c
/-- DEC.CMD_WR_IDX (R230). -/
def R.DEC_CMD_WR_IDX (n : Nat) : Nat := 0x40510000 + n * 0x100 + 0x30
/-- DEC.CMD_RD_IDX (R230). -/
def R.DEC_CMD_RD_IDX (n : Nat) : Nat := 0x40510000 + n * 0x100 + 0x34
/-- DEC.OUT_BASE_LO (R227). -/
def R.DEC_OUT_BASE_LO (n : Nat) : Nat := 0x40510000 + n * 0x100 + 0x38
/-- DEC.OUT_BASE_HI (R227). -/
def R.DEC_OUT_BASE_HI (n : Nat) : Nat := 0x40510000 + n * 0x100 + 0x3c
/-- DEC.OUT_WR_IDX (R230). -/
def R.DEC_OUT_WR_IDX (n : Nat) : Nat := 0x40510000 + n * 0x100 + 0x40
/-- DEC.OUT_RD_IDX (R230). -/
def R.DEC_OUT_RD_IDX (n : Nat) : Nat := 0x40510000 + n * 0x100 + 0x44
/-- DEC.STAT (R231). -/
def R.DEC_STAT (n : Nat) : Nat := 0x40510000 + n * 0x100 + 0x48
/-- DEC.IRQ_EN (R231). -/
def R.DEC_IRQ_EN (n : Nat) : Nat := 0x40510000 + n * 0x100 + 0x4c
/-- DEC.KEYREQ (R232). -/
def R.DEC_KEYREQ (n : Nat) : Nat := 0x40510000 + n * 0x100 + 0x50
/-- DEC.STREAM_INFO (R233). -/
def R.DEC_STREAM_INFO (n : Nat) : Nat := 0x40510000 + n * 0x100 + 0x54
/-- DEC.PICS (R233). -/
def R.DEC_PICS (n : Nat) : Nat := 0x40510000 + n * 0x100 + 0x58
/-- DEC.CONCEALED_CNT (R233). -/
def R.DEC_CONCEALED_CNT (n : Nat) : Nat := 0x40510000 + n * 0x100 + 0x5c
/-- DEC.DEGRADED_CNT (R233). -/
def R.DEC_DEGRADED_CNT (n : Nat) : Nat := 0x40510000 + n * 0x100 + 0x60
/-- DEC.ERR_SLICES (R233). -/
def R.DEC_ERR_SLICES (n : Nat) : Nat := 0x40510000 + n * 0x100 + 0x64
/-- DEC.DISCARDS (R233). -/
def R.DEC_DISCARDS (n : Nat) : Nat := 0x40510000 + n * 0x100 + 0x68
/-- DEC.SKIPPED (R233). -/
def R.DEC_SKIPPED (n : Nat) : Nat := 0x40510000 + n * 0x100 + 0x6c
/-- DEC.POOL_WAITS (R233). -/
def R.DEC_POOL_WAITS (n : Nat) : Nat := 0x40510000 + n * 0x100 + 0x70
/-- DEC.KEYREQ_CNT (R233). -/
def R.DEC_KEYREQ_CNT (n : Nat) : Nat := 0x40510000 + n * 0x100 + 0x74
/-- ENCG.STATUS (R471). -/
def R.ENCG_STATUS : Nat := 0x40600000
/-- ENCG.EVT (R471). -/
def R.ENCG_EVT (i : Nat) : Nat := 0x40600000 + 0x100 + i * 4
/-- ENCK.STAT (R471). -/
def R.ENCK_STAT (n : Nat) : Nat := 0x40600400 + n * 0x20
/-- ENCK.UNITS (R471). -/
def R.ENCK_UNITS (n : Nat) : Nat := 0x40600400 + n * 0x20 + 0x4
/-- ENCK.BUSY (R471). -/
def R.ENCK_BUSY (n : Nat) : Nat := 0x40600400 + n * 0x20 + 0x8
/-- ENCK.WDOG_CNT (R471). -/
def R.ENCK_WDOG_CNT (n : Nat) : Nat := 0x40600400 + n * 0x20 + 0xc
/-- ENC.CTRL (R472). -/
def R.ENC_CTRL (n : Nat) : Nat := 0x40610000 + n * 0x100
/-- ENC.SRC (R473). -/
def R.ENC_SRC (n : Nat) : Nat := 0x40610000 + n * 0x100 + 0x4
/-- ENC.SIZE (R473). -/
def R.ENC_SIZE (n : Nat) : Nat := 0x40610000 + n * 0x100 + 0x8
/-- ENC.SPLIT_CFG (R473). -/
def R.ENC_SPLIT_CFG (n : Nat) : Nat := 0x40610000 + n * 0x100 + 0xc
/-- ENC.GOP (R473). -/
def R.ENC_GOP (n : Nat) : Nat := 0x40610000 + n * 0x100 + 0x10
/-- ENC.RATE (R473). -/
def R.ENC_RATE (n : Nat) : Nat := 0x40610000 + n * 0x100 + 0x14
/-- ENC.BUFFER (R473). -/
def R.ENC_BUFFER (n : Nat) : Nat := 0x40610000 + n * 0x100 + 0x18
/-- ENC.PERIOD (R473). -/
def R.ENC_PERIOD (n : Nat) : Nat := 0x40610000 + n * 0x100 + 0x1c
/-- ENC.QP (R473). -/
def R.ENC_QP (n : Nat) : Nat := 0x40610000 + n * 0x100 + 0x20
/-- ENC.MARGIN (R473). -/
def R.ENC_MARGIN (n : Nat) : Nat := 0x40610000 + n * 0x100 + 0x24
/-- ENC.REF_BASE_LO (R471). -/
def R.ENC_REF_BASE_LO (n : Nat) : Nat := 0x40610000 + n * 0x100 + 0x28
/-- ENC.REF_BASE_HI (R471). -/
def R.ENC_REF_BASE_HI (n : Nat) : Nat := 0x40610000 + n * 0x100 + 0x2c
/-- ENC.REF_POOL (R473). -/
def R.ENC_REF_POOL (n : Nat) : Nat := 0x40610000 + n * 0x100 + 0x30
/-- ENC.POOL_NEED (R473). -/
def R.ENC_POOL_NEED (n : Nat) : Nat := 0x40610000 + n * 0x100 + 0x34
/-- ENC.OUT_RING (R473). -/
def R.ENC_OUT_RING (n : Nat) : Nat := 0x40610000 + n * 0x100 + 0x38
/-- ENC.OUT_DESC_LO (R471). -/
def R.ENC_OUT_DESC_LO (n : Nat) : Nat := 0x40610000 + n * 0x100 + 0x3c
/-- ENC.OUT_DESC_HI (R471). -/
def R.ENC_OUT_DESC_HI (n : Nat) : Nat := 0x40610000 + n * 0x100 + 0x40
/-- ENC.OUT_DATA_LO (R471). -/
def R.ENC_OUT_DATA_LO (n : Nat) : Nat := 0x40610000 + n * 0x100 + 0x44
/-- ENC.OUT_DATA_HI (R471). -/
def R.ENC_OUT_DATA_HI (n : Nat) : Nat := 0x40610000 + n * 0x100 + 0x48
/-- ENC.OUT_WR_IDX (R473). -/
def R.ENC_OUT_WR_IDX (n : Nat) : Nat := 0x40610000 + n * 0x100 + 0x4c
/-- ENC.OUT_RD_IDX (R473). -/
def R.ENC_OUT_RD_IDX (n : Nat) : Nat := 0x40610000 + n * 0x100 + 0x50
/-- ENC.WLK (R473). -/
def R.ENC_WLK (n : Nat) : Nat := 0x40610000 + n * 0x100 + 0x54
/-- ENC.STAT (R474). -/
def R.ENC_STAT (n : Nat) : Nat := 0x40610000 + n * 0x100 + 0x58
/-- ENC.IRQ_EN (R474). -/
def R.ENC_IRQ_EN (n : Nat) : Nat := 0x40610000 + n * 0x100 + 0x5c
/-- ENC.KEYREQ (R475). -/
def R.ENC_KEYREQ (n : Nat) : Nat := 0x40610000 + n * 0x100 + 0x60
/-- ENC.PICS (R476). -/
def R.ENC_PICS (n : Nat) : Nat := 0x40610000 + n * 0x100 + 0x64
/-- ENC.KEYS (R476). -/
def R.ENC_KEYS (n : Nat) : Nat := 0x40610000 + n * 0x100 + 0x68
/-- ENC.OVERRUNS (R476). -/
def R.ENC_OVERRUNS (n : Nat) : Nat := 0x40610000 + n * 0x100 + 0x6c
/-- ENC.SKIP_PICS (R476). -/
def R.ENC_SKIP_PICS (n : Nat) : Nat := 0x40610000 + n * 0x100 + 0x70
/-- ENC.SKIP_ROWS (R476). -/
def R.ENC_SKIP_ROWS (n : Nat) : Nat := 0x40610000 + n * 0x100 + 0x74
/-- ENC.INPUT_SKIPS (R476). -/
def R.ENC_INPUT_SKIPS (n : Nat) : Nat := 0x40610000 + n * 0x100 + 0x78
/-- ENC.KEYREQ_CNT (R476). -/
def R.ENC_KEYREQ_CNT (n : Nat) : Nat := 0x40610000 + n * 0x100 + 0x7c
/-- ENC.KEYREQ_DROPS (R476). -/
def R.ENC_KEYREQ_DROPS (n : Nat) : Nat := 0x40610000 + n * 0x100 + 0x80
/-- ENC.SIZE_DROPS (R476). -/
def R.ENC_SIZE_DROPS (n : Nat) : Nat := 0x40610000 + n * 0x100 + 0x84
/-- ENC.INPUT_FAULTS (R476). -/
def R.ENC_INPUT_FAULTS (n : Nat) : Nat := 0x40610000 + n * 0x100 + 0x88
/-- ENC.DROPS (R476). -/
def R.ENC_DROPS (n : Nat) : Nat := 0x40610000 + n * 0x100 + 0x8c
/-- ENC.OUT_WAITS (R476). -/
def R.ENC_OUT_WAITS (n : Nat) : Nat := 0x40610000 + n * 0x100 + 0x90
/-- ENC.BUF_OVF (R476). -/
def R.ENC_BUF_OVF (n : Nat) : Nat := 0x40610000 + n * 0x100 + 0x94
/-- ENC.FILL (R476). -/
def R.ENC_FILL (n : Nat) : Nat := 0x40610000 + n * 0x100 + 0x98
/-- ENC.LAST_BUDGET (R476). -/
def R.ENC_LAST_BUDGET (n : Nat) : Nat := 0x40610000 + n * 0x100 + 0x9c
/-- COMP.INFO (R277). -/
def R.COMP_INFO (n : Nat) : Nat := 0x40700000 + n * 0x4000
/-- COMP.CTRL (R277). -/
def R.COMP_CTRL (n : Nat) : Nat := 0x40700000 + n * 0x4000 + 0x4
/-- COMP.BG (R277). -/
def R.COMP_BG (n : Nat) : Nat := 0x40700000 + n * 0x4000 + 0x8
/-- COMP.TAKE (R277). -/
def R.COMP_TAKE (n : Nat) : Nat := 0x40700000 + n * 0x4000 + 0xc
/-- COMP.WB_CTRL (R281). -/
def R.COMP_WB_CTRL (n : Nat) : Nat := 0x40700100 + n * 0x4000
/-- COMP.WB_IDENT (R282). -/
def R.COMP_WB_IDENT (n : Nat) : Nat := 0x40700100 + n * 0x4000 + 0x4
/-- COMP.WB_RING (R282). -/
def R.COMP_WB_RING (n : Nat) : Nat := 0x40700100 + n * 0x4000 + 0x8
/-- COMP.WB_DESC_LO (R282). -/
def R.COMP_WB_DESC_LO (n : Nat) : Nat := 0x40700100 + n * 0x4000 + 0xc
/-- COMP.WB_DESC_HI (R282). -/
def R.COMP_WB_DESC_HI (n : Nat) : Nat := 0x40700100 + n * 0x4000 + 0x10
/-- COMP.WB_DATA_LO (R282). -/
def R.COMP_WB_DATA_LO (n : Nat) : Nat := 0x40700100 + n * 0x4000 + 0x14
/-- COMP.WB_DATA_HI (R282). -/
def R.COMP_WB_DATA_HI (n : Nat) : Nat := 0x40700100 + n * 0x4000 + 0x18
/-- COMP.WB_WR_IDX (R282). -/
def R.COMP_WB_WR_IDX (n : Nat) : Nat := 0x40700100 + n * 0x4000 + 0x1c
/-- COMP.WB_RD_IDX (R282). -/
def R.COMP_WB_RD_IDX (n : Nat) : Nat := 0x40700100 + n * 0x4000 + 0x20
/-- COMP.WB_STAT (R282). -/
def R.COMP_WB_STAT (n : Nat) : Nat := 0x40700100 + n * 0x4000 + 0x24
/-- COMP.WB_IRQ_EN (R282). -/
def R.COMP_WB_IRQ_EN (n : Nat) : Nat := 0x40700100 + n * 0x4000 + 0x28
/-- COMP.WB_FRAMES (R282). -/
def R.COMP_WB_FRAMES (n : Nat) : Nat := 0x40700100 + n * 0x4000 + 0x2c
/-- COMP.WB_DROPS (R282). -/
def R.COMP_WB_DROPS (n : Nat) : Nat := 0x40700100 + n * 0x4000 + 0x30
/-- COMP.WB_CSC (R282). -/
def R.COMP_WB_CSC (n i : Nat) : Nat := 0x40700100 + n * 0x4000 + 0x40 + i * 4
/-- CSTALL.CTRL (R278). -/
def R.CSTALL_CTRL (n m : Nat) : Nat := 0x40700400 + n * 0x4000 + m * 0x100
/-- CSTALL.SRC (R279). -/
def R.CSTALL_SRC (n m : Nat) : Nat := 0x40700400 + n * 0x4000 + m * 0x100 + 0x4
/-- CSTALL.FORMAT (R279). -/
def R.CSTALL_FORMAT (n m : Nat) : Nat := 0x40700400 + n * 0x4000 + m * 0x100 + 0x8
/-- CSTALL.SRC_SIZE (R279). -/
def R.CSTALL_SRC_SIZE (n m : Nat) : Nat := 0x40700400 + n * 0x4000 + m * 0x100 + 0xc
/-- CSTALL.BASE_LO (R279). -/
def R.CSTALL_BASE_LO (n m : Nat) : Nat := 0x40700400 + n * 0x4000 + m * 0x100 + 0x10
/-- CSTALL.BASE_HI (R279). -/
def R.CSTALL_BASE_HI (n m : Nat) : Nat := 0x40700400 + n * 0x4000 + m * 0x100 + 0x14
/-- CSTALL.PITCH (R279). -/
def R.CSTALL_PITCH (n m : Nat) : Nat := 0x40700400 + n * 0x4000 + m * 0x100 + 0x18
/-- CSTALL.CROP_POS (R279). -/
def R.CSTALL_CROP_POS (n m : Nat) : Nat := 0x40700400 + n * 0x4000 + m * 0x100 + 0x1c
/-- CSTALL.CROP_SIZE (R279). -/
def R.CSTALL_CROP_SIZE (n m : Nat) : Nat := 0x40700400 + n * 0x4000 + m * 0x100 + 0x20
/-- CSTALL.DST_POS (R279). -/
def R.CSTALL_DST_POS (n m : Nat) : Nat := 0x40700400 + n * 0x4000 + m * 0x100 + 0x24
/-- CSTALL.DST_SIZE (R279). -/
def R.CSTALL_DST_SIZE (n m : Nat) : Nat := 0x40700400 + n * 0x4000 + m * 0x100 + 0x28
/-- CSTALL.ALPHA (R279). -/
def R.CSTALL_ALPHA (n m : Nat) : Nat := 0x40700400 + n * 0x4000 + m * 0x100 + 0x2c
/-- CSTALL.KEY (R279). -/
def R.CSTALL_KEY (n m : Nat) : Nat := 0x40700400 + n * 0x4000 + m * 0x100 + 0x30
/-- CSTALL.KEY_MASK (R279). -/
def R.CSTALL_KEY_MASK (n m : Nat) : Nat := 0x40700400 + n * 0x4000 + m * 0x100 + 0x34
/-- CSTALL.FALLBACK (R279). -/
def R.CSTALL_FALLBACK (n m : Nat) : Nat := 0x40700400 + n * 0x4000 + m * 0x100 + 0x38
/-- CSTALL.CSC (R279). -/
def R.CSTALL_CSC (n m i : Nat) : Nat := 0x40700400 + n * 0x4000 + m * 0x100 + 0x40 + i * 4
/-- CSTALL.STAT (R280). -/
def R.CSTALL_STAT (n m : Nat) : Nat := 0x40700400 + n * 0x4000 + m * 0x100 + 0x60
/-- CSTALL.IRQ_EN (R280). -/
def R.CSTALL_IRQ_EN (n m : Nat) : Nat := 0x40700400 + n * 0x4000 + m * 0x100 + 0x64
/-- CSTALL.RETIRED_LO (R279). -/
def R.CSTALL_RETIRED_LO (n m : Nat) : Nat := 0x40700400 + n * 0x4000 + m * 0x100 + 0x70
/-- CSTALL.RETIRED_HI (R279). -/
def R.CSTALL_RETIRED_HI (n m : Nat) : Nat := 0x40700400 + n * 0x4000 + m * 0x100 + 0x74
/-- CSTALL.RETIRE_FRAME (R279). -/
def R.CSTALL_RETIRE_FRAME (n m : Nat) : Nat := 0x40700400 + n * 0x4000 + m * 0x100 + 0x78
/-- CSTALL.TAKES (R279). -/
def R.CSTALL_TAKES (n m : Nat) : Nat := 0x40700400 + n * 0x4000 + m * 0x100 + 0x80
/-- CSTALL.TAKE_LATE (R279). -/
def R.CSTALL_TAKE_LATE (n m : Nat) : Nat := 0x40700400 + n * 0x4000 + m * 0x100 + 0x84
/-- CSTALL.FETCH_FAULTS (R279). -/
def R.CSTALL_FETCH_FAULTS (n m : Nat) : Nat := 0x40700400 + n * 0x4000 + m * 0x100 + 0x88
/-- CSTALL.DBC_ERRS (R279). -/
def R.CSTALL_DBC_ERRS (n m : Nat) : Nat := 0x40700400 + n * 0x4000 + m * 0x100 + 0x8c
/-- COMPG.EVT (R277). -/
def R.COMPG_EVT : Nat := 0x40780000
/-- SP.INFO (R342). -/
def R.SP_INFO (n : Nat) : Nat := 0x40800000 + n * 0x400
/-- SP.CTRL (R342). -/
def R.SP_CTRL (n : Nat) : Nat := 0x40800000 + n * 0x400 + 0x4
/-- SP.COEF_INDEX (R343). -/
def R.SP_COEF_INDEX (n : Nat) : Nat := 0x40800000 + n * 0x400 + 0x8
/-- SP.COEF_DATA (R343). -/
def R.SP_COEF_DATA (n : Nat) : Nat := 0x40800000 + n * 0x400 + 0xc
/-- SP.COEF_CMD (R344). -/
def R.SP_COEF_CMD (n : Nat) : Nat := 0x40800000 + n * 0x400 + 0x10
/-- SP.STAT (R345). -/
def R.SP_STAT (n : Nat) : Nat := 0x40800000 + n * 0x400 + 0x14
/-- SP.IRQ_EN (R342). -/
def R.SP_IRQ_EN (n : Nat) : Nat := 0x40800000 + n * 0x400 + 0x18
/-- SP.SWAPS (R342). -/
def R.SP_SWAPS (n : Nat) : Nat := 0x40800000 + n * 0x400 + 0x1c
/-- SP.COEF_IGN (R342). -/
def R.SP_COEF_IGN (n : Nat) : Nat := 0x40800000 + n * 0x400 + 0x20
/-- SPG.EVT (R342). -/
def R.SPG_EVT (i : Nat) : Nat := 0x40880000 + i * 4
/-- HEAD.INFO (R392). -/
def R.HEAD_INFO (n : Nat) : Nat := 0x40900000 + n * 0x2000
/-- HEAD.CTRL (R393). -/
def R.HEAD_CTRL (n : Nat) : Nat := 0x40900000 + n * 0x2000 + 0x4
/-- HEAD.STAT (R394). -/
def R.HEAD_STAT (n : Nat) : Nat := 0x40900000 + n * 0x2000 + 0x8
/-- HEAD.EVT (R395). -/
def R.HEAD_EVT (n : Nat) : Nat := 0x40900000 + n * 0x2000 + 0xc
/-- HEAD.IRQ_EN (R395). -/
def R.HEAD_IRQ_EN (n : Nat) : Nat := 0x40900000 + n * 0x2000 + 0x10
/-- HEAD.COMMIT (R396). -/
def R.HEAD_COMMIT (n : Nat) : Nat := 0x40900000 + n * 0x2000 + 0x14
/-- HEAD.COMMIT_FRAME (R396). -/
def R.HEAD_COMMIT_FRAME (n : Nat) : Nat := 0x40900000 + n * 0x2000 + 0x18
/-- HEAD.APPLIED_FRAME (R396). -/
def R.HEAD_APPLIED_FRAME (n : Nat) : Nat := 0x40900000 + n * 0x2000 + 0x1c
/-- HEAD.APPLIED_TAG (R396). -/
def R.HEAD_APPLIED_TAG (n : Nat) : Nat := 0x40900000 + n * 0x2000 + 0x20
/-- HEAD.FRAME_CNT (R396). -/
def R.HEAD_FRAME_CNT (n : Nat) : Nat := 0x40900000 + n * 0x2000 + 0x24
/-- HEAD.COMMIT_MERGED (R396). -/
def R.HEAD_COMMIT_MERGED (n : Nat) : Nat := 0x40900000 + n * 0x2000 + 0x28
/-- HEAD.PIXCLK (R396). -/
def R.HEAD_PIXCLK (n : Nat) : Nat := 0x40900000 + n * 0x2000 + 0x40
/-- HEAD.TIMING_H (R397). -/
def R.HEAD_TIMING_H (n : Nat) : Nat := 0x40900000 + n * 0x2000 + 0x44
/-- HEAD.TIMING_HSYNC (R397). -/
def R.HEAD_TIMING_HSYNC (n : Nat) : Nat := 0x40900000 + n * 0x2000 + 0x48
/-- HEAD.TIMING_V (R397). -/
def R.HEAD_TIMING_V (n : Nat) : Nat := 0x40900000 + n * 0x2000 + 0x4c
/-- HEAD.TIMING_VSYNC (R397). -/
def R.HEAD_TIMING_VSYNC (n : Nat) : Nat := 0x40900000 + n * 0x2000 + 0x50
/-- HEAD.DS_FORMAT (R398). -/
def R.HEAD_DS_FORMAT (n : Nat) : Nat := 0x40900000 + n * 0x2000 + 0x60
/-- HEAD.DS_BASE_LO (R398). -/
def R.HEAD_DS_BASE_LO (n : Nat) : Nat := 0x40900000 + n * 0x2000 + 0x64
/-- HEAD.DS_BASE_HI (R398). -/
def R.HEAD_DS_BASE_HI (n : Nat) : Nat := 0x40900000 + n * 0x2000 + 0x68
/-- HEAD.DS_FALLBACK (R398). -/
def R.HEAD_DS_FALLBACK (n : Nat) : Nat := 0x40900000 + n * 0x2000 + 0x6c
/-- HEAD.DS_RETIRED_LO (R398). -/
def R.HEAD_DS_RETIRED_LO (n : Nat) : Nat := 0x40900000 + n * 0x2000 + 0x70
/-- HEAD.DS_RETIRED_HI (R398). -/
def R.HEAD_DS_RETIRED_HI (n : Nat) : Nat := 0x40900000 + n * 0x2000 + 0x74
/-- HEAD.DS_FAULTS (R398). -/
def R.HEAD_DS_FAULTS (n : Nat) : Nat := 0x40900000 + n * 0x2000 + 0x78
/-- HEAD.TOL (R398). -/
def R.HEAD_TOL (n : Nat) : Nat := 0x40900000 + n * 0x2000 + 0x80
/-- HEAD.TOL_MIN (R398). -/
def R.HEAD_TOL_MIN (n : Nat) : Nat := 0x40900000 + n * 0x2000 + 0x84
/-- HEAD.UNDERRUN_CNT (R398). -/
def R.HEAD_UNDERRUN_CNT (n : Nat) : Nat := 0x40900000 + n * 0x2000 + 0x90
/-- HEAD.UNDERRUN_PIX (R398). -/
def R.HEAD_UNDERRUN_PIX (n : Nat) : Nat := 0x40900000 + n * 0x2000 + 0x94
/-- HEAD.UNDERRUN_LAST (R398). -/
def R.HEAD_UNDERRUN_LAST (n : Nat) : Nat := 0x40900000 + n * 0x2000 + 0x98
/-- HEAD.SLATE_TEXT0 (R398). -/
def R.HEAD_SLATE_TEXT0 (n : Nat) : Nat := 0x40900000 + n * 0x2000 + 0xa0
/-- HEAD.SLATE_TEXT1 (R398). -/
def R.HEAD_SLATE_TEXT1 (n : Nat) : Nat := 0x40900000 + n * 0x2000 + 0xa4
/-- HEAD.PSR_CTRL (R400). -/
def R.HEAD_PSR_CTRL (n : Nat) : Nat := 0x40900000 + n * 0x2000 + 0xb0
/-- HEAD.PSR_STAT (R400). -/
def R.HEAD_PSR_STAT (n : Nat) : Nat := 0x40900000 + n * 0x2000 + 0xb4
/-- HEAD.PSR_ENTRIES (R398). -/
def R.HEAD_PSR_ENTRIES (n : Nat) : Nat := 0x40900000 + n * 0x2000 + 0xb8
/-- HEAD.PSR_FORCED (R398). -/
def R.HEAD_PSR_FORCED (n : Nat) : Nat := 0x40900000 + n * 0x2000 + 0xbc
/-- HEAD.COL_CTRL (R347). -/
def R.HEAD_COL_CTRL (n : Nat) : Nat := 0x40900000 + n * 0x2000 + 0x1800
/-- HEAD.DITHER (R347). -/
def R.HEAD_DITHER (n : Nat) : Nat := 0x40900000 + n * 0x2000 + 0x1804
/-- HEAD.LUT_INDEX (R348). -/
def R.HEAD_LUT_INDEX (n : Nat) : Nat := 0x40900000 + n * 0x2000 + 0x1808
/-- HEAD.LUT_DATA0 (R348). -/
def R.HEAD_LUT_DATA0 (n : Nat) : Nat := 0x40900000 + n * 0x2000 + 0x180c
/-- HEAD.LUT_DATA1 (R348). -/
def R.HEAD_LUT_DATA1 (n : Nat) : Nat := 0x40900000 + n * 0x2000 + 0x1810
/-- HEAD.COL_STAT (R348). -/
def R.HEAD_COL_STAT (n : Nat) : Nat := 0x40900000 + n * 0x2000 + 0x1814
/-- HEAD.COL_IRQ_EN (R348). -/
def R.HEAD_COL_IRQ_EN (n : Nat) : Nat := 0x40900000 + n * 0x2000 + 0x1818
/-- HEAD.LUT_IGN (R348). -/
def R.HEAD_LUT_IGN (n : Nat) : Nat := 0x40900000 + n * 0x2000 + 0x181c
/-- HEAD.OUT_CSC (R348). -/
def R.HEAD_OUT_CSC (n i : Nat) : Nat := 0x40900000 + n * 0x2000 + 0x1820 + i * 4
/-- RGN.CFG (R399). -/
def R.RGN_CFG (n m : Nat) : Nat := 0x40900100 + n * 0x2000 + m * 0x20
/-- RGN.POS (R398). -/
def R.RGN_POS (n m : Nat) : Nat := 0x40900100 + n * 0x2000 + m * 0x20 + 0x4
/-- RGN.SIZE (R398). -/
def R.RGN_SIZE (n m : Nat) : Nat := 0x40900100 + n * 0x2000 + m * 0x20 + 0x8
/-- RGN.EXPECT (R398). -/
def R.RGN_EXPECT (n m : Nat) : Nat := 0x40900100 + n * 0x2000 + m * 0x20 + 0xc
/-- RGN.RESULT (R398). -/
def R.RGN_RESULT (n m : Nat) : Nat := 0x40900100 + n * 0x2000 + m * 0x20 + 0x10
/-- RGN.RESULT_FRAME (R398). -/
def R.RGN_RESULT_FRAME (n m : Nat) : Nat := 0x40900100 + n * 0x2000 + m * 0x20 + 0x14
/-- RGN.MISMATCHES (R398). -/
def R.RGN_MISMATCHES (n m : Nat) : Nat := 0x40900100 + n * 0x2000 + m * 0x20 + 0x18
/-- RGN.SKIPS (R398). -/
def R.RGN_SKIPS (n m : Nat) : Nat := 0x40900100 + n * 0x2000 + m * 0x20 + 0x1c
/-- HEADG.MIN_TOL (R401). -/
def R.HEADG_MIN_TOL : Nat := 0x40980000
/-- HEADG.PEND (R401). -/
def R.HEADG_PEND : Nat := 0x40980000 + 0x4
/-- HEADG.FAULT (R401). -/
def R.HEADG_FAULT : Nat := 0x40980000 + 0x8
/-- HEADG.SLATE (R401). -/
def R.HEADG_SLATE : Nat := 0x40980000 + 0xc
/-- SRC.INFO (R430). -/
def R.SRC_INFO (n : Nat) : Nat := 0x40a00000 + n * 0x1000
/-- SRC.CTRL (R425). -/
def R.SRC_CTRL (n : Nat) : Nat := 0x40a00000 + n * 0x1000 + 0x4
/-- SRC.STAT (R426). -/
def R.SRC_STAT (n : Nat) : Nat := 0x40a00000 + n * 0x1000 + 0x8
/-- SRC.EVT (R427). -/
def R.SRC_EVT (n : Nat) : Nat := 0x40a00000 + n * 0x1000 + 0xc
/-- SRC.IRQ_EN (R427). -/
def R.SRC_IRQ_EN (n : Nat) : Nat := 0x40a00000 + n * 0x1000 + 0x10
/-- SRC.SLOTS (R430). -/
def R.SRC_SLOTS (n : Nat) : Nat := 0x40a00000 + n * 0x1000 + 0x14
/-- SRC.TRAINS (R430). -/
def R.SRC_TRAINS (n : Nat) : Nat := 0x40a00000 + n * 0x1000 + 0x18
/-- SRC.LINK_LOSS (R430). -/
def R.SRC_LINK_LOSS (n : Nat) : Nat := 0x40a00000 + n * 0x1000 + 0x1c
/-- SRC.AUX_CMD (R428). -/
def R.SRC_AUX_CMD (n : Nat) : Nat := 0x40a00000 + n * 0x1000 + 0x20
/-- SRC.AUX_STAT (R429). -/
def R.SRC_AUX_STAT (n : Nat) : Nat := 0x40a00000 + n * 0x1000 + 0x24
/-- SRC.AUX_DATA (R429). -/
def R.SRC_AUX_DATA (n i : Nat) : Nat := 0x40a00000 + n * 0x1000 + 0x30 + i * 4
/-- SRC.PANEL_CTRL (R430). -/
def R.SRC_PANEL_CTRL (n : Nat) : Nat := 0x40a00000 + n * 0x1000 + 0x40
/-- SRC.PANEL_DELAY0 (R430). -/
def R.SRC_PANEL_DELAY0 (n : Nat) : Nat := 0x40a00000 + n * 0x1000 + 0x44
/-- SRC.PANEL_DELAY1 (R430). -/
def R.SRC_PANEL_DELAY1 (n : Nat) : Nat := 0x40a00000 + n * 0x1000 + 0x48
/-- SRC.BL_PERIOD (R430). -/
def R.SRC_BL_PERIOD (n : Nat) : Nat := 0x40a00000 + n * 0x1000 + 0x4c
/-- SRC.BL_DUTY (R430). -/
def R.SRC_BL_DUTY (n : Nat) : Nat := 0x40a00000 + n * 0x1000 + 0x50
/-- SRC.PANEL_STAT (R430). -/
def R.SRC_PANEL_STAT (n : Nat) : Nat := 0x40a00000 + n * 0x1000 + 0x54
/-- SRC.EDID (R430). -/
def R.SRC_EDID (n i : Nat) : Nat := 0x40a00000 + n * 0x1000 + 0x200 + i * 4
/-- SNK.INFO (R433). -/
def R.SNK_INFO (n : Nat) : Nat := 0x40a20000 + n * 0x1000
/-- SNK.CTRL (R431). -/
def R.SNK_CTRL (n : Nat) : Nat := 0x40a20000 + n * 0x1000 + 0x4
/-- SNK.STAT (R431). -/
def R.SNK_STAT (n : Nat) : Nat := 0x40a20000 + n * 0x1000 + 0x8
/-- SNK.EVT (R432). -/
def R.SNK_EVT (n : Nat) : Nat := 0x40a20000 + n * 0x1000 + 0xc
/-- SNK.IRQ_EN (R432). -/
def R.SNK_IRQ_EN (n : Nat) : Nat := 0x40a20000 + n * 0x1000 + 0x10
/-- SNK.HPD_PULSE (R433). -/
def R.SNK_HPD_PULSE (n : Nat) : Nat := 0x40a20000 + n * 0x1000 + 0x14
/-- SNK.MEAS_SIZE (R433). -/
def R.SNK_MEAS_SIZE (n : Nat) : Nat := 0x40a20000 + n * 0x1000 + 0x18
/-- SNK.MEAS_PERIOD (R433). -/
def R.SNK_MEAS_PERIOD (n : Nat) : Nat := 0x40a20000 + n * 0x1000 + 0x1c
/-- SNK.FRAMES (R433). -/
def R.SNK_FRAMES (n : Nat) : Nat := 0x40a20000 + n * 0x1000 + 0x20
/-- SNK.FMT_DROPS (R433). -/
def R.SNK_FMT_DROPS (n : Nat) : Nat := 0x40a20000 + n * 0x1000 + 0x24
/-- SNK.SIZE_DROPS (R433). -/
def R.SNK_SIZE_DROPS (n : Nat) : Nat := 0x40a20000 + n * 0x1000 + 0x28
/-- SNK.LOCK_LOSS (R433). -/
def R.SNK_LOCK_LOSS (n : Nat) : Nat := 0x40a20000 + n * 0x1000 + 0x2c
/-- SNK.EDID (R420). -/
def R.SNK_EDID (n i : Nat) : Nat := 0x40a20000 + n * 0x1000 + 0x100 + i * 4
/-- DPOG.EVT (R424). -/
def R.DPOG_EVT : Nat := 0x40a80000
/-- WLK.INFO (R516). -/
def R.WLK_INFO : Nat := 0x40b00000
/-- WLK.CTRL (R513). -/
def R.WLK_CTRL : Nat := 0x40b00000 + 0x4
/-- WLK.STAT (R514). -/
def R.WLK_STAT : Nat := 0x40b00000 + 0x8
/-- WLK.EVT (R515). -/
def R.WLK_EVT : Nat := 0x40b00000 + 0xc
/-- WLK.IRQ_EN (R515). -/
def R.WLK_IRQ_EN : Nat := 0x40b00000 + 0x10
/-- WLK.HB (R516). -/
def R.WLK_HB : Nat := 0x40b00000 + 0x14
/-- WLK.UP_CNT (R516). -/
def R.WLK_UP_CNT : Nat := 0x40b00000 + 0x20
/-- WLK.CRC_ERR (R516). -/
def R.WLK_CRC_ERR : Nat := 0x40b00000 + 0x24
/-- WLK.AUTH_ERR (R516). -/
def R.WLK_AUTH_ERR : Nat := 0x40b00000 + 0x28
/-- WLK.LOST_FRAMES (R516). -/
def R.WLK_LOST_FRAMES : Nat := 0x40b00000 + 0x2c
/-- WLK.KEYREQ_UNMATCHED (R516). -/
def R.WLK_KEYREQ_UNMATCHED : Nat := 0x40b00000 + 0x30
/-- WLK.TX_DISCARDS (R516). -/
def R.WLK_TX_DISCARDS : Nat := 0x40b00000 + 0x34
/-- WLK.RX_DISCARDS (R516). -/
def R.WLK_RX_DISCARDS : Nat := 0x40b00000 + 0x38
/-- WLK.RX_OVF (R516). -/
def R.WLK_RX_OVF : Nat := 0x40b00000 + 0x3c
/-- WLK.VC_CFG (R516). -/
def R.WLK_VC_CFG (i : Nat) : Nat := 0x40b00000 + 0x80 + i * 4
/-- WLK.RXQ_BASE_LO (R510). -/
def R.WLK_RXQ_BASE_LO : Nat := 0x40b00000 + 0x100
/-- WLK.RXQ_BASE_HI (R510). -/
def R.WLK_RXQ_BASE_HI : Nat := 0x40b00000 + 0x104
/-- WLK.TXQ_BASE_LO (R510). -/
def R.WLK_TXQ_BASE_LO : Nat := 0x40b00000 + 0x108
/-- WLK.TXQ_BASE_HI (R510). -/
def R.WLK_TXQ_BASE_HI : Nat := 0x40b00000 + 0x10c
/-- WLK.QCFG (R510). -/
def R.WLK_QCFG : Nat := 0x40b00000 + 0x110
/-- WLK.RXQ_WR (R510). -/
def R.WLK_RXQ_WR : Nat := 0x40b00000 + 0x114
/-- WLK.RXQ_RD (R510). -/
def R.WLK_RXQ_RD : Nat := 0x40b00000 + 0x118
/-- WLK.TXQ_WR (R510). -/
def R.WLK_TXQ_WR : Nat := 0x40b00000 + 0x11c
/-- WLK.TXQ_RD (R510). -/
def R.WLK_TXQ_RD : Nat := 0x40b00000 + 0x120
/-- WPEER.CTRL (R516). -/
def R.WPEER_CTRL (n : Nat) : Nat := 0x40b00200 + n * 0x40
/-- WPEER.HASH (R498). -/
def R.WPEER_HASH (n i : Nat) : Nat := 0x40b00200 + n * 0x40 + 0x4 + i * 4
/-- TWIN.INFO (R551). -/
def R.TWIN_INFO : Nat := 0x40c00000
/-- TWIN.CTRL (R552). -/
def R.TWIN_CTRL : Nat := 0x40c00000 + 0x4
/-- TWIN.STAT (R553). -/
def R.TWIN_STAT : Nat := 0x40c00000 + 0x8
/-- TWIN.EVT (R554). -/
def R.TWIN_EVT : Nat := 0x40c00000 + 0xc
/-- TWIN.IRQ_EN (R554). -/
def R.TWIN_IRQ_EN : Nat := 0x40c00000 + 0x10
/-- TWIN.NOT_READY (R556). -/
def R.TWIN_NOT_READY : Nat := 0x40c00000 + 0x14
/-- TWIN.TICK_CNT (R556). -/
def R.TWIN_TICK_CNT : Nat := 0x40c00000 + 0x18
/-- TWIN.LAST_SWITCH (R555). -/
def R.TWIN_LAST_SWITCH : Nat := 0x40c00000 + 0x1c
/-- TWIN.LAST_GAP (R556). -/
def R.TWIN_LAST_GAP : Nat := 0x40c00000 + 0x20
/-- TWIN.SWITCH_CNT (R556). -/
def R.TWIN_SWITCH_CNT : Nat := 0x40c00000 + 0x24
/-- TWIN.HB_MISS (R556). -/
def R.TWIN_HB_MISS : Nat := 0x40c00000 + 0x28
/-- TWIN.CONFLICTS (R556). -/
def R.TWIN_CONFLICTS : Nat := 0x40c00000 + 0x2c
/-- TWIN.STEP_MISS (R556). -/
def R.TWIN_STEP_MISS : Nat := 0x40c00000 + 0x30
/-- TWIN.OUTCRC_MISMATCH (R556). -/
def R.TWIN_OUTCRC_MISMATCH : Nat := 0x40c00000 + 0x34
/-- TWIN.COPY_MISS (R556). -/
def R.TWIN_COPY_MISS : Nat := 0x40c00000 + 0x38
/-- TWIN.FWD_DROPS (R556). -/
def R.TWIN_FWD_DROPS : Nat := 0x40c00000 + 0x3c
/-- TWIN.BIST_STAT (R556). -/
def R.TWIN_BIST_STAT : Nat := 0x40c00000 + 0x40
/-- TWIN.BIST_FAILS (R556). -/
def R.TWIN_BIST_FAILS : Nat := 0x40c00000 + 0x44
/-- TWIN.LAG (R556). -/
def R.TWIN_LAG : Nat := 0x40c00000 + 0x48
/-- TWIN.OWN_HEALTH (R528). -/
def R.TWIN_OWN_HEALTH (i : Nat) : Nat := 0x40c00000 + 0x80 + i * 4
/-- TWIN.PEER_HEALTH (R528). -/
def R.TWIN_PEER_HEALTH (i : Nat) : Nat := 0x40c00000 + 0xa0 + i * 4
/-- MEMC.STATUS (R585). -/
def R.MEMC_STATUS : Nat := 0x40d00000
/-- MEMC.CONF_COLOURS (R585). -/
def R.MEMC_CONF_COLOURS : Nat := 0x40d00000 + 0x4
/-- MEMC.HWIN_LO (R585). -/
def R.MEMC_HWIN_LO : Nat := 0x40d00000 + 0x8
/-- MEMC.HWIN_HI (R585). -/
def R.MEMC_HWIN_HI : Nat := 0x40d00000 + 0xc
/-- MEMC.SR_CTRL (R584). -/
def R.MEMC_SR_CTRL : Nat := 0x40d00000 + 0x10
/-- MEMC.SR_ENTRIES (R585). -/
def R.MEMC_SR_ENTRIES : Nat := 0x40d00000 + 0x14
/-- MEMC.SR_LATE (R585). -/
def R.MEMC_SR_LATE : Nat := 0x40d00000 + 0x18
/-- MEMC.SCRUB_CTRL (R585). -/
def R.MEMC_SCRUB_CTRL : Nat := 0x40d00000 + 0x20
/-- MEMC.SCRUB_PASSES (R585). -/
def R.MEMC_SCRUB_PASSES : Nat := 0x40d00000 + 0x24
/-- MEMC.EVT (R585). -/
def R.MEMC_EVT : Nat := 0x40d00000 + 0x30
/-- MEMC.IRQ_EN (R585). -/
def R.MEMC_IRQ_EN : Nat := 0x40d00000 + 0x34
/-- MEMC.CE_CNT (R585). -/
def R.MEMC_CE_CNT : Nat := 0x40d00000 + 0x38
/-- MEMC.UE_CNT (R585). -/
def R.MEMC_UE_CNT : Nat := 0x40d00000 + 0x3c
/-- MEMC.CE_ADDR_LO (R585). -/
def R.MEMC_CE_ADDR_LO : Nat := 0x40d00000 + 0x40
/-- MEMC.CE_ADDR_HI (R585). -/
def R.MEMC_CE_ADDR_HI : Nat := 0x40d00000 + 0x44
/-- MEMC.UE_ADDR_LO (R585). -/
def R.MEMC_UE_ADDR_LO : Nat := 0x40d00000 + 0x48
/-- MEMC.UE_ADDR_HI (R585). -/
def R.MEMC_UE_ADDR_HI : Nat := 0x40d00000 + 0x4c
/-- TAG.STATUS (R590). -/
def R.TAG_STATUS : Nat := 0x40e00000
/-- TAG.VPEND (R590). -/
def R.TAG_VPEND (i : Nat) : Nat := 0x40e00000 + 0x10 + i * 4
/-- TAG.IRQ_EN (R590). -/
def R.TAG_IRQ_EN : Nat := 0x40e00000 + 0x20
/-- TAG.TAG_ERRS (R590). -/
def R.TAG_TAG_ERRS : Nat := 0x40e00000 + 0x24
/-- TAG.RC_PAGE (R590). -/
def R.TAG_RC_PAGE : Nat := 0x40e00000 + 0x100
/-- TAG.RC_COUNT (R590). -/
def R.TAG_RC_COUNT : Nat := 0x40e00000 + 0x104
/-- TAG.RC_CTRL (R589). -/
def R.TAG_RC_CTRL : Nat := 0x40e00000 + 0x108
/-- TAG.RC_STAT (R589). -/
def R.TAG_RC_STAT : Nat := 0x40e00000 + 0x10c
/-- TAG.RC_DONE (R590). -/
def R.TAG_RC_DONE : Nat := 0x40e00000 + 0x110
/-- TAG.RC_MASTER (R590). -/
def R.TAG_RC_MASTER : Nat := 0x40e00000 + 0x114
/-- TAG.OUT_COLOUR (R590). -/
def R.TAG_OUT_COLOUR (i : Nat) : Nat := 0x40e00000 + 0x200 + i * 4
/-- CHK.MASK (R587). -/
def R.CHK_MASK (n : Nat) : Nat := 0x40e10000 + n * 0x40
/-- CHK.INFO (R590). -/
def R.CHK_INFO (n : Nat) : Nat := 0x40e10000 + n * 0x40 + 0x4
/-- CHK.VSTAT (R590). -/
def R.CHK_VSTAT (n : Nat) : Nat := 0x40e10000 + n * 0x40 + 0x8
/-- CHK.FIRST_ADDR_LO (R590). -/
def R.CHK_FIRST_ADDR_LO (n : Nat) : Nat := 0x40e10000 + n * 0x40 + 0xc
/-- CHK.FIRST_ADDR_HI (R590). -/
def R.CHK_FIRST_ADDR_HI (n : Nat) : Nat := 0x40e10000 + n * 0x40 + 0x10
/-- CHK.FIRST_INFO (R588). -/
def R.CHK_FIRST_INFO (n : Nat) : Nat := 0x40e10000 + n * 0x40 + 0x14
/-- CHK.VIOL_CNT (R590). -/
def R.CHK_VIOL_CNT (n : Nat) : Nat := 0x40e10000 + n * 0x40 + 0x18
/-- CHK.BYTES (R590). -/
def R.CHK_BYTES (n : Nat) : Nat := 0x40e10000 + n * 0x40 + 0x1c
/-- TB.CTRL (R613). -/
def R.TB_CTRL (n : Nat) : Nat := 0x40f00000 + n * 0x100
/-- TB.STAT (R614). -/
def R.TB_STAT (n : Nat) : Nat := 0x40f00000 + n * 0x100 + 0x4
/-- TB.EVT (R614). -/
def R.TB_EVT (n : Nat) : Nat := 0x40f00000 + n * 0x100 + 0x8
/-- TB.IRQ_EN (R614). -/
def R.TB_IRQ_EN (n : Nat) : Nat := 0x40f00000 + n * 0x100 + 0xc
/-- TB.NOW_NS (R616). -/
def R.TB_NOW_NS (n : Nat) : Nat := 0x40f00000 + n * 0x100 + 0x10
/-- TB.NOW_SEC_LO (R616). -/
def R.TB_NOW_SEC_LO (n : Nat) : Nat := 0x40f00000 + n * 0x100 + 0x14
/-- TB.NOW_SEC_HI (R616). -/
def R.TB_NOW_SEC_HI (n : Nat) : Nat := 0x40f00000 + n * 0x100 + 0x18
/-- TB.NOW_FRAC (R616). -/
def R.TB_NOW_FRAC (n : Nat) : Nat := 0x40f00000 + n * 0x100 + 0x1c
/-- TB.SET_SEC_LO (R616). -/
def R.TB_SET_SEC_LO (n : Nat) : Nat := 0x40f00000 + n * 0x100 + 0x20
/-- TB.SET_SEC_HI (R616). -/
def R.TB_SET_SEC_HI (n : Nat) : Nat := 0x40f00000 + n * 0x100 + 0x24
/-- TB.SET_NS (R616). -/
def R.TB_SET_NS (n : Nat) : Nat := 0x40f00000 + n * 0x100 + 0x28
/-- TB.STEP_LO (R616). -/
def R.TB_STEP_LO (n : Nat) : Nat := 0x40f00000 + n * 0x100 + 0x2c
/-- TB.STEP_HI (R616). -/
def R.TB_STEP_HI (n : Nat) : Nat := 0x40f00000 + n * 0x100 + 0x30
/-- TB.RATE_LO (R616). -/
def R.TB_RATE_LO (n : Nat) : Nat := 0x40f00000 + n * 0x100 + 0x34
/-- TB.RATE_HI (R616). -/
def R.TB_RATE_HI (n : Nat) : Nat := 0x40f00000 + n * 0x100 + 0x38
/-- TB.HOLD (R616). -/
def R.TB_HOLD (n : Nat) : Nat := 0x40f00000 + n * 0x100 + 0x3c
/-- TB.OFFSET_IN (R616). -/
def R.TB_OFFSET_IN (n : Nat) : Nat := 0x40f00000 + n * 0x100 + 0x40
/-- TB.SERVO (R615). -/
def R.TB_SERVO (n : Nat) : Nat := 0x40f00000 + n * 0x100 + 0x44
/-- TB.STEP_THRESH (R616). -/
def R.TB_STEP_THRESH (n : Nat) : Nat := 0x40f00000 + n * 0x100 + 0x48
/-- TB.LAST_OFFSET (R616). -/
def R.TB_LAST_OFFSET (n : Nat) : Nat := 0x40f00000 + n * 0x100 + 0x4c
/-- TB.STEPS (R616). -/
def R.TB_STEPS (n : Nat) : Nat := 0x40f00000 + n * 0x100 + 0x50
/-- TB.STEP_REFUSED (R616). -/
def R.TB_STEP_REFUSED (n : Nat) : Nat := 0x40f00000 + n * 0x100 + 0x54
/-- TB.HOLDOVERS (R616). -/
def R.TB_HOLDOVERS (n : Nat) : Nat := 0x40f00000 + n * 0x100 + 0x58
/-- TPORT.PTP_CFG (R617). -/
def R.TPORT_PTP_CFG (n : Nat) : Nat := 0x40f01000 + n * 0x80
/-- TPORT.RX_ADJ (R618). -/
def R.TPORT_RX_ADJ (n : Nat) : Nat := 0x40f01000 + n * 0x80 + 0x4
/-- TPORT.TX_ADJ (R618). -/
def R.TPORT_TX_ADJ (n : Nat) : Nat := 0x40f01000 + n * 0x80 + 0x8
/-- TPORT.EVT (R618). -/
def R.TPORT_EVT (n : Nat) : Nat := 0x40f01000 + n * 0x80 + 0xc
/-- TPORT.IRQ_EN (R618). -/
def R.TPORT_IRQ_EN (n : Nat) : Nat := 0x40f01000 + n * 0x80 + 0x10
/-- TPORT.TXTS_STAT (R618). -/
def R.TPORT_TXTS_STAT (n : Nat) : Nat := 0x40f01000 + n * 0x80 + 0x20
/-- TPORT.TXTS_ID (R618). -/
def R.TPORT_TXTS_ID (n : Nat) : Nat := 0x40f01000 + n * 0x80 + 0x24
/-- TPORT.TXTS_NS (R618). -/
def R.TPORT_TXTS_NS (n : Nat) : Nat := 0x40f01000 + n * 0x80 + 0x28
/-- TPORT.TXTS_SEC_LO (R618). -/
def R.TPORT_TXTS_SEC_LO (n : Nat) : Nat := 0x40f01000 + n * 0x80 + 0x2c
/-- TPORT.TXTS_SEC_HI (R618). -/
def R.TPORT_TXTS_SEC_HI (n : Nat) : Nat := 0x40f01000 + n * 0x80 + 0x30
/-- TPORT.TXTS_POP (R618). -/
def R.TPORT_TXTS_POP (n : Nat) : Nat := 0x40f01000 + n * 0x80 + 0x34
/-- TPORT.TXTS_DROPS (R618). -/
def R.TPORT_TXTS_DROPS (n : Nat) : Nat := 0x40f01000 + n * 0x80 + 0x38
/-- TPORT.RXTS_STAT (R618). -/
def R.TPORT_RXTS_STAT (n : Nat) : Nat := 0x40f01000 + n * 0x80 + 0x40
/-- TPORT.RXTS_ID (R618). -/
def R.TPORT_RXTS_ID (n : Nat) : Nat := 0x40f01000 + n * 0x80 + 0x44
/-- TPORT.RXTS_NS (R618). -/
def R.TPORT_RXTS_NS (n : Nat) : Nat := 0x40f01000 + n * 0x80 + 0x48
/-- TPORT.RXTS_SEC_LO (R618). -/
def R.TPORT_RXTS_SEC_LO (n : Nat) : Nat := 0x40f01000 + n * 0x80 + 0x4c
/-- TPORT.RXTS_SEC_HI (R618). -/
def R.TPORT_RXTS_SEC_HI (n : Nat) : Nat := 0x40f01000 + n * 0x80 + 0x50
/-- TPORT.RXTS_POP (R618). -/
def R.TPORT_RXTS_POP (n : Nat) : Nat := 0x40f01000 + n * 0x80 + 0x54
/-- TPORT.RXTS_DROPS (R618). -/
def R.TPORT_RXTS_DROPS (n : Nat) : Nat := 0x40f01000 + n * 0x80 + 0x58
/-- TIMEG.INFO (R619). -/
def R.TIMEG_INFO : Nat := 0x40f80000
/-- TIMEG.PEND (R619). -/
def R.TIMEG_PEND : Nat := 0x40f80000 + 0x4
/-- IRQ.INFO (R643). -/
def R.IRQ_INFO : Nat := 0x41000000
/-- IRQ.SWI_SET (R643). -/
def R.IRQ_SWI_SET : Nat := 0x41000000 + 0x10
/-- IRQ.HOLDOFF (R643). -/
def R.IRQ_HOLDOFF (i : Nat) : Nat := 0x41000000 + 0x100 + i * 4
/-- IRQ.PEND (R643). -/
def R.IRQ_PEND (i : Nat) : Nat := 0x41000000 + 0x200 + i * 4
/-- IRQ.INSERV (R643). -/
def R.IRQ_INSERV (i : Nat) : Nat := 0x41000000 + 0x240 + i * 4
/-- IRQ.CFG (R639). -/
def R.IRQ_CFG (i : Nat) : Nat := 0x41000000 + 0x1000 + i * 4
/-- TGT.CTRL (R640). -/
def R.TGT_CTRL (n : Nat) : Nat := 0x41002000 + n * 0x100
/-- TGT.STAT (R641). -/
def R.TGT_STAT (n : Nat) : Nat := 0x41002000 + n * 0x100 + 0x4
/-- TGT.CLAIM (R642). -/
def R.TGT_CLAIM (n : Nat) : Nat := 0x41002000 + n * 0x100 + 0x8
/-- TGT.COMPLETE (R643). -/
def R.TGT_COMPLETE (n : Nat) : Nat := 0x41002000 + n * 0x100 + 0xc
/-- TGT.STACK_RESET (R643). -/
def R.TGT_STACK_RESET (n : Nat) : Nat := 0x41002000 + n * 0x100 + 0x10
/-- TGT.FAULT_INFO (R643). -/
def R.TGT_FAULT_INFO (n : Nat) : Nat := 0x41002000 + n * 0x100 + 0x14
/-- TGT.CLAIMS (R643). -/
def R.TGT_CLAIMS (n : Nat) : Nat := 0x41002000 + n * 0x100 + 0x18
/-- TGT.FAULTS (R643). -/
def R.TGT_FAULTS (n : Nat) : Nat := 0x41002000 + n * 0x100 + 0x1c
/-- TGT.STACK (R643). -/
def R.TGT_STACK (n i : Nat) : Nat := 0x41002000 + n * 0x100 + 0x40 + i * 4
/-- MSIX.TABLE (R644). -/
def R.MSIX_TABLE (i : Nat) : Nat := 0x41060000 + i * 4
/-- MSIX.PBA (R644). -/
def R.MSIX_PBA : Nat := 0x41060000 + 0x1000
/-- CVE.CTRL (R660). -/
def R.CVE_CTRL (n : Nat) : Nat := 0x41100000 + n * 0x100
/-- CVE.CFG (R658). -/
def R.CVE_CFG (n : Nat) : Nat := 0x41100000 + n * 0x100 + 0x4
/-- CVE.START_LO (R660). -/
def R.CVE_START_LO (n : Nat) : Nat := 0x41100000 + n * 0x100 + 0x8
/-- CVE.START_HI (R660). -/
def R.CVE_START_HI (n : Nat) : Nat := 0x41100000 + n * 0x100 + 0xc
/-- CVE.LENGTH (R647). -/
def R.CVE_LENGTH (n : Nat) : Nat := 0x41100000 + n * 0x100 + 0x10
/-- CVE.RES_LO (R660). -/
def R.CVE_RES_LO (n : Nat) : Nat := 0x41100000 + n * 0x100 + 0x14
/-- CVE.RES_HI (R660). -/
def R.CVE_RES_HI (n : Nat) : Nat := 0x41100000 + n * 0x100 + 0x18
/-- CVE.EXP_LO (R660). -/
def R.CVE_EXP_LO (n : Nat) : Nat := 0x41100000 + n * 0x100 + 0x1c
/-- CVE.EXP_HI (R660). -/
def R.CVE_EXP_HI (n : Nat) : Nat := 0x41100000 + n * 0x100 + 0x20
/-- CVE.ALIVE (R660). -/
def R.CVE_ALIVE (n : Nat) : Nat := 0x41100000 + n * 0x100 + 0x24
/-- CVE.STAT (R659). -/
def R.CVE_STAT (n : Nat) : Nat := 0x41100000 + n * 0x100 + 0x28
/-- CVE.IRQ_EN (R659). -/
def R.CVE_IRQ_EN (n : Nat) : Nat := 0x41100000 + n * 0x100 + 0x2c
/-- CVE.VALUE_LO (R660). -/
def R.CVE_VALUE_LO (n : Nat) : Nat := 0x41100000 + n * 0x100 + 0x30
/-- CVE.VALUE_HI (R660). -/
def R.CVE_VALUE_HI (n : Nat) : Nat := 0x41100000 + n * 0x100 + 0x34
/-- CVE.AVALUE_LO (R660). -/
def R.CVE_AVALUE_LO (n : Nat) : Nat := 0x41100000 + n * 0x100 + 0x38
/-- CVE.AVALUE_HI (R660). -/
def R.CVE_AVALUE_HI (n : Nat) : Nat := 0x41100000 + n * 0x100 + 0x3c
/-- CVE.PROGRESS_LO (R660). -/
def R.CVE_PROGRESS_LO (n : Nat) : Nat := 0x41100000 + n * 0x100 + 0x40
/-- CVE.PROGRESS_HI (R660). -/
def R.CVE_PROGRESS_HI (n : Nat) : Nat := 0x41100000 + n * 0x100 + 0x44
/-- CVE.DONE_BLOCKS (R660). -/
def R.CVE_DONE_BLOCKS (n : Nat) : Nat := 0x41100000 + n * 0x100 + 0x48
/-- CVE.MISMATCHES (R660). -/
def R.CVE_MISMATCHES (n : Nat) : Nat := 0x41100000 + n * 0x100 + 0x4c
/-- CVE.FIRST_MISMATCH (R660). -/
def R.CVE_FIRST_MISMATCH (n : Nat) : Nat := 0x41100000 + n * 0x100 + 0x50
/-- CVE.JOBS (R660). -/
def R.CVE_JOBS (n : Nat) : Nat := 0x41100000 + n * 0x100 + 0x54
/-- LANE.INFO (R685). -/
def R.LANE_INFO (n : Nat) : Nat := 0x41200000 + n * 0x100
/-- LANE.CTRL (R682). -/
def R.LANE_CTRL (n : Nat) : Nat := 0x41200000 + n * 0x100 + 0x4
/-- LANE.STAT (R682). -/
def R.LANE_STAT (n : Nat) : Nat := 0x41200000 + n * 0x100 + 0x8
/-- LANE.EVT (R683). -/
def R.LANE_EVT (n : Nat) : Nat := 0x41200000 + n * 0x100 + 0xc
/-- LANE.IRQ_EN (R683). -/
def R.LANE_IRQ_EN (n : Nat) : Nat := 0x41200000 + n * 0x100 + 0x10
/-- LANE.RATE (R685). -/
def R.LANE_RATE (n : Nat) : Nat := 0x41200000 + n * 0x100 + 0x14
/-- LANE.RAW_CFG (R684). -/
def R.LANE_RAW_CFG (n : Nat) : Nat := 0x41200000 + n * 0x100 + 0x18
/-- LANE.TX_WORD_LO (R685). -/
def R.LANE_TX_WORD_LO (n : Nat) : Nat := 0x41200000 + n * 0x100 + 0x1c
/-- LANE.TX_WORD_HI (R685). -/
def R.LANE_TX_WORD_HI (n : Nat) : Nat := 0x41200000 + n * 0x100 + 0x20
/-- LANE.RX_WORD_LO (R685). -/
def R.LANE_RX_WORD_LO (n : Nat) : Nat := 0x41200000 + n * 0x100 + 0x24
/-- LANE.RX_WORD_HI (R685). -/
def R.LANE_RX_WORD_HI (n : Nat) : Nat := 0x41200000 + n * 0x100 + 0x28
/-- LANE.ERR_CNT (R685). -/
def R.LANE_ERR_CNT (n : Nat) : Nat := 0x41200000 + n * 0x100 + 0x2c
/-- LANE.BITS_LO (R685). -/
def R.LANE_BITS_LO (n : Nat) : Nat := 0x41200000 + n * 0x100 + 0x30
/-- LANE.BITS_HI (R685). -/
def R.LANE_BITS_HI (n : Nat) : Nat := 0x41200000 + n * 0x100 + 0x34
/-- LANE.LOSS_CNT (R685). -/
def R.LANE_LOSS_CNT (n : Nat) : Nat := 0x41200000 + n * 0x100 + 0x38
/-- LANE.SLIPS (R685). -/
def R.LANE_SLIPS (n : Nat) : Nat := 0x41200000 + n * 0x100 + 0x3c
/-- LANE.LOCK_LOSS (R685). -/
def R.LANE_LOCK_LOSS (n : Nat) : Nat := 0x41200000 + n * 0x100 + 0x40
/-- LANEG.EVT (R681). -/
def R.LANEG_EVT (i : Nat) : Nat := 0x41260000 + i * 4
/-- SAP.CTRL (R707). -/
def R.SAP_CTRL (n : Nat) : Nat := 0x41300000 + n * 0x100
/-- SAP.FMT (R707). -/
def R.SAP_FMT (n : Nat) : Nat := 0x41300000 + n * 0x100 + 0x4
/-- SAP.DIV (R706). -/
def R.SAP_DIV (n : Nat) : Nat := 0x41300000 + n * 0x100 + 0x8
/-- SAP.ROUTE (R708). -/
def R.SAP_ROUTE (n : Nat) : Nat := 0x41300000 + n * 0x100 + 0xc
/-- SAP.SLOT_MASK (R710). -/
def R.SAP_SLOT_MASK (n : Nat) : Nat := 0x41300000 + n * 0x100 + 0x10
/-- SAP.BIND (R710). -/
def R.SAP_BIND (n : Nat) : Nat := 0x41300000 + n * 0x100 + 0x14
/-- SAP.BIND_RX (R710). -/
def R.SAP_BIND_RX (n : Nat) : Nat := 0x41300000 + n * 0x100 + 0x18
/-- SAP.LATENCY (R710). -/
def R.SAP_LATENCY (n : Nat) : Nat := 0x41300000 + n * 0x100 + 0x1c
/-- SAP.ZC (R710). -/
def R.SAP_ZC (n : Nat) : Nat := 0x41300000 + n * 0x100 + 0x20
/-- SAP.TX_BASE_LO (R710). -/
def R.SAP_TX_BASE_LO (n : Nat) : Nat := 0x41300000 + n * 0x100 + 0x24
/-- SAP.TX_BASE_HI (R710). -/
def R.SAP_TX_BASE_HI (n : Nat) : Nat := 0x41300000 + n * 0x100 + 0x28
/-- SAP.TX_RING (R710). -/
def R.SAP_TX_RING (n : Nat) : Nat := 0x41300000 + n * 0x100 + 0x2c
/-- SAP.TX_WR (R706). -/
def R.SAP_TX_WR (n : Nat) : Nat := 0x41300000 + n * 0x100 + 0x30
/-- SAP.TX_RD (R706). -/
def R.SAP_TX_RD (n : Nat) : Nat := 0x41300000 + n * 0x100 + 0x34
/-- SAP.RX_BASE_LO (R710). -/
def R.SAP_RX_BASE_LO (n : Nat) : Nat := 0x41300000 + n * 0x100 + 0x38
/-- SAP.RX_BASE_HI (R710). -/
def R.SAP_RX_BASE_HI (n : Nat) : Nat := 0x41300000 + n * 0x100 + 0x3c
/-- SAP.RX_RING (R710). -/
def R.SAP_RX_RING (n : Nat) : Nat := 0x41300000 + n * 0x100 + 0x40
/-- SAP.RX_WR (R706). -/
def R.SAP_RX_WR (n : Nat) : Nat := 0x41300000 + n * 0x100 + 0x44
/-- SAP.RX_RD (R706). -/
def R.SAP_RX_RD (n : Nat) : Nat := 0x41300000 + n * 0x100 + 0x48
/-- SAP.PERIOD (R710). -/
def R.SAP_PERIOD (n : Nat) : Nat := 0x41300000 + n * 0x100 + 0x4c
/-- SAP.STAT (R709). -/
def R.SAP_STAT (n : Nat) : Nat := 0x41300000 + n * 0x100 + 0x50
/-- SAP.EVT (R709). -/
def R.SAP_EVT (n : Nat) : Nat := 0x41300000 + n * 0x100 + 0x54
/-- SAP.IRQ_EN (R709). -/
def R.SAP_IRQ_EN (n : Nat) : Nat := 0x41300000 + n * 0x100 + 0x58
/-- SAP.MEAS_FS (R710). -/
def R.SAP_MEAS_FS (n : Nat) : Nat := 0x41300000 + n * 0x100 + 0x5c
/-- SAP.SLIP_REP (R706). -/
def R.SAP_SLIP_REP (n : Nat) : Nat := 0x41300000 + n * 0x100 + 0x60
/-- SAP.SLIP_DROP (R706). -/
def R.SAP_SLIP_DROP (n : Nat) : Nat := 0x41300000 + n * 0x100 + 0x64
/-- SAP.PKT_DROPS (R706). -/
def R.SAP_PKT_DROPS (n : Nat) : Nat := 0x41300000 + n * 0x100 + 0x68
/-- SAP.FRAME_ERR (R706). -/
def R.SAP_FRAME_ERR (n : Nat) : Nat := 0x41300000 + n * 0x100 + 0x6c
/-- SAP.MASK_POS (R706). -/
def R.SAP_MASK_POS (n : Nat) : Nat := 0x41300000 + n * 0x100 + 0x70
/-- AUDG.PLL_CFG (R710). -/
def R.AUDG_PLL_CFG : Nat := 0x41380000
/-- AUDG.PLL_ADJ (R710). -/
def R.AUDG_PLL_ADJ : Nat := 0x41380000 + 0x4
/-- AUDG.GEVT (R710). -/
def R.AUDG_GEVT : Nat := 0x41380000 + 0x8
/-- TCH.CTRL (R729). -/
def R.TCH_CTRL (n : Nat) : Nat := 0x41400000 + n * 0x1000
/-- TCH.CFG (R726). -/
def R.TCH_CFG (n : Nat) : Nat := 0x41400000 + n * 0x1000 + 0x4
/-- TCH.SCAN (R729). -/
def R.TCH_SCAN (n : Nat) : Nat := 0x41400000 + n * 0x1000 + 0x8
/-- TCH.THRESH (R729). -/
def R.TCH_THRESH (n : Nat) : Nat := 0x41400000 + n * 0x1000 + 0xc
/-- TCH.FILTER (R726). -/
def R.TCH_FILTER (n : Nat) : Nat := 0x41400000 + n * 0x1000 + 0x10
/-- TCH.MAX_TOUCH (R729). -/
def R.TCH_MAX_TOUCH (n : Nat) : Nat := 0x41400000 + n * 0x1000 + 0x14
/-- TCH.CH_EN_LO (R725). -/
def R.TCH_CH_EN_LO (n : Nat) : Nat := 0x41400000 + n * 0x1000 + 0x18
/-- TCH.CH_EN_HI (R725). -/
def R.TCH_CH_EN_HI (n : Nat) : Nat := 0x41400000 + n * 0x1000 + 0x1c
/-- TCH.STAT (R727). -/
def R.TCH_STAT (n : Nat) : Nat := 0x41400000 + n * 0x1000 + 0x20
/-- TCH.EVT (R727). -/
def R.TCH_EVT (n : Nat) : Nat := 0x41400000 + n * 0x1000 + 0x24
/-- TCH.IRQ_EN (R727). -/
def R.TCH_IRQ_EN (n : Nat) : Nat := 0x41400000 + n * 0x1000 + 0x28
/-- TCH.TOUCHED_LO (R722). -/
def R.TCH_TOUCHED_LO (n : Nat) : Nat := 0x41400000 + n * 0x1000 + 0x2c
/-- TCH.TOUCHED_HI (R722). -/
def R.TCH_TOUCHED_HI (n : Nat) : Nat := 0x41400000 + n * 0x1000 + 0x30
/-- TCH.Q_BASE_LO (R729). -/
def R.TCH_Q_BASE_LO (n : Nat) : Nat := 0x41400000 + n * 0x1000 + 0x34
/-- TCH.Q_BASE_HI (R729). -/
def R.TCH_Q_BASE_HI (n : Nat) : Nat := 0x41400000 + n * 0x1000 + 0x38
/-- TCH.Q_CFG (R729). -/
def R.TCH_Q_CFG (n : Nat) : Nat := 0x41400000 + n * 0x1000 + 0x3c
/-- TCH.Q_WR (R729). -/
def R.TCH_Q_WR (n : Nat) : Nat := 0x41400000 + n * 0x1000 + 0x40
/-- TCH.Q_RD (R729). -/
def R.TCH_Q_RD (n : Nat) : Nat := 0x41400000 + n * 0x1000 + 0x44
/-- TCH.Q_DROPS (R729). -/
def R.TCH_Q_DROPS (n : Nat) : Nat := 0x41400000 + n * 0x1000 + 0x48
/-- TCH.SCANS (R729). -/
def R.TCH_SCANS (n : Nat) : Nat := 0x41400000 + n * 0x1000 + 0x4c
/-- TCHC.COMP (R729). -/
def R.TCHC_COMP (n m : Nat) : Nat := 0x41400400 + n * 0x1000 + m * 0x10
/-- TCHC.RAW (R729). -/
def R.TCHC_RAW (n m : Nat) : Nat := 0x41400400 + n * 0x1000 + m * 0x10 + 0x4
/-- TCHC.BASE (R729). -/
def R.TCHC_BASE (n m : Nat) : Nat := 0x41400400 + n * 0x1000 + m * 0x10 + 0x8
/-- TCHC.STAT (R728). -/
def R.TCHC_STAT (n m : Nat) : Nat := 0x41400400 + n * 0x1000 + m * 0x10 + 0xc
/-- THERM.STATUS (R751). -/
def R.THERM_STATUS : Nat := 0x41500000
/-- THERM.CTRL (R754). -/
def R.THERM_CTRL : Nat := 0x41500000 + 0x4
/-- THERM.EVT (R752). -/
def R.THERM_EVT : Nat := 0x41500000 + 0x8
/-- THERM.IRQ_EN (R752). -/
def R.THERM_IRQ_EN : Nat := 0x41500000 + 0xc
/-- THERM.TJ (R754). -/
def R.THERM_TJ : Nat := 0x41500000 + 0x10
/-- THERM.TJ_PEAK (R754). -/
def R.THERM_TJ_PEAK : Nat := 0x41500000 + 0x14
/-- THERM.PRED_TRIP (R754). -/
def R.THERM_PRED_TRIP : Nat := 0x41500000 + 0x18
/-- THERM.BOUNDARY (R754). -/
def R.THERM_BOUNDARY : Nat := 0x41500000 + 0x1c
/-- THERM.BND_CFG (R753). -/
def R.THERM_BND_CFG : Nat := 0x41500000 + 0x20
/-- THERM.BND_CONST (R754). -/
def R.THERM_BND_CONST : Nat := 0x41500000 + 0x24
/-- THERM.BND_FAILS (R754). -/
def R.THERM_BND_FAILS : Nat := 0x41500000 + 0x28
/-- THERM.BELOW_MS (R754). -/
def R.THERM_BELOW_MS : Nat := 0x41500000 + 0x2c
/-- THERM.THROTTLES (R754). -/
def R.THERM_THROTTLES : Nat := 0x41500000 + 0x30
/-- THERM.DOM_PWR (R754). -/
def R.THERM_DOM_PWR (i : Nat) : Nat := 0x41500000 + 0x40 + i * 4
/-- THERM.NODE_T (R754). -/
def R.THERM_NODE_T (i : Nat) : Nat := 0x41500000 + 0x80 + i * 4
/-- SEC.STATUS (R773). -/
def R.SEC_STATUS : Nat := 0x41600000
/-- SEC.MB_CMD (R775). -/
def R.SEC_MB_CMD : Nat := 0x41600000 + 0x4
/-- SEC.MB_STAT (R774). -/
def R.SEC_MB_STAT : Nat := 0x41600000 + 0x8
/-- SEC.MB_MASTER (R775). -/
def R.SEC_MB_MASTER : Nat := 0x41600000 + 0xc
/-- SEC.MB_BUF_LO (R775). -/
def R.SEC_MB_BUF_LO : Nat := 0x41600000 + 0x10
/-- SEC.MB_BUF_HI (R775). -/
def R.SEC_MB_BUF_HI : Nat := 0x41600000 + 0x14
/-- SEC.EVT (R774). -/
def R.SEC_EVT : Nat := 0x41600000 + 0x18
/-- SEC.IRQ_EN (R774). -/
def R.SEC_IRQ_EN : Nat := 0x41600000 + 0x1c
/-- SEC.PLAN_FLOOR (R775). -/
def R.SEC_PLAN_FLOOR : Nat := 0x41600000 + 0x20
/-- SEC.ID_HASH (R758). -/
def R.SEC_ID_HASH (i : Nat) : Nat := 0x41600000 + 0x40 + i * 4
/-- SEC.MB_DATA (R772). -/
def R.SEC_MB_DATA (i : Nat) : Nat := 0x41600000 + 0x80 + i * 4
/-- CLKRST.CAUSE (R796). -/
def R.CLKRST_CAUSE : Nat := 0x41700000
/-- CLKRST.RESET_CNT (R800). -/
def R.CLKRST_RESET_CNT : Nat := 0x41700000 + 0x4
/-- CLKRST.STAT (R797). -/
def R.CLKRST_STAT : Nat := 0x41700000 + 0x8
/-- CLKRST.EVT (R797). -/
def R.CLKRST_EVT : Nat := 0x41700000 + 0xc
/-- CLKRST.IRQ_EN (R797). -/
def R.CLKRST_IRQ_EN : Nat := 0x41700000 + 0x10
/-- CLKRST.SWRST (R800). -/
def R.CLKRST_SWRST : Nat := 0x41700000 + 0x14
/-- CLKRST.WDOG_CFG (R798). -/
def R.CLKRST_WDOG_CFG : Nat := 0x41700000 + 0x18
/-- CLKRST.WDOG_KICK (R798). -/
def R.CLKRST_WDOG_KICK : Nat := 0x41700000 + 0x1c
/-- CLKRST.WDOG_LEFT (R800). -/
def R.CLKRST_WDOG_LEFT : Nat := 0x41700000 + 0x20
/-- CLKRST.BOOT_CTRL (R800). -/
def R.CLKRST_BOOT_CTRL : Nat := 0x41700000 + 0x30
/-- CLKRST.BOOT_ADDR_LO (R800). -/
def R.CLKRST_BOOT_ADDR_LO : Nat := 0x41700000 + 0x34
/-- CLKRST.BOOT_ADDR_HI (R800). -/
def R.CLKRST_BOOT_ADDR_HI : Nat := 0x41700000 + 0x38
/-- CLKRST.BOOT_STAT (R800). -/
def R.CLKRST_BOOT_STAT : Nat := 0x41700000 + 0x3c
/-- CC.CTRL (R799). -/
def R.CC_CTRL (n : Nat) : Nat := 0x41700100 + n * 0x10
/-- CC.BOOT_LO (R800). -/
def R.CC_BOOT_LO (n : Nat) : Nat := 0x41700100 + n * 0x10 + 0x4
/-- CC.BOOT_HI (R800). -/
def R.CC_BOOT_HI (n : Nat) : Nat := 0x41700100 + n * 0x10 + 0x8
/-- CC.STAT (R800). -/
def R.CC_STAT (n : Nat) : Nat := 0x41700100 + n * 0x10 + 0xc
/-- FLT.STAT (R815). -/
def R.FLT_STAT : Nat := 0x41800000
/-- FLT.WR_CNT (R817). -/
def R.FLT_WR_CNT : Nat := 0x41800000 + 0x4
/-- FLT.RD_IDX (R817). -/
def R.FLT_RD_IDX : Nat := 0x41800000 + 0x8
/-- FLT.LOST (R817). -/
def R.FLT_LOST : Nat := 0x41800000 + 0xc
/-- FLT.EVT (R815). -/
def R.FLT_EVT : Nat := 0x41800000 + 0x10
/-- FLT.IRQ_EN (R815). -/
def R.FLT_IRQ_EN : Nat := 0x41800000 + 0x14
/-- FLT.SUPPRESSED (R817). -/
def R.FLT_SUPPRESSED : Nat := 0x41800000 + 0x18
/-- FLT.INJ_REFUSED (R817). -/
def R.FLT_INJ_REFUSED : Nat := 0x41800000 + 0x1c
/-- FLT.DET_CNT (R817). -/
def R.FLT_DET_CNT (i : Nat) : Nat := 0x41800000 + 0x100 + i * 4
/-- FLT.INJ (R816). -/
def R.FLT_INJ (i : Nat) : Nat := 0x41800000 + 0x400 + i * 4
/-- FLT.ENTRY (R814). -/
def R.FLT_ENTRY (i : Nat) : Nat := 0x41800000 + 0x1000 + i * 4
/-- MISC.GPIO_IN (R829). -/
def R.MISC_GPIO_IN : Nat := 0x41900000
/-- MISC.GPIO_OUT (R829). -/
def R.MISC_GPIO_OUT : Nat := 0x41900000 + 0x4
/-- MISC.GPIO_OE (R829). -/
def R.MISC_GPIO_OE : Nat := 0x41900000 + 0x8
/-- MISC.GPIO_TRIG (R829). -/
def R.MISC_GPIO_TRIG (i : Nat) : Nat := 0x41900000 + 0xc + i * 4
/-- MISC.GPIO_QEN (R830). -/
def R.MISC_GPIO_QEN : Nat := 0x41900000 + 0x14
/-- MISC.GQ_BASE_LO (R831). -/
def R.MISC_GQ_BASE_LO : Nat := 0x41900000 + 0x20
/-- MISC.GQ_BASE_HI (R831). -/
def R.MISC_GQ_BASE_HI : Nat := 0x41900000 + 0x24
/-- MISC.GQ_CFG (R831). -/
def R.MISC_GQ_CFG : Nat := 0x41900000 + 0x28
/-- MISC.GQ_WR (R831). -/
def R.MISC_GQ_WR : Nat := 0x41900000 + 0x2c
/-- MISC.GQ_RD (R831). -/
def R.MISC_GQ_RD : Nat := 0x41900000 + 0x30
/-- MISC.GQ_DROPS (R831). -/
def R.MISC_GQ_DROPS : Nat := 0x41900000 + 0x34
/-- MISC.EVT (R831). -/
def R.MISC_EVT : Nat := 0x41900000 + 0x38
/-- MISC.IRQ_EN (R831). -/
def R.MISC_IRQ_EN : Nat := 0x41900000 + 0x3c
/-- MISC.SCRATCH (R831). -/
def R.MISC_SCRATCH (i : Nat) : Nat := 0x41900000 + 0x40 + i * 4
/-- MISC.QSPI_STAT (R831). -/
def R.MISC_QSPI_STAT : Nat := 0x41900000 + 0x50
/-- MISC.QSPI_ID (R831). -/
def R.MISC_QSPI_ID : Nat := 0x41900000 + 0x54
/-- I2C.CFG (R832). -/
def R.I2C_CFG (n : Nat) : Nat := 0x41900100 + n * 0x40
/-- I2C.CMD (R832). -/
def R.I2C_CMD (n : Nat) : Nat := 0x41900100 + n * 0x40 + 0x4
/-- I2C.STAT (R832). -/
def R.I2C_STAT (n : Nat) : Nat := 0x41900100 + n * 0x40 + 0x8
/-- I2C.DATA (R832). -/
def R.I2C_DATA (n i : Nat) : Nat := 0x41900100 + n * 0x40 + 0x10 + i * 4
/-- SH.SHELL_ID (R835). -/
def R.SH_SHELL_ID (b : Nat) : Nat := b
/-- SH.CAL_CTRL (R836). -/
def R.SH_CAL_CTRL (b : Nat) : Nat := b + 0x4
/-- SH.CAL_STAT (R836). -/
def R.SH_CAL_STAT (b : Nat) : Nat := b + 0x8
/-- SH.TRIM (R835). -/
def R.SH_TRIM (b i : Nat) : Nat := b + 0x10 + i * 4
/-- SH.HEALTH (R837). -/
def R.SH_HEALTH (b : Nat) : Nat := b + 0x40
/-- SH.INJ (R838). -/
def R.SH_INJ (b : Nat) : Nat := b + 0x44

/-! The fields. -/

def F.SYS_SIG_SIG : Fld := ⟨R.SYS_SIG, 31, 0⟩
def F.SYS_VARIANT_DIE_CODE : Fld := ⟨R.SYS_VARIANT, 31, 24⟩
def F.SYS_VARIANT_PKG : Fld := ⟨R.SYS_VARIANT, 23, 20⟩
def F.SYS_VARIANT_STEP : Fld := ⟨R.SYS_VARIANT, 19, 16⟩
def F.SYS_VARIANT_PART_CODE : Fld := ⟨R.SYS_VARIANT, 15, 8⟩
def F.SYS_CAPS0_HEADS : Fld := ⟨R.SYS_CAPS0, 31, 26⟩
def F.SYS_CAPS0_DEC_CORES : Fld := ⟨R.SYS_CAPS0, 25, 21⟩
def F.SYS_CAPS0_ENC_CORES : Fld := ⟨R.SYS_CAPS0, 20, 17⟩
def F.SYS_CAPS0_SNK_PORTS : Fld := ⟨R.SYS_CAPS0, 16, 13⟩
def F.SYS_CAPS0_ETH_PORTS : Fld := ⟨R.SYS_CAPS0, 12, 9⟩
def F.SYS_CAPS0_LANES : Fld := ⟨R.SYS_CAPS0, 8, 2⟩
def F.SYS_CAPS1_TIME_BASES : Fld := ⟨R.SYS_CAPS1, 31, 28⟩
def F.SYS_CAPS1_TWIN : Fld := ⟨R.SYS_CAPS1, 27, 27⟩
def F.SYS_CAPS1_TOUCH_CH : Fld := ⟨R.SYS_CAPS1, 26, 18⟩
def F.SYS_CAPS1_PIPES : Fld := ⟨R.SYS_CAPS1, 17, 12⟩
def F.SYS_CAPS1_SCALERS : Fld := ⟨R.SYS_CAPS1, 11, 5⟩
def F.SYS_CAPS1_SRC_PORTS : Fld := ⟨R.SYS_CAPS1, 4, 0⟩
def F.SYS_CAPS2_STALLS_MAX : Fld := ⟨R.SYS_CAPS2, 31, 28⟩
def F.SYS_CAPS2_CTRL_CORES : Fld := ⟨R.SYS_CAPS2, 27, 24⟩
def F.SYS_CAPS2_CVES : Fld := ⟨R.SYS_CAPS2, 23, 20⟩
def F.SYS_CAPS2_SAPS : Fld := ⟨R.SYS_CAPS2, 19, 16⟩
def F.SYS_CAPS2_HBM_GIB : Fld := ⟨R.SYS_CAPS2, 15, 8⟩
def F.SYS_CAPS2_HBM_CHANNELS : Fld := ⟨R.SYS_CAPS2, 7, 3⟩
def F.SYS_CAPS3_IRQ_SOURCES : Fld := ⟨R.SYS_CAPS3, 31, 16⟩
def F.SYS_CAPS3_IRQ_TARGETS : Fld := ⟨R.SYS_CAPS3, 15, 12⟩
def F.SYS_CAPS3_ARCH_MAJOR : Fld := ⟨R.SYS_CAPS3, 11, 8⟩
def F.SYS_CAPS3_ARCH_MINOR : Fld := ⟨R.SYS_CAPS3, 7, 4⟩
def F.SYS_DB_SET_DOORBELL : Fld := ⟨R.SYS_DB_SET, 15, 0⟩
def F.SYS_DB_CLR_DOORBELL : Fld := ⟨R.SYS_DB_CLR, 15, 0⟩
def F.SYS_DB_EN_EN : Fld := ⟨R.SYS_DB_EN, 15, 0⟩
def F.SYS_IRQ_SUM_MISC : Fld := ⟨R.SYS_IRQ_SUM, 1, 1⟩
def F.SYS_IRQ_SUM_DB : Fld := ⟨R.SYS_IRQ_SUM, 0, 0⟩
def F.PLAN_STATUS_CODE : Fld := ⟨R.PLAN_STATUS, 23, 16⟩
def F.PLAN_STATUS_PHASE : Fld := ⟨R.PLAN_STATUS, 15, 12⟩
def F.PLAN_STATUS_LOADED_FROM : Fld := ⟨R.PLAN_STATUS, 11, 10⟩
def F.PLAN_STATUS_BUSY : Fld := ⟨R.PLAN_STATUS, 1, 1⟩
def F.PLAN_STATUS_LOADED : Fld := ⟨R.PLAN_STATUS, 0, 0⟩
def F.PLAN_CTRL_KEY : Fld := ⟨R.PLAN_CTRL, 31, 24⟩
def F.PLAN_CTRL_OP : Fld := ⟨R.PLAN_CTRL, 3, 0⟩
def F.PLAN_SRC_ADDR_LO_ADDR : Fld := ⟨R.PLAN_SRC_ADDR_LO, 31, 6⟩
def F.PLAN_SRC_ADDR_HI_ADDR : Fld := ⟨R.PLAN_SRC_ADDR_HI, 7, 0⟩
def F.PLAN_SLOT_INFO_B_WRITABLE : Fld := ⟨R.PLAN_SLOT_INFO, 3, 3⟩
def F.PLAN_SLOT_INFO_A_WRITABLE : Fld := ⟨R.PLAN_SLOT_INFO, 2, 2⟩
def F.PLAN_SLOT_INFO_B_MARK : Fld := ⟨R.PLAN_SLOT_INFO, 1, 1⟩
def F.PLAN_SLOT_INFO_A_MARK : Fld := ⟨R.PLAN_SLOT_INFO, 0, 0⟩
def F.PLAN_GEN_A_GEN : Fld := ⟨R.PLAN_GEN_A, 31, 0⟩
def F.PLAN_GEN_B_GEN : Fld := ⟨R.PLAN_GEN_B, 31, 0⟩
def F.PLAN_LOAD_TIME_US : Fld := ⟨R.PLAN_LOAD_TIME, 31, 0⟩
def F.PLAN_PLAN_ID_ID : Fld := ⟨R.PLAN_PLAN_ID, 31, 0⟩
def F.PLAN_PLAN_SEQ_SEQ : Fld := ⟨R.PLAN_PLAN_SEQ, 31, 0⟩
def F.PLAN_LOCK_HITS_COUNT : Fld := ⟨R.PLAN_LOCK_HITS, 31, 0⟩
def F.PLAN_LOCK_FIRST_VALID : Fld := ⟨R.PLAN_LOCK_FIRST, 31, 31⟩
def F.PLAN_LOCK_FIRST_OFFSET : Fld := ⟨R.PLAN_LOCK_FIRST, 27, 2⟩
def F.PLAN_LOCK_MASTER_MASTER : Fld := ⟨R.PLAN_LOCK_MASTER, 15, 0⟩
def F.PLAN_EVENT_LOCK_HIT : Fld := ⟨R.PLAN_EVENT, 3, 3⟩
def F.PLAN_EVENT_WRITE_DONE : Fld := ⟨R.PLAN_EVENT, 2, 2⟩
def F.PLAN_EVENT_LOAD_FAIL : Fld := ⟨R.PLAN_EVENT, 1, 1⟩
def F.PLAN_EVENT_LOAD_DONE : Fld := ⟨R.PLAN_EVENT, 0, 0⟩
def F.PLAN_IRQ_EN_EN : Fld := ⟨R.PLAN_IRQ_EN, 3, 0⟩
def F.PLAN_HASH_HASH (i : Nat) : Fld := ⟨R.PLAN_HASH i, 31, 0⟩
def F.FRESH_HSTAT_TWO_CH (n : Nat) : Fld := ⟨R.FRESH_HSTAT n, 3, 3⟩
def F.FRESH_HSTAT_CH_OK (n : Nat) : Fld := ⟨R.FRESH_HSTAT n, 2, 0⟩
def F.FRESH_SUMMARY_JUDGED (n : Nat) : Fld := ⟨R.FRESH_SUMMARY n, 23, 16⟩
def F.FRESH_SUMMARY_SHOWN (n : Nat) : Fld := ⟨R.FRESH_SUMMARY n, 15, 0⟩
def F.FRESH_CHANGED_STALL (n : Nat) : Fld := ⟨R.FRESH_CHANGED n, 7, 0⟩
def F.FRESH_IRQ_EN_ATT_EN (n : Nat) : Fld := ⟨R.FRESH_IRQ_EN n, 2, 2⟩
def F.FRESH_IRQ_EN_CHFAIL_EN (n : Nat) : Fld := ⟨R.FRESH_IRQ_EN n, 1, 1⟩
def F.FRESH_IRQ_EN_VCHG_EN (n : Nat) : Fld := ⟨R.FRESH_IRQ_EN n, 0, 0⟩
def F.FRESH_LATCH_CNT_LO_CNT (n : Nat) : Fld := ⟨R.FRESH_LATCH_CNT_LO n, 31, 0⟩
def F.FRESH_LATCH_CNT_HI_CNT (n : Nat) : Fld := ⟨R.FRESH_LATCH_CNT_HI n, 31, 0⟩
def F.FRESH_DISSENT_CNT_CNT (n : Nat) : Fld := ⟨R.FRESH_DISSENT_CNT n, 31, 0⟩
def F.FRESH_ATTEST_CTRL_REQ (n : Nat) : Fld := ⟨R.FRESH_ATTEST_CTRL n, 0, 0⟩
def F.FRESH_ATTEST_NONCE_LO_NONCE (n : Nat) : Fld := ⟨R.FRESH_ATTEST_NONCE_LO n, 31, 0⟩
def F.FRESH_ATTEST_NONCE_HI_NONCE (n : Nat) : Fld := ⟨R.FRESH_ATTEST_NONCE_HI n, 31, 0⟩
def F.FRESH_ATTEST_ADDR_LO_ADDR (n : Nat) : Fld := ⟨R.FRESH_ATTEST_ADDR_LO n, 31, 6⟩
def F.FRESH_ATTEST_ADDR_HI_ADDR (n : Nat) : Fld := ⟨R.FRESH_ATTEST_ADDR_HI n, 7, 0⟩
def F.FRESH_ATTEST_STAT_ERR (n : Nat) : Fld := ⟨R.FRESH_ATTEST_STAT n, 7, 4⟩
def F.FRESH_ATTEST_STAT_REFUSED (n : Nat) : Fld := ⟨R.FRESH_ATTEST_STAT n, 2, 2⟩
def F.FRESH_ATTEST_STAT_DONE (n : Nat) : Fld := ⟨R.FRESH_ATTEST_STAT n, 1, 1⟩
def F.FRESH_ATTEST_STAT_BUSY (n : Nat) : Fld := ⟨R.FRESH_ATTEST_STAT n, 0, 0⟩
def F.FSTALL_CFG_MARK_EN (n m : Nat) : Fld := ⟨R.FSTALL_CFG n m, 3, 3⟩
def F.FSTALL_CFG_MOTION_EXP (n m : Nat) : Fld := ⟨R.FSTALL_CFG n m, 2, 2⟩
def F.FSTALL_CFG_CLASS (n m : Nat) : Fld := ⟨R.FSTALL_CFG n m, 1, 0⟩
def F.FSTALL_BUDGET_BUDGET (n m : Nat) : Fld := ⟨R.FSTALL_BUDGET n m, 19, 0⟩
def F.FSTALL_WINDOWS_HYST (n m : Nat) : Fld := ⟨R.FSTALL_WINDOWS n m, 19, 16⟩
def F.FSTALL_WINDOWS_SIG_WIN (n m : Nat) : Fld := ⟨R.FSTALL_WINDOWS n m, 15, 8⟩
def F.FSTALL_WINDOWS_FREEZE_WIN (n m : Nat) : Fld := ⟨R.FSTALL_WINDOWS n m, 7, 0⟩
def F.FSTALL_STATUS_REASONS (n m : Nat) : Fld := ⟨R.FSTALL_STATUS n m, 28, 16⟩
def F.FSTALL_STATUS_FRESH (n m : Nat) : Fld := ⟨R.FSTALL_STATUS n m, 8, 8⟩
def F.FSTALL_STATUS_HYST_CNT (n m : Nat) : Fld := ⟨R.FSTALL_STATUS n m, 7, 4⟩
def F.FSTALL_STATUS_RAW (n m : Nat) : Fld := ⟨R.FSTALL_STATUS n m, 3, 2⟩
def F.FSTALL_STATUS_SHOWN (n m : Nat) : Fld := ⟨R.FSTALL_STATUS n m, 1, 0⟩
def F.FSTALL_AGE_AGE (n m : Nat) : Fld := ⟨R.FSTALL_AGE n m, 31, 0⟩
def F.FSTALL_COUNTS_SIG_CNT (n m : Nat) : Fld := ⟨R.FSTALL_COUNTS n m, 15, 8⟩
def F.FSTALL_COUNTS_SEQ_CNT (n m : Nat) : Fld := ⟨R.FSTALL_COUNTS n m, 7, 0⟩
def F.FSTALL_STAMP_STAMP (n m i : Nat) : Fld := ⟨R.FSTALL_STAMP n m i, 31, 0⟩
def F.FSTALL_NONLIVE_CNT_CNT (n m : Nat) : Fld := ⟨R.FSTALL_NONLIVE_CNT n m, 31, 0⟩
def F.FSTALL_ALIVE_ERR_CNT_CNT (n m : Nat) : Fld := ⟨R.FSTALL_ALIVE_ERR_CNT n m, 15, 0⟩
def F.FRESHG_PEND_HEADS : Fld := ⟨R.FRESHG_PEND, 31, 0⟩
def F.FRESHG_CH_FAIL_HEADS : Fld := ⟨R.FRESHG_CH_FAIL, 31, 0⟩
def F.AWN_LAYOUT_CLOCK_TB (n : Nat) : Fld := ⟨R.AWN_LAYOUT n, 27, 24⟩
def F.AWN_LAYOUT_HATCH_PITCH (n : Nat) : Fld := ⟨R.AWN_LAYOUT n, 22, 16⟩
def F.AWN_LAYOUT_BORDER_W (n : Nat) : Fld := ⟨R.AWN_LAYOUT n, 12, 8⟩
def F.AWN_LAYOUT_ELEMENTS (n : Nat) : Fld := ⟨R.AWN_LAYOUT n, 2, 0⟩
def F.AWN_AMBER_ARGB (n : Nat) : Fld := ⟨R.AWN_AMBER n, 31, 0⟩
def F.AWN_HATCH_ARGB (n : Nat) : Fld := ⟨R.AWN_HATCH n, 31, 0⟩
def F.AWN_SLATE_ARGB (n : Nat) : Fld := ⟨R.AWN_SLATE n, 31, 0⟩
def F.AWN_BUNDLE_MIN_BUNDLE_VER (n : Nat) : Fld := ⟨R.AWN_BUNDLE n, 31, 16⟩
def F.AWN_BUNDLE_BUNDLE_ID (n : Nat) : Fld := ⟨R.AWN_BUNDLE n, 15, 0⟩
def F.AWN_CLOCK_POS_Y (n : Nat) : Fld := ⟨R.AWN_CLOCK_POS n, 29, 16⟩
def F.AWN_CLOCK_POS_X (n : Nat) : Fld := ⟨R.AWN_CLOCK_POS n, 13, 0⟩
def F.AWN_IND_POS_Y (n : Nat) : Fld := ⟨R.AWN_IND_POS n, 29, 16⟩
def F.AWN_IND_POS_X (n : Nat) : Fld := ⟨R.AWN_IND_POS n, 13, 0⟩
def F.AWN_CLOCK_OFS_OFS (n : Nat) : Fld := ⟨R.AWN_CLOCK_OFS n, 31, 0⟩
def F.AWN_STAT_BUNDLE_VER (n : Nat) : Fld := ⟨R.AWN_STAT n, 31, 16⟩
def F.AWN_STAT_TIME_VARYING (n : Nat) : Fld := ⟨R.AWN_STAT n, 6, 6⟩
def F.AWN_STAT_ROM_SET (n : Nat) : Fld := ⟨R.AWN_STAT n, 5, 5⟩
def F.AWN_STAT_TWO_CH (n : Nat) : Fld := ⟨R.AWN_STAT n, 4, 4⟩
def F.AWN_STAT_CH_OK (n : Nat) : Fld := ⟨R.AWN_STAT n, 2, 0⟩
def F.AWN_EVT_SPLIT_EV (n : Nat) : Fld := ⟨R.AWN_EVT n, 3, 3⟩
def F.AWN_EVT_BUNDLE_EV (n : Nat) : Fld := ⟨R.AWN_EVT n, 2, 2⟩
def F.AWN_EVT_CHFAIL_EV (n : Nat) : Fld := ⟨R.AWN_EVT n, 1, 1⟩
def F.AWN_EVT_DISSENT_EV (n : Nat) : Fld := ⟨R.AWN_EVT n, 0, 0⟩
def F.AWN_IRQ_EN_EN (n : Nat) : Fld := ⟨R.AWN_IRQ_EN n, 3, 0⟩
def F.AWN_DISSENT_CNT_CNT (n : Nat) : Fld := ⟨R.AWN_DISSENT_CNT n, 31, 0⟩
def F.AWN_CHECKS_CNT (n : Nat) : Fld := ⟨R.AWN_CHECKS n, 31, 0⟩
def F.AWN_LAST_CHECK_R7 (n : Nat) : Fld := ⟨R.AWN_LAST_CHECK n, 15, 8⟩
def F.AWN_LAST_CHECK_R6 (n : Nat) : Fld := ⟨R.AWN_LAST_CHECK n, 7, 0⟩
def F.AWNG_BUNDLE_CTRL_KEY : Fld := ⟨R.AWNG_BUNDLE_CTRL, 31, 24⟩
def F.AWNG_BUNDLE_CTRL_OP : Fld := ⟨R.AWNG_BUNDLE_CTRL, 3, 0⟩
def F.AWNG_BUNDLE_SRC_LO_ADDR : Fld := ⟨R.AWNG_BUNDLE_SRC_LO, 31, 6⟩
def F.AWNG_BUNDLE_SRC_HI_ADDR : Fld := ⟨R.AWNG_BUNDLE_SRC_HI, 7, 0⟩
def F.AWNG_BUNDLE_STAT_CODE : Fld := ⟨R.AWNG_BUNDLE_STAT, 23, 16⟩
def F.AWNG_BUNDLE_STAT_FAIL : Fld := ⟨R.AWNG_BUNDLE_STAT, 2, 2⟩
def F.AWNG_BUNDLE_STAT_DONE : Fld := ⟨R.AWNG_BUNDLE_STAT, 1, 1⟩
def F.AWNG_BUNDLE_STAT_BUSY : Fld := ⟨R.AWNG_BUNDLE_STAT, 0, 0⟩
def F.AWNG_REGION_VERSION (i : Nat) : Fld := ⟨R.AWNG_REGION i, 31, 16⟩
def F.AWNG_REGION_BUNDLE_ID (i : Nat) : Fld := ⟨R.AWNG_REGION i, 15, 0⟩
def F.AWNG_CH_FAIL_HEADS : Fld := ⟨R.AWNG_CH_FAIL, 31, 0⟩
def F.AWNG_PEND_HEADS : Fld := ⟨R.AWNG_PEND, 31, 0⟩
def F.INGRG_STATUS_SIZE : Fld := ⟨R.INGRG_STATUS, 25, 16⟩
def F.INGRG_STATUS_ENABLED : Fld := ⟨R.INGRG_STATUS, 9, 0⟩
def F.INGRG_EVT_ENTRIES (i : Nat) : Fld := ⟨R.INGRG_EVT i, 31, 0⟩
def F.INGRP_RXQ_BASE_LO_ADDR (n : Nat) : Fld := ⟨R.INGRP_RXQ_BASE_LO n, 31, 12⟩
def F.INGRP_RXQ_BASE_HI_ADDR (n : Nat) : Fld := ⟨R.INGRP_RXQ_BASE_HI n, 7, 0⟩
def F.INGRP_TXQ_BASE_LO_ADDR (n : Nat) : Fld := ⟨R.INGRP_TXQ_BASE_LO n, 31, 12⟩
def F.INGRP_TXQ_BASE_HI_ADDR (n : Nat) : Fld := ⟨R.INGRP_TXQ_BASE_HI n, 7, 0⟩
def F.INGRP_QCFG_RXQ_EN (n : Nat) : Fld := ⟨R.INGRP_QCFG n, 31, 31⟩
def F.INGRP_QCFG_TXQ_EN (n : Nat) : Fld := ⟨R.INGRP_QCFG n, 30, 30⟩
def F.INGRP_QCFG_TXQ_LOG2 (n : Nat) : Fld := ⟨R.INGRP_QCFG n, 11, 8⟩
def F.INGRP_QCFG_RXQ_LOG2 (n : Nat) : Fld := ⟨R.INGRP_QCFG n, 3, 0⟩
def F.INGRP_RXQ_WR_IDX (n : Nat) : Fld := ⟨R.INGRP_RXQ_WR n, 15, 0⟩
def F.INGRP_RXQ_RD_IDX (n : Nat) : Fld := ⟨R.INGRP_RXQ_RD n, 15, 0⟩
def F.INGRP_TXQ_WR_IDX (n : Nat) : Fld := ⟨R.INGRP_TXQ_WR n, 15, 0⟩
def F.INGRP_TXQ_RD_IDX (n : Nat) : Fld := ⟨R.INGRP_TXQ_RD n, 15, 0⟩
def F.INGRP_RX_UNMATCHED_CNT (n : Nat) : Fld := ⟨R.INGRP_RX_UNMATCHED n, 31, 0⟩
def F.INGRP_RX_BAD_CNT (n : Nat) : Fld := ⟨R.INGRP_RX_BAD n, 31, 0⟩
def F.INGRP_RX_OVF_CNT (n : Nat) : Fld := ⟨R.INGRP_RX_OVF n, 31, 0⟩
def F.INGR_CTRL_ENABLE (n : Nat) : Fld := ⟨R.INGR_CTRL n, 31, 31⟩
def F.INGR_CTRL_KIND (n : Nat) : Fld := ⟨R.INGR_CTRL n, 27, 24⟩
def F.INGR_CTRL_PAYLOAD (n : Nat) : Fld := ⟨R.INGR_CTRL n, 23, 20⟩
def F.INGR_CTRL_CAP_MODE (n : Nat) : Fld := ⟨R.INGR_CTRL n, 15, 15⟩
def F.INGR_CTRL_SSRC_MATCH (n : Nat) : Fld := ⟨R.INGR_CTRL n, 14, 14⟩
def F.INGR_CTRL_SRC_MATCH (n : Nat) : Fld := ⟨R.INGR_CTRL n, 13, 13⟩
def F.INGR_CTRL_IPV6 (n : Nat) : Fld := ⟨R.INGR_CTRL n, 12, 12⟩
def F.INGR_CTRL_VLAN_MATCH (n : Nat) : Fld := ⟨R.INGR_CTRL n, 11, 11⟩
def F.INGR_MATCH_VLAN_ID (n : Nat) : Fld := ⟨R.INGR_MATCH n, 27, 16⟩
def F.INGR_MATCH_UNIT (n : Nat) : Fld := ⟨R.INGR_MATCH n, 11, 8⟩
def F.INGR_MATCH_PT (n : Nat) : Fld := ⟨R.INGR_MATCH n, 6, 0⟩
def F.INGR_UDP_PORT (n : Nat) : Fld := ⟨R.INGR_UDP n, 15, 0⟩
def F.INGR_SSRC_SSRC (n : Nat) : Fld := ⟨R.INGR_SSRC n, 31, 0⟩
def F.INGR_DST_ADDR_ADDR (n i : Nat) : Fld := ⟨R.INGR_DST_ADDR n i, 31, 0⟩
def F.INGR_SRC_ADDR_ADDR (n : Nat) : Fld := ⟨R.INGR_SRC_ADDR n, 31, 0⟩
def F.INGR_IDENT_SOURCE_ID (n : Nat) : Fld := ⟨R.INGR_IDENT n, 27, 16⟩
def F.INGR_IDENT_TB (n : Nat) : Fld := ⟨R.INGR_IDENT n, 3, 0⟩
def F.INGR_TIMING_CLK_RATE (n : Nat) : Fld := ⟨R.INGR_TIMING n, 17, 16⟩
def F.INGR_TIMING_TIMEOUT (n : Nat) : Fld := ⟨R.INGR_TIMING n, 15, 0⟩
def F.INGR_ARR_OFFSET_US (n : Nat) : Fld := ⟨R.INGR_ARR_OFFSET n, 23, 0⟩
def F.INGR_TS_OFFSET_OFS (n : Nat) : Fld := ⟨R.INGR_TS_OFFSET n, 31, 0⟩
def F.INGR_PICTURE_FORMAT (n : Nat) : Fld := ⟨R.INGR_PICTURE n, 31, 28⟩
def F.INGR_PICTURE_HEIGHT (n : Nat) : Fld := ⟨R.INGR_PICTURE n, 27, 14⟩
def F.INGR_PICTURE_WIDTH (n : Nat) : Fld := ⟨R.INGR_PICTURE n, 13, 0⟩
def F.INGR_DESC_BASE_LO_ADDR (n : Nat) : Fld := ⟨R.INGR_DESC_BASE_LO n, 31, 12⟩
def F.INGR_DESC_BASE_HI_ADDR (n : Nat) : Fld := ⟨R.INGR_DESC_BASE_HI n, 7, 0⟩
def F.INGR_DATA_BASE_LO_ADDR (n : Nat) : Fld := ⟨R.INGR_DATA_BASE_LO n, 31, 12⟩
def F.INGR_DATA_BASE_HI_ADDR (n : Nat) : Fld := ⟨R.INGR_DATA_BASE_HI n, 7, 0⟩
def F.INGR_RING_BUF_PAGES (n : Nat) : Fld := ⟨R.INGR_RING n, 31, 16⟩
def F.INGR_RING_DATA_LOG2 (n : Nat) : Fld := ⟨R.INGR_RING n, 12, 8⟩
def F.INGR_RING_DESC_LOG2 (n : Nat) : Fld := ⟨R.INGR_RING n, 3, 0⟩
def F.INGR_WR_IDX_IDX (n : Nat) : Fld := ⟨R.INGR_WR_IDX n, 15, 0⟩
def F.INGR_RD_IDX_IDX (n : Nat) : Fld := ⟨R.INGR_RD_IDX n, 15, 0⟩
def F.INGR_STAT_SILENT (n : Nat) : Fld := ⟨R.INGR_STAT n, 8, 8⟩
def F.INGR_STAT_ACTIVE (n : Nat) : Fld := ⟨R.INGR_STAT n, 7, 7⟩
def F.INGR_STAT_CFG_REJ (n : Nat) : Fld := ⟨R.INGR_STAT n, 4, 4⟩
def F.INGR_STAT_DROP_EV (n : Nat) : Fld := ⟨R.INGR_STAT n, 3, 3⟩
def F.INGR_STAT_SSRC_EV (n : Nat) : Fld := ⟨R.INGR_STAT n, 2, 2⟩
def F.INGR_STAT_RESUME_EV (n : Nat) : Fld := ⟨R.INGR_STAT n, 1, 1⟩
def F.INGR_STAT_TIMEOUT_EV (n : Nat) : Fld := ⟨R.INGR_STAT n, 0, 0⟩
def F.INGR_IRQ_EN_EN (n : Nat) : Fld := ⟨R.INGR_IRQ_EN n, 4, 0⟩
def F.INGR_FRAMES_CNT (n : Nat) : Fld := ⟨R.INGR_FRAMES n, 31, 0⟩
def F.INGR_LOST_PKTS_CNT (n : Nat) : Fld := ⟨R.INGR_LOST_PKTS n, 31, 0⟩
def F.INGR_DROPS_CNT (n : Nat) : Fld := ⟨R.INGR_DROPS n, 31, 0⟩
def F.INGR_LATE_CNT (n : Nat) : Fld := ⟨R.INGR_LATE n, 31, 0⟩
def F.INGR_LAST_ALIVE (n : Nat) : Fld := ⟨R.INGR_LAST n, 27, 24⟩
def F.INGR_LAST_SEQ (n : Nat) : Fld := ⟨R.INGR_LAST n, 23, 0⟩
def F.DECG_STATUS_SIZE : Fld := ⟨R.DECG_STATUS, 25, 16⟩
def F.DECG_STATUS_ENABLED : Fld := ⟨R.DECG_STATUS, 9, 0⟩
def F.DECG_EVT_CTXS (i : Nat) : Fld := ⟨R.DECG_EVT i, 31, 0⟩
def F.DECK_STAT_BUSY (n : Nat) : Fld := ⟨R.DECK_STAT n, 5, 5⟩
def F.DECK_STAT_IN_USE (n : Nat) : Fld := ⟨R.DECK_STAT n, 4, 4⟩
def F.DECK_STAT_GROUP (n : Nat) : Fld := ⟨R.DECK_STAT n, 3, 0⟩
def F.DECK_UNITS_CNT (n : Nat) : Fld := ⟨R.DECK_UNITS n, 31, 0⟩
def F.DECK_BUSY_CNT (n : Nat) : Fld := ⟨R.DECK_BUSY n, 31, 0⟩
def F.DECK_WDOG_CNT_CNT (n : Nat) : Fld := ⟨R.DECK_WDOG_CNT n, 31, 0⟩
def F.DEC_CTRL_ENABLE (n : Nat) : Fld := ⟨R.DEC_CTRL n, 31, 31⟩
def F.DEC_CTRL_GROUP (n : Nat) : Fld := ⟨R.DEC_CTRL n, 27, 24⟩
def F.DEC_CTRL_PRIO (n : Nat) : Fld := ⟨R.DEC_CTRL n, 23, 22⟩
def F.DEC_CTRL_OUT_LOG2 (n : Nat) : Fld := ⟨R.DEC_CTRL n, 18, 16⟩
def F.DEC_CTRL_OUT_FMT (n : Nat) : Fld := ⟨R.DEC_CTRL n, 8, 8⟩
def F.DEC_CTRL_AUTO_KEYREQ (n : Nat) : Fld := ⟨R.DEC_CTRL n, 7, 7⟩
def F.DEC_CTRL_CATCHUP (n : Nat) : Fld := ⟨R.DEC_CTRL n, 6, 6⟩
def F.DEC_CTRL_START_MODE (n : Nat) : Fld := ⟨R.DEC_CTRL n, 5, 5⟩
def F.DEC_CTRL_INPUT (n : Nat) : Fld := ⟨R.DEC_CTRL n, 4, 4⟩
def F.DEC_CTRL_CODEC (n : Nat) : Fld := ⟨R.DEC_CTRL n, 1, 0⟩
def F.DEC_SRC_ENTRY (n : Nat) : Fld := ⟨R.DEC_SRC n, 8, 0⟩
def F.DEC_LIMITS_TEN_BIT (n : Nat) : Fld := ⟨R.DEC_LIMITS n, 28, 28⟩
def F.DEC_LIMITS_HEIGHT (n : Nat) : Fld := ⟨R.DEC_LIMITS n, 27, 14⟩
def F.DEC_LIMITS_WIDTH (n : Nat) : Fld := ⟨R.DEC_LIMITS n, 13, 0⟩
def F.DEC_POOL_BUF_PAGES (n : Nat) : Fld := ⟨R.DEC_POOL n, 31, 16⟩
def F.DEC_POOL_POOL_COUNT (n : Nat) : Fld := ⟨R.DEC_POOL n, 6, 0⟩
def F.DEC_POOL_BASE_LO_ADDR (n : Nat) : Fld := ⟨R.DEC_POOL_BASE_LO n, 31, 12⟩
def F.DEC_POOL_BASE_HI_ADDR (n : Nat) : Fld := ⟨R.DEC_POOL_BASE_HI n, 7, 0⟩
def F.DEC_POOL_NEED_PAGES (n : Nat) : Fld := ⟨R.DEC_POOL_NEED n, 15, 0⟩
def F.DEC_CMD_RING_DATA_LOG2 (n : Nat) : Fld := ⟨R.DEC_CMD_RING n, 12, 8⟩
def F.DEC_CMD_RING_DESC_LOG2 (n : Nat) : Fld := ⟨R.DEC_CMD_RING n, 3, 0⟩
def F.DEC_CMD_BASE_LO_ADDR (n : Nat) : Fld := ⟨R.DEC_CMD_BASE_LO n, 31, 12⟩
def F.DEC_CMD_BASE_HI_ADDR (n : Nat) : Fld := ⟨R.DEC_CMD_BASE_HI n, 7, 0⟩
def F.DEC_CMD_DATA_LO_ADDR (n : Nat) : Fld := ⟨R.DEC_CMD_DATA_LO n, 31, 12⟩
def F.DEC_CMD_DATA_HI_ADDR (n : Nat) : Fld := ⟨R.DEC_CMD_DATA_HI n, 7, 0⟩
def F.DEC_CMD_WR_IDX_IDX (n : Nat) : Fld := ⟨R.DEC_CMD_WR_IDX n, 15, 0⟩
def F.DEC_CMD_RD_IDX_IDX (n : Nat) : Fld := ⟨R.DEC_CMD_RD_IDX n, 15, 0⟩
def F.DEC_OUT_BASE_LO_ADDR (n : Nat) : Fld := ⟨R.DEC_OUT_BASE_LO n, 31, 12⟩
def F.DEC_OUT_BASE_HI_ADDR (n : Nat) : Fld := ⟨R.DEC_OUT_BASE_HI n, 7, 0⟩
def F.DEC_OUT_WR_IDX_IDX (n : Nat) : Fld := ⟨R.DEC_OUT_WR_IDX n, 15, 0⟩
def F.DEC_OUT_RD_IDX_IDX (n : Nat) : Fld := ⟨R.DEC_OUT_RD_IDX n, 15, 0⟩
def F.DEC_STAT_ERR (n : Nat) : Fld := ⟨R.DEC_STAT n, 31, 28⟩
def F.DEC_STAT_WAIT_IRAP (n : Nat) : Fld := ⟨R.DEC_STAT n, 10, 10⟩
def F.DEC_STAT_HALTED (n : Nat) : Fld := ⟨R.DEC_STAT n, 9, 9⟩
def F.DEC_STAT_ACTIVE (n : Nat) : Fld := ⟨R.DEC_STAT n, 8, 8⟩
def F.DEC_STAT_CFG_REJ (n : Nat) : Fld := ⟨R.DEC_STAT n, 5, 5⟩
def F.DEC_STAT_SKIP_EV (n : Nat) : Fld := ⟨R.DEC_STAT n, 4, 4⟩
def F.DEC_STAT_POOL_EV (n : Nat) : Fld := ⟨R.DEC_STAT n, 3, 3⟩
def F.DEC_STAT_KEYREQ_EV (n : Nat) : Fld := ⟨R.DEC_STAT n, 2, 2⟩
def F.DEC_STAT_CONCEAL_EV (n : Nat) : Fld := ⟨R.DEC_STAT n, 1, 1⟩
def F.DEC_STAT_ERR_EV (n : Nat) : Fld := ⟨R.DEC_STAT n, 0, 0⟩
def F.DEC_IRQ_EN_EN (n : Nat) : Fld := ⟨R.DEC_IRQ_EN n, 5, 0⟩
def F.DEC_KEYREQ_REQ (n : Nat) : Fld := ⟨R.DEC_KEYREQ n, 31, 31⟩
def F.DEC_KEYREQ_HOLD (n : Nat) : Fld := ⟨R.DEC_KEYREQ n, 15, 0⟩
def F.DEC_STREAM_INFO_TIER (n : Nat) : Fld := ⟨R.DEC_STREAM_INFO n, 20, 20⟩
def F.DEC_STREAM_INFO_DEPTH (n : Nat) : Fld := ⟨R.DEC_STREAM_INFO n, 19, 16⟩
def F.DEC_STREAM_INFO_LEVEL (n : Nat) : Fld := ⟨R.DEC_STREAM_INFO n, 15, 8⟩
def F.DEC_STREAM_INFO_PROFILE (n : Nat) : Fld := ⟨R.DEC_STREAM_INFO n, 7, 0⟩
def F.DEC_PICS_CNT (n : Nat) : Fld := ⟨R.DEC_PICS n, 31, 0⟩
def F.DEC_CONCEALED_CNT_CNT (n : Nat) : Fld := ⟨R.DEC_CONCEALED_CNT n, 31, 0⟩
def F.DEC_DEGRADED_CNT_CNT (n : Nat) : Fld := ⟨R.DEC_DEGRADED_CNT n, 31, 0⟩
def F.DEC_ERR_SLICES_CNT (n : Nat) : Fld := ⟨R.DEC_ERR_SLICES n, 31, 0⟩
def F.DEC_DISCARDS_CNT (n : Nat) : Fld := ⟨R.DEC_DISCARDS n, 31, 0⟩
def F.DEC_SKIPPED_CNT (n : Nat) : Fld := ⟨R.DEC_SKIPPED n, 31, 0⟩
def F.DEC_POOL_WAITS_CNT (n : Nat) : Fld := ⟨R.DEC_POOL_WAITS n, 31, 0⟩
def F.DEC_KEYREQ_CNT_CNT (n : Nat) : Fld := ⟨R.DEC_KEYREQ_CNT n, 31, 0⟩
def F.ENCG_STATUS_SIZE : Fld := ⟨R.ENCG_STATUS, 25, 16⟩
def F.ENCG_STATUS_ENABLED : Fld := ⟨R.ENCG_STATUS, 9, 0⟩
def F.ENCG_EVT_CTXS (i : Nat) : Fld := ⟨R.ENCG_EVT i, 31, 0⟩
def F.ENCK_STAT_BUSY (n : Nat) : Fld := ⟨R.ENCK_STAT n, 5, 5⟩
def F.ENCK_STAT_IN_USE (n : Nat) : Fld := ⟨R.ENCK_STAT n, 4, 4⟩
def F.ENCK_STAT_GROUP (n : Nat) : Fld := ⟨R.ENCK_STAT n, 3, 0⟩
def F.ENCK_UNITS_CNT (n : Nat) : Fld := ⟨R.ENCK_UNITS n, 31, 0⟩
def F.ENCK_BUSY_CNT (n : Nat) : Fld := ⟨R.ENCK_BUSY n, 31, 0⟩
def F.ENCK_WDOG_CNT_CNT (n : Nat) : Fld := ⟨R.ENCK_WDOG_CNT n, 31, 0⟩
def F.ENC_CTRL_ENABLE (n : Nat) : Fld := ⟨R.ENC_CTRL n, 31, 31⟩
def F.ENC_CTRL_GROUP (n : Nat) : Fld := ⟨R.ENC_CTRL n, 27, 24⟩
def F.ENC_CTRL_PRIO (n : Nat) : Fld := ⟨R.ENC_CTRL n, 23, 22⟩
def F.ENC_CTRL_SPLIT (n : Nat) : Fld := ⟨R.ENC_CTRL n, 13, 12⟩
def F.ENC_CTRL_TEN_BIT (n : Nat) : Fld := ⟨R.ENC_CTRL n, 10, 10⟩
def F.ENC_CTRL_WLK_EN (n : Nat) : Fld := ⟨R.ENC_CTRL n, 9, 9⟩
def F.ENC_CTRL_RC_MODE (n : Nat) : Fld := ⟨R.ENC_CTRL n, 8, 8⟩
def F.ENC_CTRL_SRC_KIND (n : Nat) : Fld := ⟨R.ENC_CTRL n, 5, 4⟩
def F.ENC_CTRL_CODEC (n : Nat) : Fld := ⟨R.ENC_CTRL n, 1, 0⟩
def F.ENC_SRC_IDX (n : Nat) : Fld := ⟨R.ENC_SRC n, 8, 0⟩
def F.ENC_SIZE_HEIGHT (n : Nat) : Fld := ⟨R.ENC_SIZE n, 29, 16⟩
def F.ENC_SIZE_WIDTH (n : Nat) : Fld := ⟨R.ENC_SIZE n, 13, 0⟩
def F.ENC_SPLIT_CFG_SLICES (n : Nat) : Fld := ⟨R.ENC_SPLIT_CFG n, 12, 8⟩
def F.ENC_SPLIT_CFG_TILE_ROWS (n : Nat) : Fld := ⟨R.ENC_SPLIT_CFG n, 7, 4⟩
def F.ENC_SPLIT_CFG_TILE_COLS (n : Nat) : Fld := ⟨R.ENC_SPLIT_CFG n, 3, 0⟩
def F.ENC_GOP_REFS (n : Nat) : Fld := ⟨R.ENC_GOP n, 17, 16⟩
def F.ENC_GOP_GOP_LEN (n : Nat) : Fld := ⟨R.ENC_GOP n, 15, 0⟩
def F.ENC_RATE_BITRATE (n : Nat) : Fld := ⟨R.ENC_RATE n, 19, 0⟩
def F.ENC_BUFFER_BUF_SIZE (n : Nat) : Fld := ⟨R.ENC_BUFFER n, 15, 0⟩
def F.ENC_PERIOD_US (n : Nat) : Fld := ⟨R.ENC_PERIOD n, 23, 0⟩
def F.ENC_QP_I_RATIO (n : Nat) : Fld := ⟨R.ENC_QP n, 27, 24⟩
def F.ENC_QP_INIT_QP (n : Nat) : Fld := ⟨R.ENC_QP n, 21, 16⟩
def F.ENC_QP_QP_MAX (n : Nat) : Fld := ⟨R.ENC_QP n, 13, 8⟩
def F.ENC_QP_QP_MIN (n : Nat) : Fld := ⟨R.ENC_QP n, 5, 0⟩
def F.ENC_MARGIN_MARGIN (n : Nat) : Fld := ⟨R.ENC_MARGIN n, 6, 0⟩
def F.ENC_REF_BASE_LO_ADDR (n : Nat) : Fld := ⟨R.ENC_REF_BASE_LO n, 31, 12⟩
def F.ENC_REF_BASE_HI_ADDR (n : Nat) : Fld := ⟨R.ENC_REF_BASE_HI n, 7, 0⟩
def F.ENC_REF_POOL_BUF_PAGES (n : Nat) : Fld := ⟨R.ENC_REF_POOL n, 31, 16⟩
def F.ENC_POOL_NEED_PAGES (n : Nat) : Fld := ⟨R.ENC_POOL_NEED n, 15, 0⟩
def F.ENC_OUT_RING_DATA_LOG2 (n : Nat) : Fld := ⟨R.ENC_OUT_RING n, 12, 8⟩
def F.ENC_OUT_RING_DESC_LOG2 (n : Nat) : Fld := ⟨R.ENC_OUT_RING n, 3, 0⟩
def F.ENC_OUT_DESC_LO_ADDR (n : Nat) : Fld := ⟨R.ENC_OUT_DESC_LO n, 31, 12⟩
def F.ENC_OUT_DESC_HI_ADDR (n : Nat) : Fld := ⟨R.ENC_OUT_DESC_HI n, 7, 0⟩
def F.ENC_OUT_DATA_LO_ADDR (n : Nat) : Fld := ⟨R.ENC_OUT_DATA_LO n, 31, 12⟩
def F.ENC_OUT_DATA_HI_ADDR (n : Nat) : Fld := ⟨R.ENC_OUT_DATA_HI n, 7, 0⟩
def F.ENC_OUT_WR_IDX_IDX (n : Nat) : Fld := ⟨R.ENC_OUT_WR_IDX n, 15, 0⟩
def F.ENC_OUT_RD_IDX_IDX (n : Nat) : Fld := ⟨R.ENC_OUT_RD_IDX n, 15, 0⟩
def F.ENC_WLK_VC (n : Nat) : Fld := ⟨R.ENC_WLK n, 19, 16⟩
def F.ENC_WLK_TAG (n : Nat) : Fld := ⟨R.ENC_WLK n, 11, 0⟩
def F.ENC_STAT_KEY_PEND (n : Nat) : Fld := ⟨R.ENC_STAT n, 9, 9⟩
def F.ENC_STAT_ACTIVE (n : Nat) : Fld := ⟨R.ENC_STAT n, 8, 8⟩
def F.ENC_STAT_CFG_REJ (n : Nat) : Fld := ⟨R.ENC_STAT n, 5, 5⟩
def F.ENC_STAT_SIZE_EV (n : Nat) : Fld := ⟨R.ENC_STAT n, 4, 4⟩
def F.ENC_STAT_KEYREQ_EV (n : Nat) : Fld := ⟨R.ENC_STAT n, 3, 3⟩
def F.ENC_STAT_OVERRUN_EV (n : Nat) : Fld := ⟨R.ENC_STAT n, 2, 2⟩
def F.ENC_STAT_SKIP_EV (n : Nat) : Fld := ⟨R.ENC_STAT n, 1, 1⟩
def F.ENC_STAT_ERR_EV (n : Nat) : Fld := ⟨R.ENC_STAT n, 0, 0⟩
def F.ENC_IRQ_EN_EN (n : Nat) : Fld := ⟨R.ENC_IRQ_EN n, 5, 0⟩
def F.ENC_KEYREQ_REQ (n : Nat) : Fld := ⟨R.ENC_KEYREQ n, 31, 31⟩
def F.ENC_KEYREQ_HOLDOFF (n : Nat) : Fld := ⟨R.ENC_KEYREQ n, 15, 0⟩
def F.ENC_PICS_CNT (n : Nat) : Fld := ⟨R.ENC_PICS n, 31, 0⟩
def F.ENC_KEYS_CNT (n : Nat) : Fld := ⟨R.ENC_KEYS n, 31, 0⟩
def F.ENC_OVERRUNS_CNT (n : Nat) : Fld := ⟨R.ENC_OVERRUNS n, 31, 0⟩
def F.ENC_SKIP_PICS_CNT (n : Nat) : Fld := ⟨R.ENC_SKIP_PICS n, 31, 0⟩
def F.ENC_SKIP_ROWS_CNT (n : Nat) : Fld := ⟨R.ENC_SKIP_ROWS n, 31, 0⟩
def F.ENC_INPUT_SKIPS_CNT (n : Nat) : Fld := ⟨R.ENC_INPUT_SKIPS n, 31, 0⟩
def F.ENC_KEYREQ_CNT_CNT (n : Nat) : Fld := ⟨R.ENC_KEYREQ_CNT n, 31, 0⟩
def F.ENC_KEYREQ_DROPS_CNT (n : Nat) : Fld := ⟨R.ENC_KEYREQ_DROPS n, 31, 0⟩
def F.ENC_SIZE_DROPS_CNT (n : Nat) : Fld := ⟨R.ENC_SIZE_DROPS n, 31, 0⟩
def F.ENC_INPUT_FAULTS_CNT (n : Nat) : Fld := ⟨R.ENC_INPUT_FAULTS n, 31, 0⟩
def F.ENC_DROPS_CNT (n : Nat) : Fld := ⟨R.ENC_DROPS n, 31, 0⟩
def F.ENC_OUT_WAITS_CNT (n : Nat) : Fld := ⟨R.ENC_OUT_WAITS n, 31, 0⟩
def F.ENC_BUF_OVF_CNT (n : Nat) : Fld := ⟨R.ENC_BUF_OVF n, 31, 0⟩
def F.ENC_FILL_BITS (n : Nat) : Fld := ⟨R.ENC_FILL n, 31, 0⟩
def F.ENC_LAST_BUDGET_BITS (n : Nat) : Fld := ⟨R.ENC_LAST_BUDGET n, 31, 0⟩
def F.COMP_INFO_SCALER (n : Nat) : Fld := ⟨R.COMP_INFO n, 15, 8⟩
def F.COMP_INFO_WB (n : Nat) : Fld := ⟨R.COMP_INFO n, 4, 4⟩
def F.COMP_INFO_STALLS (n : Nat) : Fld := ⟨R.COMP_INFO n, 3, 0⟩
def F.COMP_CTRL_STALL_EN (n : Nat) : Fld := ⟨R.COMP_CTRL n, 7, 0⟩
def F.COMP_BG_RGB (n : Nat) : Fld := ⟨R.COMP_BG n, 29, 0⟩
def F.COMP_TAKE_LEAD_LINES (n : Nat) : Fld := ⟨R.COMP_TAKE n, 7, 0⟩
def F.COMP_WB_CTRL_EN (n : Nat) : Fld := ⟨R.COMP_WB_CTRL n, 31, 31⟩
def F.COMP_WB_CTRL_DBC (n : Nat) : Fld := ⟨R.COMP_WB_CTRL n, 4, 4⟩
def F.COMP_WB_CTRL_FORMAT (n : Nat) : Fld := ⟨R.COMP_WB_CTRL n, 3, 0⟩
def F.COMP_WB_IDENT_SOURCE_ID (n : Nat) : Fld := ⟨R.COMP_WB_IDENT n, 27, 16⟩
def F.COMP_WB_RING_BUF_PAGES (n : Nat) : Fld := ⟨R.COMP_WB_RING n, 31, 16⟩
def F.COMP_WB_RING_DESC_LOG2 (n : Nat) : Fld := ⟨R.COMP_WB_RING n, 3, 0⟩
def F.COMP_WB_DESC_LO_ADDR (n : Nat) : Fld := ⟨R.COMP_WB_DESC_LO n, 31, 12⟩
def F.COMP_WB_DESC_HI_ADDR (n : Nat) : Fld := ⟨R.COMP_WB_DESC_HI n, 7, 0⟩
def F.COMP_WB_DATA_LO_ADDR (n : Nat) : Fld := ⟨R.COMP_WB_DATA_LO n, 31, 12⟩
def F.COMP_WB_DATA_HI_ADDR (n : Nat) : Fld := ⟨R.COMP_WB_DATA_HI n, 7, 0⟩
def F.COMP_WB_WR_IDX_IDX (n : Nat) : Fld := ⟨R.COMP_WB_WR_IDX n, 15, 0⟩
def F.COMP_WB_RD_IDX_IDX (n : Nat) : Fld := ⟨R.COMP_WB_RD_IDX n, 15, 0⟩
def F.COMP_WB_STAT_ACTIVE (n : Nat) : Fld := ⟨R.COMP_WB_STAT n, 8, 8⟩
def F.COMP_WB_STAT_CFG_REJ (n : Nat) : Fld := ⟨R.COMP_WB_STAT n, 1, 1⟩
def F.COMP_WB_STAT_DROP_EV (n : Nat) : Fld := ⟨R.COMP_WB_STAT n, 0, 0⟩
def F.COMP_WB_IRQ_EN_EN (n : Nat) : Fld := ⟨R.COMP_WB_IRQ_EN n, 1, 0⟩
def F.COMP_WB_FRAMES_CNT (n : Nat) : Fld := ⟨R.COMP_WB_FRAMES n, 31, 0⟩
def F.COMP_WB_DROPS_CNT (n : Nat) : Fld := ⟨R.COMP_WB_DROPS n, 31, 0⟩
def F.COMP_WB_CSC_HI (n i : Nat) : Fld := ⟨R.COMP_WB_CSC n i, 31, 16⟩
def F.COMP_WB_CSC_LO (n i : Nat) : Fld := ⟨R.COMP_WB_CSC n i, 15, 0⟩
def F.CSTALL_CTRL_KEY_EN (n m : Nat) : Fld := ⟨R.CSTALL_CTRL n m, 10, 10⟩
def F.CSTALL_CTRL_PREMULT (n m : Nat) : Fld := ⟨R.CSTALL_CTRL n m, 9, 9⟩
def F.CSTALL_CTRL_PPA_EN (n m : Nat) : Fld := ⟨R.CSTALL_CTRL n m, 8, 8⟩
def F.CSTALL_CTRL_SRC_KIND (n m : Nat) : Fld := ⟨R.CSTALL_CTRL n m, 5, 4⟩
def F.CSTALL_CTRL_MODE (n m : Nat) : Fld := ⟨R.CSTALL_CTRL n m, 1, 0⟩
def F.CSTALL_SRC_IDX (n m : Nat) : Fld := ⟨R.CSTALL_SRC n m, 8, 0⟩
def F.CSTALL_FORMAT_DBC (n m : Nat) : Fld := ⟨R.CSTALL_FORMAT n m, 4, 4⟩
def F.CSTALL_FORMAT_CODE (n m : Nat) : Fld := ⟨R.CSTALL_FORMAT n m, 3, 0⟩
def F.CSTALL_SRC_SIZE_H (n m : Nat) : Fld := ⟨R.CSTALL_SRC_SIZE n m, 29, 16⟩
def F.CSTALL_SRC_SIZE_W (n m : Nat) : Fld := ⟨R.CSTALL_SRC_SIZE n m, 13, 0⟩
def F.CSTALL_BASE_LO_ADDR (n m : Nat) : Fld := ⟨R.CSTALL_BASE_LO n m, 31, 12⟩
def F.CSTALL_BASE_HI_ADDR (n m : Nat) : Fld := ⟨R.CSTALL_BASE_HI n m, 7, 0⟩
def F.CSTALL_PITCH_PITCH (n m : Nat) : Fld := ⟨R.CSTALL_PITCH n m, 7, 0⟩
def F.CSTALL_CROP_POS_Y (n m : Nat) : Fld := ⟨R.CSTALL_CROP_POS n m, 29, 16⟩
def F.CSTALL_CROP_POS_X (n m : Nat) : Fld := ⟨R.CSTALL_CROP_POS n m, 13, 0⟩
def F.CSTALL_CROP_SIZE_H (n m : Nat) : Fld := ⟨R.CSTALL_CROP_SIZE n m, 29, 16⟩
def F.CSTALL_CROP_SIZE_W (n m : Nat) : Fld := ⟨R.CSTALL_CROP_SIZE n m, 13, 0⟩
def F.CSTALL_DST_POS_Y (n m : Nat) : Fld := ⟨R.CSTALL_DST_POS n m, 29, 16⟩
def F.CSTALL_DST_POS_X (n m : Nat) : Fld := ⟨R.CSTALL_DST_POS n m, 13, 0⟩
def F.CSTALL_DST_SIZE_H (n m : Nat) : Fld := ⟨R.CSTALL_DST_SIZE n m, 29, 16⟩
def F.CSTALL_DST_SIZE_W (n m : Nat) : Fld := ⟨R.CSTALL_DST_SIZE n m, 13, 0⟩
def F.CSTALL_ALPHA_PLANE_ALPHA (n m : Nat) : Fld := ⟨R.CSTALL_ALPHA n m, 7, 0⟩
def F.CSTALL_KEY_KEY (n m : Nat) : Fld := ⟨R.CSTALL_KEY n m, 29, 0⟩
def F.CSTALL_KEY_MASK_MASK (n m : Nat) : Fld := ⟨R.CSTALL_KEY_MASK n m, 29, 0⟩
def F.CSTALL_FALLBACK_RGB (n m : Nat) : Fld := ⟨R.CSTALL_FALLBACK n m, 29, 0⟩
def F.CSTALL_CSC_HI (n m i : Nat) : Fld := ⟨R.CSTALL_CSC n m i, 31, 16⟩
def F.CSTALL_CSC_LO (n m i : Nat) : Fld := ⟨R.CSTALL_CSC n m i, 15, 0⟩
def F.CSTALL_STAT_CUR_SLOT (n m : Nat) : Fld := ⟨R.CSTALL_STAT n m, 27, 16⟩
def F.CSTALL_STAT_HAS_BUF (n m : Nat) : Fld := ⟨R.CSTALL_STAT n m, 8, 8⟩
def F.CSTALL_STAT_STAMP_PEND (n m : Nat) : Fld := ⟨R.CSTALL_STAT n m, 7, 7⟩
def F.CSTALL_STAT_CFG_ERR (n m : Nat) : Fld := ⟨R.CSTALL_STAT n m, 6, 6⟩
def F.CSTALL_STAT_RETIRE_EV (n m : Nat) : Fld := ⟨R.CSTALL_STAT n m, 3, 3⟩
def F.CSTALL_STAT_TAKE_LATE_EV (n m : Nat) : Fld := ⟨R.CSTALL_STAT n m, 2, 2⟩
def F.CSTALL_STAT_DBC_EV (n m : Nat) : Fld := ⟨R.CSTALL_STAT n m, 1, 1⟩
def F.CSTALL_STAT_FAULT_EV (n m : Nat) : Fld := ⟨R.CSTALL_STAT n m, 0, 0⟩
def F.CSTALL_IRQ_EN_EN (n m : Nat) : Fld := ⟨R.CSTALL_IRQ_EN n m, 3, 0⟩
def F.CSTALL_RETIRED_LO_V (n m : Nat) : Fld := ⟨R.CSTALL_RETIRED_LO n m, 31, 0⟩
def F.CSTALL_RETIRED_HI_V (n m : Nat) : Fld := ⟨R.CSTALL_RETIRED_HI n m, 7, 0⟩
def F.CSTALL_RETIRE_FRAME_LATCH (n m : Nat) : Fld := ⟨R.CSTALL_RETIRE_FRAME n m, 31, 0⟩
def F.CSTALL_TAKES_CNT (n m : Nat) : Fld := ⟨R.CSTALL_TAKES n m, 31, 0⟩
def F.CSTALL_TAKE_LATE_CNT (n m : Nat) : Fld := ⟨R.CSTALL_TAKE_LATE n m, 31, 0⟩
def F.CSTALL_FETCH_FAULTS_CNT (n m : Nat) : Fld := ⟨R.CSTALL_FETCH_FAULTS n m, 31, 0⟩
def F.CSTALL_DBC_ERRS_CNT (n m : Nat) : Fld := ⟨R.CSTALL_DBC_ERRS n m, 31, 0⟩
def F.COMPG_EVT_PIPES : Fld := ⟨R.COMPG_EVT, 31, 0⟩
def F.SP_INFO_INSERTED (n : Nat) : Fld := ⟨R.SP_INFO n, 15, 15⟩
def F.SP_INFO_PIPE (n : Nat) : Fld := ⟨R.SP_INFO n, 12, 8⟩
def F.SP_INFO_STALL (n : Nat) : Fld := ⟨R.SP_INFO n, 2, 0⟩
def F.SP_CTRL_BANK_SEL (n : Nat) : Fld := ⟨R.SP_CTRL n, 0, 0⟩
def F.SP_COEF_INDEX_DIR (n : Nat) : Fld := ⟨R.SP_COEF_INDEX n, 9, 9⟩
def F.SP_COEF_INDEX_ENTRY (n : Nat) : Fld := ⟨R.SP_COEF_INDEX n, 8, 0⟩
def F.SP_COEF_DATA_ODD (n : Nat) : Fld := ⟨R.SP_COEF_DATA n, 25, 16⟩
def F.SP_COEF_DATA_EVEN (n : Nat) : Fld := ⟨R.SP_COEF_DATA n, 9, 0⟩
def F.SP_COEF_CMD_LOAD (n : Nat) : Fld := ⟨R.SP_COEF_CMD n, 8, 8⟩
def F.SP_COEF_CMD_V (n : Nat) : Fld := ⟨R.SP_COEF_CMD n, 5, 5⟩
def F.SP_COEF_CMD_H (n : Nat) : Fld := ⟨R.SP_COEF_CMD n, 4, 4⟩
def F.SP_COEF_CMD_SET (n : Nat) : Fld := ⟨R.SP_COEF_CMD n, 3, 0⟩
def F.SP_STAT_BUSY (n : Nat) : Fld := ⟨R.SP_STAT n, 10, 10⟩
def F.SP_STAT_FREE (n : Nat) : Fld := ⟨R.SP_STAT n, 9, 9⟩
def F.SP_STAT_BANK (n : Nat) : Fld := ⟨R.SP_STAT n, 8, 8⟩
def F.SP_STAT_PEND (n : Nat) : Fld := ⟨R.SP_STAT n, 7, 7⟩
def F.SP_STAT_IGN_EV (n : Nat) : Fld := ⟨R.SP_STAT n, 2, 2⟩
def F.SP_STAT_REJ_EV (n : Nat) : Fld := ⟨R.SP_STAT n, 1, 1⟩
def F.SP_STAT_SWAP_EV (n : Nat) : Fld := ⟨R.SP_STAT n, 0, 0⟩
def F.SP_IRQ_EN_EN (n : Nat) : Fld := ⟨R.SP_IRQ_EN n, 2, 0⟩
def F.SP_SWAPS_CNT (n : Nat) : Fld := ⟨R.SP_SWAPS n, 31, 0⟩
def F.SP_COEF_IGN_CNT (n : Nat) : Fld := ⟨R.SP_COEF_IGN n, 31, 0⟩
def F.SPG_EVT_UNITS (i : Nat) : Fld := ⟨R.SPG_EVT i, 31, 0⟩
def F.HEAD_INFO_NAMED (n : Nat) : Fld := ⟨R.HEAD_INFO n, 16, 16⟩
def F.HEAD_INFO_MST_STREAM (n : Nat) : Fld := ⟨R.HEAD_INFO n, 9, 8⟩
def F.HEAD_INFO_SRC_PORT (n : Nat) : Fld := ⟨R.HEAD_INFO n, 7, 4⟩
def F.HEAD_INFO_EDP (n : Nat) : Fld := ⟨R.HEAD_INFO n, 2, 2⟩
def F.HEAD_INFO_DS (n : Nat) : Fld := ⟨R.HEAD_INFO n, 1, 1⟩
def F.HEAD_INFO_PIPE (n : Nat) : Fld := ⟨R.HEAD_INFO n, 0, 0⟩
def F.HEAD_CTRL_FAULT_CLR (n : Nat) : Fld := ⟨R.HEAD_CTRL n, 4, 4⟩
def F.HEAD_CTRL_SLATE_REQ (n : Nat) : Fld := ⟨R.HEAD_CTRL n, 2, 2⟩
def F.HEAD_CTRL_RUN (n : Nat) : Fld := ⟨R.HEAD_CTRL n, 0, 0⟩
def F.HEAD_STAT_SLATE_CAUSE (n : Nat) : Fld := ⟨R.HEAD_STAT n, 26, 24⟩
def F.HEAD_STAT_FAULT_CAUSE (n : Nat) : Fld := ⟨R.HEAD_STAT n, 23, 20⟩
def F.HEAD_STAT_REJ_CAUSE (n : Nat) : Fld := ⟨R.HEAD_STAT n, 15, 12⟩
def F.HEAD_STAT_ARMED (n : Nat) : Fld := ⟨R.HEAD_STAT n, 8, 8⟩
def F.HEAD_STAT_PLL_LOCK (n : Nat) : Fld := ⟨R.HEAD_STAT n, 3, 3⟩
def F.HEAD_STAT_FAULT (n : Nat) : Fld := ⟨R.HEAD_STAT n, 2, 2⟩
def F.HEAD_STAT_SLATE (n : Nat) : Fld := ⟨R.HEAD_STAT n, 1, 1⟩
def F.HEAD_STAT_RUNNING (n : Nat) : Fld := ⟨R.HEAD_STAT n, 0, 0⟩
def F.HEAD_EVT_PSR_EV (n : Nat) : Fld := ⟨R.HEAD_EVT n, 7, 7⟩
def F.HEAD_EVT_DS_FAULT_EV (n : Nat) : Fld := ⟨R.HEAD_EVT n, 6, 6⟩
def F.HEAD_EVT_RGN_EV (n : Nat) : Fld := ⟨R.HEAD_EVT n, 5, 5⟩
def F.HEAD_EVT_FAULT_EV (n : Nat) : Fld := ⟨R.HEAD_EVT n, 4, 4⟩
def F.HEAD_EVT_UNDERRUN_EV (n : Nat) : Fld := ⟨R.HEAD_EVT n, 3, 3⟩
def F.HEAD_EVT_COMMIT_REJ_EV (n : Nat) : Fld := ⟨R.HEAD_EVT n, 2, 2⟩
def F.HEAD_EVT_CFG_REJ_EV (n : Nat) : Fld := ⟨R.HEAD_EVT n, 1, 1⟩
def F.HEAD_EVT_APPLIED_EV (n : Nat) : Fld := ⟨R.HEAD_EVT n, 0, 0⟩
def F.HEAD_IRQ_EN_EN (n : Nat) : Fld := ⟨R.HEAD_IRQ_EN n, 7, 0⟩
def F.HEAD_COMMIT_TAG (n : Nat) : Fld := ⟨R.HEAD_COMMIT n, 15, 0⟩
def F.HEAD_COMMIT_FRAME_FRAME (n : Nat) : Fld := ⟨R.HEAD_COMMIT_FRAME n, 31, 0⟩
def F.HEAD_APPLIED_FRAME_FRAME (n : Nat) : Fld := ⟨R.HEAD_APPLIED_FRAME n, 31, 0⟩
def F.HEAD_APPLIED_TAG_TAG (n : Nat) : Fld := ⟨R.HEAD_APPLIED_TAG n, 15, 0⟩
def F.HEAD_FRAME_CNT_CNT (n : Nat) : Fld := ⟨R.HEAD_FRAME_CNT n, 31, 0⟩
def F.HEAD_COMMIT_MERGED_CNT (n : Nat) : Fld := ⟨R.HEAD_COMMIT_MERGED n, 31, 0⟩
def F.HEAD_PIXCLK_KHZ (n : Nat) : Fld := ⟨R.HEAD_PIXCLK n, 19, 0⟩
def F.HEAD_TIMING_H_H_TOTAL (n : Nat) : Fld := ⟨R.HEAD_TIMING_H n, 29, 16⟩
def F.HEAD_TIMING_H_H_ACTIVE (n : Nat) : Fld := ⟨R.HEAD_TIMING_H n, 13, 0⟩
def F.HEAD_TIMING_HSYNC_H_POL (n : Nat) : Fld := ⟨R.HEAD_TIMING_HSYNC n, 31, 31⟩
def F.HEAD_TIMING_HSYNC_H_SYNC (n : Nat) : Fld := ⟨R.HEAD_TIMING_HSYNC n, 29, 16⟩
def F.HEAD_TIMING_HSYNC_H_FP (n : Nat) : Fld := ⟨R.HEAD_TIMING_HSYNC n, 13, 0⟩
def F.HEAD_TIMING_V_V_TOTAL (n : Nat) : Fld := ⟨R.HEAD_TIMING_V n, 29, 16⟩
def F.HEAD_TIMING_V_V_ACTIVE (n : Nat) : Fld := ⟨R.HEAD_TIMING_V n, 13, 0⟩
def F.HEAD_TIMING_VSYNC_V_POL (n : Nat) : Fld := ⟨R.HEAD_TIMING_VSYNC n, 31, 31⟩
def F.HEAD_TIMING_VSYNC_V_SYNC (n : Nat) : Fld := ⟨R.HEAD_TIMING_VSYNC n, 29, 16⟩
def F.HEAD_TIMING_VSYNC_V_FP (n : Nat) : Fld := ⟨R.HEAD_TIMING_VSYNC n, 13, 0⟩
def F.HEAD_DS_FORMAT_PITCH (n : Nat) : Fld := ⟨R.HEAD_DS_FORMAT n, 15, 8⟩
def F.HEAD_DS_FORMAT_CODE (n : Nat) : Fld := ⟨R.HEAD_DS_FORMAT n, 3, 0⟩
def F.HEAD_DS_BASE_LO_ADDR (n : Nat) : Fld := ⟨R.HEAD_DS_BASE_LO n, 31, 12⟩
def F.HEAD_DS_BASE_HI_ADDR (n : Nat) : Fld := ⟨R.HEAD_DS_BASE_HI n, 7, 0⟩
def F.HEAD_DS_FALLBACK_RGB (n : Nat) : Fld := ⟨R.HEAD_DS_FALLBACK n, 29, 0⟩
def F.HEAD_DS_RETIRED_LO_ADDR (n : Nat) : Fld := ⟨R.HEAD_DS_RETIRED_LO n, 31, 12⟩
def F.HEAD_DS_RETIRED_HI_ADDR (n : Nat) : Fld := ⟨R.HEAD_DS_RETIRED_HI n, 7, 0⟩
def F.HEAD_DS_FAULTS_CNT (n : Nat) : Fld := ⟨R.HEAD_DS_FAULTS n, 31, 0⟩
def F.HEAD_TOL_US (n : Nat) : Fld := ⟨R.HEAD_TOL n, 15, 0⟩
def F.HEAD_TOL_MIN_US (n : Nat) : Fld := ⟨R.HEAD_TOL_MIN n, 15, 0⟩
def F.HEAD_UNDERRUN_CNT_CNT (n : Nat) : Fld := ⟨R.HEAD_UNDERRUN_CNT n, 31, 0⟩
def F.HEAD_UNDERRUN_PIX_CNT (n : Nat) : Fld := ⟨R.HEAD_UNDERRUN_PIX n, 31, 0⟩
def F.HEAD_UNDERRUN_LAST_LATCH (n : Nat) : Fld := ⟨R.HEAD_UNDERRUN_LAST n, 31, 16⟩
def F.HEAD_UNDERRUN_LAST_LINE (n : Nat) : Fld := ⟨R.HEAD_UNDERRUN_LAST n, 12, 0⟩
def F.HEAD_SLATE_TEXT0_CHARS (n : Nat) : Fld := ⟨R.HEAD_SLATE_TEXT0 n, 31, 0⟩
def F.HEAD_SLATE_TEXT1_CHARS (n : Nat) : Fld := ⟨R.HEAD_SLATE_TEXT1 n, 31, 0⟩
def F.HEAD_PSR_CTRL_EN (n : Nat) : Fld := ⟨R.HEAD_PSR_CTRL n, 31, 31⟩
def F.HEAD_PSR_CTRL_UPDATE (n : Nat) : Fld := ⟨R.HEAD_PSR_CTRL n, 30, 30⟩
def F.HEAD_PSR_CTRL_MAX_HOLD (n : Nat) : Fld := ⟨R.HEAD_PSR_CTRL n, 23, 8⟩
def F.HEAD_PSR_CTRL_ENTRY_LATCHES (n : Nat) : Fld := ⟨R.HEAD_PSR_CTRL n, 7, 0⟩
def F.HEAD_PSR_STAT_HOLD_CNT (n : Nat) : Fld := ⟨R.HEAD_PSR_STAT n, 31, 16⟩
def F.HEAD_PSR_STAT_BLOCK (n : Nat) : Fld := ⟨R.HEAD_PSR_STAT n, 15, 8⟩
def F.HEAD_PSR_STAT_STATE (n : Nat) : Fld := ⟨R.HEAD_PSR_STAT n, 1, 0⟩
def F.HEAD_PSR_ENTRIES_CNT (n : Nat) : Fld := ⟨R.HEAD_PSR_ENTRIES n, 31, 0⟩
def F.HEAD_PSR_FORCED_CNT (n : Nat) : Fld := ⟨R.HEAD_PSR_FORCED n, 31, 0⟩
def F.HEAD_COL_CTRL_GAMMA_SEL (n : Nat) : Fld := ⟨R.HEAD_COL_CTRL n, 6, 6⟩
def F.HEAD_COL_CTRL_DEGAMMA_SEL (n : Nat) : Fld := ⟨R.HEAD_COL_CTRL n, 5, 5⟩
def F.HEAD_COL_CTRL_GAMMA_EN (n : Nat) : Fld := ⟨R.HEAD_COL_CTRL n, 2, 2⟩
def F.HEAD_COL_CTRL_MATRIX_EN (n : Nat) : Fld := ⟨R.HEAD_COL_CTRL n, 1, 1⟩
def F.HEAD_COL_CTRL_DEGAMMA_EN (n : Nat) : Fld := ⟨R.HEAD_COL_CTRL n, 0, 0⟩
def F.HEAD_DITHER_DEPTH (n : Nat) : Fld := ⟨R.HEAD_DITHER n, 5, 4⟩
def F.HEAD_DITHER_MODE (n : Nat) : Fld := ⟨R.HEAD_DITHER n, 1, 0⟩
def F.HEAD_LUT_INDEX_TABLE (n : Nat) : Fld := ⟨R.HEAD_LUT_INDEX n, 10, 10⟩
def F.HEAD_LUT_INDEX_ENTRY (n : Nat) : Fld := ⟨R.HEAD_LUT_INDEX n, 9, 0⟩
def F.HEAD_LUT_DATA0_GREEN (n : Nat) : Fld := ⟨R.HEAD_LUT_DATA0 n, 27, 16⟩
def F.HEAD_LUT_DATA0_RED (n : Nat) : Fld := ⟨R.HEAD_LUT_DATA0 n, 11, 0⟩
def F.HEAD_LUT_DATA1_BLUE (n : Nat) : Fld := ⟨R.HEAD_LUT_DATA1 n, 11, 0⟩
def F.HEAD_COL_STAT_G_BUSY (n : Nat) : Fld := ⟨R.HEAD_COL_STAT n, 9, 9⟩
def F.HEAD_COL_STAT_D_BUSY (n : Nat) : Fld := ⟨R.HEAD_COL_STAT n, 8, 8⟩
def F.HEAD_COL_STAT_IGN_EV (n : Nat) : Fld := ⟨R.HEAD_COL_STAT n, 0, 0⟩
def F.HEAD_COL_IRQ_EN_EN (n : Nat) : Fld := ⟨R.HEAD_COL_IRQ_EN n, 0, 0⟩
def F.HEAD_LUT_IGN_CNT (n : Nat) : Fld := ⟨R.HEAD_LUT_IGN n, 31, 0⟩
def F.HEAD_OUT_CSC_HI (n i : Nat) : Fld := ⟨R.HEAD_OUT_CSC n i, 31, 16⟩
def F.HEAD_OUT_CSC_LO (n i : Nat) : Fld := ⟨R.HEAD_OUT_CSC n i, 15, 0⟩
def F.RGN_CFG_MODE (n m : Nat) : Fld := ⟨R.RGN_CFG n m, 2, 0⟩
def F.RGN_POS_Y (n m : Nat) : Fld := ⟨R.RGN_POS n m, 29, 16⟩
def F.RGN_POS_X (n m : Nat) : Fld := ⟨R.RGN_POS n m, 13, 0⟩
def F.RGN_SIZE_H (n m : Nat) : Fld := ⟨R.RGN_SIZE n m, 29, 16⟩
def F.RGN_SIZE_W (n m : Nat) : Fld := ⟨R.RGN_SIZE n m, 13, 0⟩
def F.RGN_EXPECT_CRC (n m : Nat) : Fld := ⟨R.RGN_EXPECT n m, 31, 0⟩
def F.RGN_RESULT_CRC (n m : Nat) : Fld := ⟨R.RGN_RESULT n m, 31, 0⟩
def F.RGN_RESULT_FRAME_LATCH (n m : Nat) : Fld := ⟨R.RGN_RESULT_FRAME n m, 31, 0⟩
def F.RGN_MISMATCHES_CNT (n m : Nat) : Fld := ⟨R.RGN_MISMATCHES n m, 31, 0⟩
def F.RGN_SKIPS_CNT (n m : Nat) : Fld := ⟨R.RGN_SKIPS n m, 31, 0⟩
def F.HEADG_MIN_TOL_US : Fld := ⟨R.HEADG_MIN_TOL, 15, 0⟩
def F.HEADG_PEND_HEADS : Fld := ⟨R.HEADG_PEND, 31, 0⟩
def F.HEADG_FAULT_HEADS : Fld := ⟨R.HEADG_FAULT, 31, 0⟩
def F.HEADG_SLATE_HEADS : Fld := ⟨R.HEADG_SLATE, 31, 0⟩
def F.SRC_INFO_STREAMS (n : Nat) : Fld := ⟨R.SRC_INFO n, 11, 8⟩
def F.SRC_INFO_EDP (n : Nat) : Fld := ⟨R.SRC_INFO n, 3, 3⟩
def F.SRC_INFO_LANES (n : Nat) : Fld := ⟨R.SRC_INFO n, 2, 0⟩
def F.SRC_CTRL_RETRAIN (n : Nat) : Fld := ⟨R.SRC_CTRL n, 31, 31⟩
def F.SRC_CTRL_MAX_RATE (n : Nat) : Fld := ⟨R.SRC_CTRL n, 10, 8⟩
def F.SRC_CTRL_SSC (n : Nat) : Fld := ⟨R.SRC_CTRL n, 4, 4⟩
def F.SRC_STAT_SHORT (n : Nat) : Fld := ⟨R.SRC_STAT n, 31, 28⟩
def F.SRC_STAT_SENDING (n : Nat) : Fld := ⟨R.SRC_STAT n, 27, 24⟩
def F.SRC_STAT_PSR_CAP (n : Nat) : Fld := ⟨R.SRC_STAT n, 18, 18⟩
def F.SRC_STAT_MST (n : Nat) : Fld := ⟨R.SRC_STAT n, 17, 17⟩
def F.SRC_STAT_EDID_OK (n : Nat) : Fld := ⟨R.SRC_STAT n, 16, 16⟩
def F.SRC_STAT_RATE (n : Nat) : Fld := ⟨R.SRC_STAT n, 10, 8⟩
def F.SRC_STAT_LANES (n : Nat) : Fld := ⟨R.SRC_STAT n, 4, 2⟩
def F.SRC_STAT_TRAINED (n : Nat) : Fld := ⟨R.SRC_STAT n, 1, 1⟩
def F.SRC_STAT_HPD (n : Nat) : Fld := ⟨R.SRC_STAT n, 0, 0⟩
def F.SRC_EVT_EDID_EV (n : Nat) : Fld := ⟨R.SRC_EVT n, 8, 8⟩
def F.SRC_EVT_PANEL_EV (n : Nat) : Fld := ⟨R.SRC_EVT n, 7, 7⟩
def F.SRC_EVT_PSR_ERR_EV (n : Nat) : Fld := ⟨R.SRC_EVT n, 6, 6⟩
def F.SRC_EVT_AUX_DONE_EV (n : Nat) : Fld := ⟨R.SRC_EVT n, 5, 5⟩
def F.SRC_EVT_BW_EV (n : Nat) : Fld := ⟨R.SRC_EVT n, 4, 4⟩
def F.SRC_EVT_TRAIN_FAIL_EV (n : Nat) : Fld := ⟨R.SRC_EVT n, 3, 3⟩
def F.SRC_EVT_TRAIN_EV (n : Nat) : Fld := ⟨R.SRC_EVT n, 2, 2⟩
def F.SRC_EVT_IRQ_HPD_EV (n : Nat) : Fld := ⟨R.SRC_EVT n, 1, 1⟩
def F.SRC_EVT_HPD_EV (n : Nat) : Fld := ⟨R.SRC_EVT n, 0, 0⟩
def F.SRC_IRQ_EN_EN (n : Nat) : Fld := ⟨R.SRC_IRQ_EN n, 8, 0⟩
def F.SRC_SLOTS_S3 (n : Nat) : Fld := ⟨R.SRC_SLOTS n, 29, 24⟩
def F.SRC_SLOTS_S2 (n : Nat) : Fld := ⟨R.SRC_SLOTS n, 21, 16⟩
def F.SRC_SLOTS_S1 (n : Nat) : Fld := ⟨R.SRC_SLOTS n, 13, 8⟩
def F.SRC_SLOTS_S0 (n : Nat) : Fld := ⟨R.SRC_SLOTS n, 5, 0⟩
def F.SRC_TRAINS_CNT (n : Nat) : Fld := ⟨R.SRC_TRAINS n, 31, 0⟩
def F.SRC_LINK_LOSS_CNT (n : Nat) : Fld := ⟨R.SRC_LINK_LOSS n, 31, 0⟩
def F.SRC_AUX_CMD_GO (n : Nat) : Fld := ⟨R.SRC_AUX_CMD n, 31, 31⟩
def F.SRC_AUX_CMD_CMD (n : Nat) : Fld := ⟨R.SRC_AUX_CMD n, 27, 24⟩
def F.SRC_AUX_CMD_LEN (n : Nat) : Fld := ⟨R.SRC_AUX_CMD n, 23, 20⟩
def F.SRC_AUX_CMD_ADDR (n : Nat) : Fld := ⟨R.SRC_AUX_CMD n, 19, 0⟩
def F.SRC_AUX_STAT_BUSY (n : Nat) : Fld := ⟨R.SRC_AUX_STAT n, 31, 31⟩
def F.SRC_AUX_STAT_RESULT (n : Nat) : Fld := ⟨R.SRC_AUX_STAT n, 3, 0⟩
def F.SRC_AUX_DATA_BYTES (n i : Nat) : Fld := ⟨R.SRC_AUX_DATA n i, 31, 0⟩
def F.SRC_PANEL_CTRL_BL_ON (n : Nat) : Fld := ⟨R.SRC_PANEL_CTRL n, 1, 1⟩
def F.SRC_PANEL_CTRL_PWR_ON (n : Nat) : Fld := ⟨R.SRC_PANEL_CTRL n, 0, 0⟩
def F.SRC_PANEL_DELAY0_BL_ON (n : Nat) : Fld := ⟨R.SRC_PANEL_DELAY0 n, 31, 16⟩
def F.SRC_PANEL_DELAY0_T3_MAX (n : Nat) : Fld := ⟨R.SRC_PANEL_DELAY0 n, 15, 0⟩
def F.SRC_PANEL_DELAY1_CYCLE (n : Nat) : Fld := ⟨R.SRC_PANEL_DELAY1 n, 31, 20⟩
def F.SRC_PANEL_DELAY1_VDD_OFF (n : Nat) : Fld := ⟨R.SRC_PANEL_DELAY1 n, 19, 10⟩
def F.SRC_PANEL_DELAY1_BL_OFF (n : Nat) : Fld := ⟨R.SRC_PANEL_DELAY1 n, 9, 0⟩
def F.SRC_BL_PERIOD_CLKS (n : Nat) : Fld := ⟨R.SRC_BL_PERIOD n, 19, 0⟩
def F.SRC_BL_DUTY_CLKS (n : Nat) : Fld := ⟨R.SRC_BL_DUTY n, 19, 0⟩
def F.SRC_PANEL_STAT_STATE (n : Nat) : Fld := ⟨R.SRC_PANEL_STAT n, 2, 0⟩
def F.SRC_EDID_BYTES (n i : Nat) : Fld := ⟨R.SRC_EDID n i, 31, 0⟩
def F.SNK_INFO_LANES (n : Nat) : Fld := ⟨R.SNK_INFO n, 2, 0⟩
def F.SNK_CTRL_HPD_EN (n : Nat) : Fld := ⟨R.SNK_CTRL n, 31, 31⟩
def F.SNK_CTRL_MAX_RATE (n : Nat) : Fld := ⟨R.SNK_CTRL n, 10, 8⟩
def F.SNK_STAT_FMT (n : Nat) : Fld := ⟨R.SNK_STAT n, 31, 28⟩
def F.SNK_STAT_RATE (n : Nat) : Fld := ⟨R.SNK_STAT n, 12, 10⟩
def F.SNK_STAT_LANES (n : Nat) : Fld := ⟨R.SNK_STAT n, 9, 7⟩
def F.SNK_STAT_CAPTURING (n : Nat) : Fld := ⟨R.SNK_STAT n, 3, 3⟩
def F.SNK_STAT_LOCKED (n : Nat) : Fld := ⟨R.SNK_STAT n, 2, 2⟩
def F.SNK_STAT_HPD (n : Nat) : Fld := ⟨R.SNK_STAT n, 1, 1⟩
def F.SNK_STAT_SRC_DET (n : Nat) : Fld := ⟨R.SNK_STAT n, 0, 0⟩
def F.SNK_EVT_CFG_REJ_EV (n : Nat) : Fld := ⟨R.SNK_EVT n, 6, 6⟩
def F.SNK_EVT_FMT_EV (n : Nat) : Fld := ⟨R.SNK_EVT n, 5, 5⟩
def F.SNK_EVT_SIZE_EV (n : Nat) : Fld := ⟨R.SNK_EVT n, 4, 4⟩
def F.SNK_EVT_LOCK_LOSS_EV (n : Nat) : Fld := ⟨R.SNK_EVT n, 3, 3⟩
def F.SNK_EVT_TRAIN_EV (n : Nat) : Fld := ⟨R.SNK_EVT n, 2, 2⟩
def F.SNK_EVT_UNPLUG_EV (n : Nat) : Fld := ⟨R.SNK_EVT n, 1, 1⟩
def F.SNK_EVT_DETECT_EV (n : Nat) : Fld := ⟨R.SNK_EVT n, 0, 0⟩
def F.SNK_IRQ_EN_EN (n : Nat) : Fld := ⟨R.SNK_IRQ_EN n, 6, 0⟩
def F.SNK_HPD_PULSE_REQ (n : Nat) : Fld := ⟨R.SNK_HPD_PULSE n, 0, 0⟩
def F.SNK_MEAS_SIZE_H (n : Nat) : Fld := ⟨R.SNK_MEAS_SIZE n, 29, 16⟩
def F.SNK_MEAS_SIZE_W (n : Nat) : Fld := ⟨R.SNK_MEAS_SIZE n, 13, 0⟩
def F.SNK_MEAS_PERIOD_US (n : Nat) : Fld := ⟨R.SNK_MEAS_PERIOD n, 23, 0⟩
def F.SNK_FRAMES_CNT (n : Nat) : Fld := ⟨R.SNK_FRAMES n, 31, 0⟩
def F.SNK_FMT_DROPS_CNT (n : Nat) : Fld := ⟨R.SNK_FMT_DROPS n, 31, 0⟩
def F.SNK_SIZE_DROPS_CNT (n : Nat) : Fld := ⟨R.SNK_SIZE_DROPS n, 31, 0⟩
def F.SNK_LOCK_LOSS_CNT (n : Nat) : Fld := ⟨R.SNK_LOCK_LOSS n, 31, 0⟩
def F.SNK_EDID_BYTES (n i : Nat) : Fld := ⟨R.SNK_EDID n i, 31, 0⟩
def F.DPOG_EVT_SNK : Fld := ⟨R.DPOG_EVT, 23, 16⟩
def F.DPOG_EVT_SRC : Fld := ⟨R.DPOG_EVT, 15, 0⟩
def F.WLK_INFO_LANES : Fld := ⟨R.WLK_INFO, 3, 0⟩
def F.WLK_CTRL_REKEY : Fld := ⟨R.WLK_CTRL, 31, 31⟩
def F.WLK_CTRL_ATTEST_EN : Fld := ⟨R.WLK_CTRL, 5, 5⟩
def F.WLK_CTRL_INPUT_FWD : Fld := ⟨R.WLK_CTRL, 4, 4⟩
def F.WLK_CTRL_ROLE : Fld := ⟨R.WLK_CTRL, 1, 1⟩
def F.WLK_CTRL_EN : Fld := ⟨R.WLK_CTRL, 0, 0⟩
def F.WLK_STAT_PEER : Fld := ⟨R.WLK_STAT, 30, 28⟩
def F.WLK_STAT_LANES_UP : Fld := ⟨R.WLK_STAT, 23, 20⟩
def F.WLK_STAT_FAIL : Fld := ⟨R.WLK_STAT, 15, 12⟩
def F.WLK_STAT_EPOCH : Fld := ⟨R.WLK_STAT, 8, 8⟩
def F.WLK_STAT_STATE : Fld := ⟨R.WLK_STAT, 2, 0⟩
def F.WLK_EVT_RX_OVF_EV : Fld := ⟨R.WLK_EVT, 5, 5⟩
def F.WLK_EVT_RX_EV : Fld := ⟨R.WLK_EVT, 4, 4⟩
def F.WLK_EVT_REKEY_EV : Fld := ⟨R.WLK_EVT, 3, 3⟩
def F.WLK_EVT_AUTH_EV : Fld := ⟨R.WLK_EVT, 2, 2⟩
def F.WLK_EVT_DOWN_EV : Fld := ⟨R.WLK_EVT, 1, 1⟩
def F.WLK_EVT_UP_EV : Fld := ⟨R.WLK_EVT, 0, 0⟩
def F.WLK_IRQ_EN_EN : Fld := ⟨R.WLK_IRQ_EN, 5, 0⟩
def F.WLK_HB_LOSS_LIMIT : Fld := ⟨R.WLK_HB, 19, 16⟩
def F.WLK_HB_HB_PERIOD : Fld := ⟨R.WLK_HB, 13, 0⟩
def F.WLK_UP_CNT_CNT : Fld := ⟨R.WLK_UP_CNT, 31, 0⟩
def F.WLK_CRC_ERR_CNT : Fld := ⟨R.WLK_CRC_ERR, 31, 0⟩
def F.WLK_AUTH_ERR_CNT : Fld := ⟨R.WLK_AUTH_ERR, 31, 0⟩
def F.WLK_LOST_FRAMES_CNT : Fld := ⟨R.WLK_LOST_FRAMES, 31, 0⟩
def F.WLK_KEYREQ_UNMATCHED_CNT : Fld := ⟨R.WLK_KEYREQ_UNMATCHED, 31, 0⟩
def F.WLK_TX_DISCARDS_CNT : Fld := ⟨R.WLK_TX_DISCARDS, 31, 0⟩
def F.WLK_RX_DISCARDS_CNT : Fld := ⟨R.WLK_RX_DISCARDS, 31, 0⟩
def F.WLK_RX_OVF_CNT : Fld := ⟨R.WLK_RX_OVF, 31, 0⟩
def F.WLK_VC_CFG_WEIGHT (i : Nat) : Fld := ⟨R.WLK_VC_CFG i, 7, 0⟩
def F.WLK_RXQ_BASE_LO_ADDR : Fld := ⟨R.WLK_RXQ_BASE_LO, 31, 12⟩
def F.WLK_RXQ_BASE_HI_ADDR : Fld := ⟨R.WLK_RXQ_BASE_HI, 7, 0⟩
def F.WLK_TXQ_BASE_LO_ADDR : Fld := ⟨R.WLK_TXQ_BASE_LO, 31, 12⟩
def F.WLK_TXQ_BASE_HI_ADDR : Fld := ⟨R.WLK_TXQ_BASE_HI, 7, 0⟩
def F.WLK_QCFG_RXQ_EN : Fld := ⟨R.WLK_QCFG, 31, 31⟩
def F.WLK_QCFG_TXQ_EN : Fld := ⟨R.WLK_QCFG, 30, 30⟩
def F.WLK_QCFG_TXQ_LOG2 : Fld := ⟨R.WLK_QCFG, 11, 8⟩
def F.WLK_QCFG_RXQ_LOG2 : Fld := ⟨R.WLK_QCFG, 3, 0⟩
def F.WLK_RXQ_WR_IDX : Fld := ⟨R.WLK_RXQ_WR, 15, 0⟩
def F.WLK_RXQ_RD_IDX : Fld := ⟨R.WLK_RXQ_RD, 15, 0⟩
def F.WLK_TXQ_WR_IDX : Fld := ⟨R.WLK_TXQ_WR, 15, 0⟩
def F.WLK_TXQ_RD_IDX : Fld := ⟨R.WLK_TXQ_RD, 15, 0⟩
def F.WPEER_CTRL_IN_FORCE (n : Nat) : Fld := ⟨R.WPEER_CTRL n, 1, 1⟩
def F.WPEER_CTRL_EN (n : Nat) : Fld := ⟨R.WPEER_CTRL n, 0, 0⟩
def F.WPEER_HASH_HASH (n i : Nat) : Fld := ⟨R.WPEER_HASH n i, 31, 0⟩
def F.TWIN_INFO_TICK_HZ : Fld := ⟨R.TWIN_INFO, 15, 8⟩
def F.TWIN_INFO_PLANNED : Fld := ⟨R.TWIN_INFO, 4, 4⟩
def F.TWIN_INFO_HOST : Fld := ⟨R.TWIN_INFO, 3, 3⟩
def F.TWIN_INFO_PREFER : Fld := ⟨R.TWIN_INFO, 2, 2⟩
def F.TWIN_INFO_MODE : Fld := ⟨R.TWIN_INFO, 1, 0⟩
def F.TWIN_CTRL_KEY : Fld := ⟨R.TWIN_CTRL, 31, 24⟩
def F.TWIN_CTRL_OP : Fld := ⟨R.TWIN_CTRL, 3, 0⟩
def F.TWIN_STAT_LINK : Fld := ⟨R.TWIN_STAT, 26, 24⟩
def F.TWIN_STAT_FAIL : Fld := ⟨R.TWIN_STAT, 23, 20⟩
def F.TWIN_STAT_CONFLICT : Fld := ⟨R.TWIN_STAT, 11, 11⟩
def F.TWIN_STAT_PEER_ACT : Fld := ⟨R.TWIN_STAT, 10, 10⟩
def F.TWIN_STAT_ACT : Fld := ⟨R.TWIN_STAT, 9, 9⟩
def F.TWIN_STAT_READY : Fld := ⟨R.TWIN_STAT, 8, 8⟩
def F.TWIN_STAT_ROLE : Fld := ⟨R.TWIN_STAT, 2, 0⟩
def F.TWIN_EVT_BIST_FAIL_EV : Fld := ⟨R.TWIN_EVT, 8, 8⟩
def F.TWIN_EVT_OUTCRC_EV : Fld := ⟨R.TWIN_EVT, 7, 7⟩
def F.TWIN_EVT_CONFLICT_EV : Fld := ⟨R.TWIN_EVT, 6, 6⟩
def F.TWIN_EVT_REFUSED_EV : Fld := ⟨R.TWIN_EVT, 5, 5⟩
def F.TWIN_EVT_LINK_EV : Fld := ⟨R.TWIN_EVT, 4, 4⟩
def F.TWIN_EVT_HB_MISS_EV : Fld := ⟨R.TWIN_EVT, 3, 3⟩
def F.TWIN_EVT_PEER_EV : Fld := ⟨R.TWIN_EVT, 2, 2⟩
def F.TWIN_EVT_READY_EV : Fld := ⟨R.TWIN_EVT, 1, 1⟩
def F.TWIN_EVT_SWITCH_EV : Fld := ⟨R.TWIN_EVT, 0, 0⟩
def F.TWIN_IRQ_EN_EN : Fld := ⟨R.TWIN_IRQ_EN, 8, 0⟩
def F.TWIN_NOT_READY_REASONS : Fld := ⟨R.TWIN_NOT_READY, 15, 0⟩
def F.TWIN_TICK_CNT_CNT : Fld := ⟨R.TWIN_TICK_CNT, 31, 0⟩
def F.TWIN_LAST_SWITCH_REFUSE : Fld := ⟨R.TWIN_LAST_SWITCH, 31, 24⟩
def F.TWIN_LAST_SWITCH_CAUSE : Fld := ⟨R.TWIN_LAST_SWITCH, 19, 16⟩
def F.TWIN_LAST_SWITCH_TICK : Fld := ⟨R.TWIN_LAST_SWITCH, 15, 0⟩
def F.TWIN_LAST_GAP_US : Fld := ⟨R.TWIN_LAST_GAP, 31, 0⟩
def F.TWIN_SWITCH_CNT_CNT : Fld := ⟨R.TWIN_SWITCH_CNT, 31, 0⟩
def F.TWIN_HB_MISS_CNT : Fld := ⟨R.TWIN_HB_MISS, 31, 0⟩
def F.TWIN_CONFLICTS_CNT : Fld := ⟨R.TWIN_CONFLICTS, 31, 0⟩
def F.TWIN_STEP_MISS_CNT : Fld := ⟨R.TWIN_STEP_MISS, 31, 0⟩
def F.TWIN_OUTCRC_MISMATCH_CNT : Fld := ⟨R.TWIN_OUTCRC_MISMATCH, 31, 0⟩
def F.TWIN_COPY_MISS_CNT : Fld := ⟨R.TWIN_COPY_MISS, 31, 0⟩
def F.TWIN_FWD_DROPS_CNT : Fld := ⟨R.TWIN_FWD_DROPS, 31, 0⟩
def F.TWIN_BIST_STAT_COVER_AGE : Fld := ⟨R.TWIN_BIST_STAT, 31, 16⟩
def F.TWIN_BIST_STAT_KIND : Fld := ⟨R.TWIN_BIST_STAT, 15, 12⟩
def F.TWIN_BIST_STAT_UNIT : Fld := ⟨R.TWIN_BIST_STAT, 11, 6⟩
def F.TWIN_BIST_FAILS_CNT : Fld := ⟨R.TWIN_BIST_FAILS, 31, 0⟩
def F.TWIN_LAG_MAX : Fld := ⟨R.TWIN_LAG, 31, 16⟩
def F.TWIN_LAG_MIN : Fld := ⟨R.TWIN_LAG, 15, 0⟩
def F.TWIN_OWN_HEALTH_H (i : Nat) : Fld := ⟨R.TWIN_OWN_HEALTH i, 31, 0⟩
def F.TWIN_PEER_HEALTH_H (i : Nat) : Fld := ⟨R.TWIN_PEER_HEALTH i, 31, 0⟩
def F.MEMC_STATUS_SCRUBBING : Fld := ⟨R.MEMC_STATUS, 3, 3⟩
def F.MEMC_STATUS_EXITING : Fld := ⟨R.MEMC_STATUS, 2, 2⟩
def F.MEMC_STATUS_SELF_REFRESH : Fld := ⟨R.MEMC_STATUS, 1, 1⟩
def F.MEMC_STATUS_INIT_DONE : Fld := ⟨R.MEMC_STATUS, 0, 0⟩
def F.MEMC_CONF_COLOURS_COLOURS : Fld := ⟨R.MEMC_CONF_COLOURS, 15, 0⟩
def F.MEMC_HWIN_LO_ADDR : Fld := ⟨R.MEMC_HWIN_LO, 31, 21⟩
def F.MEMC_HWIN_HI_ADDR : Fld := ⟨R.MEMC_HWIN_HI, 7, 0⟩
def F.MEMC_SR_CTRL_EN : Fld := ⟨R.MEMC_SR_CTRL, 31, 31⟩
def F.MEMC_SR_CTRL_IDLE : Fld := ⟨R.MEMC_SR_CTRL, 23, 16⟩
def F.MEMC_SR_CTRL_MARGIN : Fld := ⟨R.MEMC_SR_CTRL, 7, 0⟩
def F.MEMC_SR_ENTRIES_CNT : Fld := ⟨R.MEMC_SR_ENTRIES, 31, 0⟩
def F.MEMC_SR_LATE_CNT : Fld := ⟨R.MEMC_SR_LATE, 31, 0⟩
def F.MEMC_SCRUB_CTRL_EN : Fld := ⟨R.MEMC_SCRUB_CTRL, 31, 31⟩
def F.MEMC_SCRUB_CTRL_PERIOD : Fld := ⟨R.MEMC_SCRUB_CTRL, 7, 0⟩
def F.MEMC_SCRUB_PASSES_CNT : Fld := ⟨R.MEMC_SCRUB_PASSES, 31, 0⟩
def F.MEMC_EVT_SR_LATE_EV : Fld := ⟨R.MEMC_EVT, 2, 2⟩
def F.MEMC_EVT_UE_EV : Fld := ⟨R.MEMC_EVT, 1, 1⟩
def F.MEMC_EVT_CE_EV : Fld := ⟨R.MEMC_EVT, 0, 0⟩
def F.MEMC_IRQ_EN_EN : Fld := ⟨R.MEMC_IRQ_EN, 2, 0⟩
def F.MEMC_CE_CNT_CNT : Fld := ⟨R.MEMC_CE_CNT, 31, 0⟩
def F.MEMC_UE_CNT_CNT : Fld := ⟨R.MEMC_UE_CNT, 31, 0⟩
def F.MEMC_CE_ADDR_LO_ADDR : Fld := ⟨R.MEMC_CE_ADDR_LO, 31, 6⟩
def F.MEMC_CE_ADDR_HI_ADDR : Fld := ⟨R.MEMC_CE_ADDR_HI, 7, 0⟩
def F.MEMC_UE_ADDR_LO_ADDR : Fld := ⟨R.MEMC_UE_ADDR_LO, 31, 6⟩
def F.MEMC_UE_ADDR_HI_ADDR : Fld := ⟨R.MEMC_UE_ADDR_HI, 7, 0⟩
def F.TAG_STATUS_CHECKERS : Fld := ⟨R.TAG_STATUS, 7, 0⟩
def F.TAG_VPEND_CHK (i : Nat) : Fld := ⟨R.TAG_VPEND i, 31, 0⟩
def F.TAG_IRQ_EN_EN : Fld := ⟨R.TAG_IRQ_EN, 0, 0⟩
def F.TAG_TAG_ERRS_CNT : Fld := ⟨R.TAG_TAG_ERRS, 31, 0⟩
def F.TAG_RC_PAGE_SPACE : Fld := ⟨R.TAG_RC_PAGE, 31, 31⟩
def F.TAG_RC_PAGE_PAGE : Fld := ⟨R.TAG_RC_PAGE, 22, 0⟩
def F.TAG_RC_COUNT_COUNT : Fld := ⟨R.TAG_RC_COUNT, 23, 0⟩
def F.TAG_RC_CTRL_KEY : Fld := ⟨R.TAG_RC_CTRL, 31, 24⟩
def F.TAG_RC_CTRL_ZERO : Fld := ⟨R.TAG_RC_CTRL, 8, 8⟩
def F.TAG_RC_CTRL_NEW : Fld := ⟨R.TAG_RC_CTRL, 3, 0⟩
def F.TAG_RC_STAT_CODE : Fld := ⟨R.TAG_RC_STAT, 31, 24⟩
def F.TAG_RC_STAT_FAIL : Fld := ⟨R.TAG_RC_STAT, 2, 2⟩
def F.TAG_RC_STAT_DONE : Fld := ⟨R.TAG_RC_STAT, 1, 1⟩
def F.TAG_RC_STAT_BUSY : Fld := ⟨R.TAG_RC_STAT, 0, 0⟩
def F.TAG_RC_DONE_COUNT : Fld := ⟨R.TAG_RC_DONE, 23, 0⟩
def F.TAG_RC_MASTER_MASTER : Fld := ⟨R.TAG_RC_MASTER, 15, 0⟩
def F.TAG_OUT_COLOUR_WINDOWS (i : Nat) : Fld := ⟨R.TAG_OUT_COLOUR i, 31, 0⟩
def F.CHK_MASK_WMASK_FIXED (n : Nat) : Fld := ⟨R.CHK_MASK n, 31, 29⟩
def F.CHK_MASK_WMASK (n : Nat) : Fld := ⟨R.CHK_MASK n, 28, 17⟩
def F.CHK_MASK_WZERO (n : Nat) : Fld := ⟨R.CHK_MASK n, 16, 16⟩
def F.CHK_MASK_RMASK_FIXED (n : Nat) : Fld := ⟨R.CHK_MASK n, 15, 13⟩
def F.CHK_MASK_RMASK (n : Nat) : Fld := ⟨R.CHK_MASK n, 12, 1⟩
def F.CHK_MASK_RZERO (n : Nat) : Fld := ⟨R.CHK_MASK n, 0, 0⟩
def F.CHK_INFO_WOPEN (n : Nat) : Fld := ⟨R.CHK_INFO n, 18, 18⟩
def F.CHK_INFO_ROPEN (n : Nat) : Fld := ⟨R.CHK_INFO n, 17, 17⟩
def F.CHK_INFO_PRESENT (n : Nat) : Fld := ⟨R.CHK_INFO n, 16, 16⟩
def F.CHK_INFO_ID (n : Nat) : Fld := ⟨R.CHK_INFO n, 15, 0⟩
def F.CHK_VSTAT_VALID (n : Nat) : Fld := ⟨R.CHK_VSTAT n, 0, 0⟩
def F.CHK_FIRST_ADDR_LO_ADDR (n : Nat) : Fld := ⟨R.CHK_FIRST_ADDR_LO n, 31, 0⟩
def F.CHK_FIRST_ADDR_HI_ADDR (n : Nat) : Fld := ⟨R.CHK_FIRST_ADDR_HI n, 7, 0⟩
def F.CHK_FIRST_INFO_REASON (n : Nat) : Fld := ⟨R.CHK_FIRST_INFO n, 31, 28⟩
def F.CHK_FIRST_INFO_COLOUR_FIRST (n : Nat) : Fld := ⟨R.CHK_FIRST_INFO n, 27, 24⟩
def F.CHK_FIRST_INFO_COLOUR_LAST (n : Nat) : Fld := ⟨R.CHK_FIRST_INFO n, 23, 20⟩
def F.CHK_FIRST_INFO_STRADDLE (n : Nat) : Fld := ⟨R.CHK_FIRST_INFO n, 19, 19⟩
def F.CHK_FIRST_INFO_WRITE (n : Nat) : Fld := ⟨R.CHK_FIRST_INFO n, 18, 18⟩
def F.CHK_FIRST_INFO_SPACE (n : Nat) : Fld := ⟨R.CHK_FIRST_INFO n, 17, 16⟩
def F.CHK_FIRST_INFO_SIZE (n : Nat) : Fld := ⟨R.CHK_FIRST_INFO n, 8, 0⟩
def F.CHK_VIOL_CNT_CNT (n : Nat) : Fld := ⟨R.CHK_VIOL_CNT n, 31, 0⟩
def F.CHK_BYTES_CNT (n : Nat) : Fld := ⟨R.CHK_BYTES n, 31, 0⟩
def F.TB_CTRL_KEY (n : Nat) : Fld := ⟨R.TB_CTRL n, 31, 24⟩
def F.TB_CTRL_OP (n : Nat) : Fld := ⟨R.TB_CTRL n, 3, 0⟩
def F.TB_STAT_IN_USE (n : Nat) : Fld := ⟨R.TB_STAT n, 2, 2⟩
def F.TB_STAT_SERVO_ON (n : Nat) : Fld := ⟨R.TB_STAT n, 1, 1⟩
def F.TB_STAT_LOCKED (n : Nat) : Fld := ⟨R.TB_STAT n, 0, 0⟩
def F.TB_EVT_STEP_EV (n : Nat) : Fld := ⟨R.TB_EVT n, 5, 5⟩
def F.TB_EVT_CFG_REJ_EV (n : Nat) : Fld := ⟨R.TB_EVT n, 4, 4⟩
def F.TB_EVT_OFFSET_ALARM_EV (n : Nat) : Fld := ⟨R.TB_EVT n, 3, 3⟩
def F.TB_EVT_HOLDOVER_EV (n : Nat) : Fld := ⟨R.TB_EVT n, 2, 2⟩
def F.TB_EVT_REFUSED_EV (n : Nat) : Fld := ⟨R.TB_EVT n, 1, 1⟩
def F.TB_EVT_LOCK_EV (n : Nat) : Fld := ⟨R.TB_EVT n, 0, 0⟩
def F.TB_IRQ_EN_EN (n : Nat) : Fld := ⟨R.TB_IRQ_EN n, 5, 0⟩
def F.TB_NOW_NS_NS (n : Nat) : Fld := ⟨R.TB_NOW_NS n, 29, 0⟩
def F.TB_NOW_SEC_LO_SEC (n : Nat) : Fld := ⟨R.TB_NOW_SEC_LO n, 31, 0⟩
def F.TB_NOW_SEC_HI_SEC (n : Nat) : Fld := ⟨R.TB_NOW_SEC_HI n, 15, 0⟩
def F.TB_NOW_FRAC_FRAC (n : Nat) : Fld := ⟨R.TB_NOW_FRAC n, 15, 0⟩
def F.TB_SET_SEC_LO_SEC (n : Nat) : Fld := ⟨R.TB_SET_SEC_LO n, 31, 0⟩
def F.TB_SET_SEC_HI_SEC (n : Nat) : Fld := ⟨R.TB_SET_SEC_HI n, 15, 0⟩
def F.TB_SET_NS_NS (n : Nat) : Fld := ⟨R.TB_SET_NS n, 29, 0⟩
def F.TB_STEP_LO_NS (n : Nat) : Fld := ⟨R.TB_STEP_LO n, 31, 0⟩
def F.TB_STEP_HI_NS (n : Nat) : Fld := ⟨R.TB_STEP_HI n, 31, 0⟩
def F.TB_RATE_LO_RATE (n : Nat) : Fld := ⟨R.TB_RATE_LO n, 31, 0⟩
def F.TB_RATE_HI_RATE (n : Nat) : Fld := ⟨R.TB_RATE_HI n, 31, 0⟩
def F.TB_HOLD_LIMIT (n : Nat) : Fld := ⟨R.TB_HOLD n, 15, 0⟩
def F.TB_OFFSET_IN_NS (n : Nat) : Fld := ⟨R.TB_OFFSET_IN n, 31, 0⟩
def F.TB_SERVO_EN (n : Nat) : Fld := ⟨R.TB_SERVO n, 31, 31⟩
def F.TB_SERVO_LOG_INTERVAL (n : Nat) : Fld := ⟨R.TB_SERVO n, 19, 16⟩
def F.TB_SERVO_KI (n : Nat) : Fld := ⟨R.TB_SERVO n, 15, 8⟩
def F.TB_SERVO_KP (n : Nat) : Fld := ⟨R.TB_SERVO n, 7, 0⟩
def F.TB_STEP_THRESH_NS (n : Nat) : Fld := ⟨R.TB_STEP_THRESH n, 30, 0⟩
def F.TB_LAST_OFFSET_NS (n : Nat) : Fld := ⟨R.TB_LAST_OFFSET n, 31, 0⟩
def F.TB_STEPS_CNT (n : Nat) : Fld := ⟨R.TB_STEPS n, 31, 0⟩
def F.TB_STEP_REFUSED_CNT (n : Nat) : Fld := ⟨R.TB_STEP_REFUSED n, 31, 0⟩
def F.TB_HOLDOVERS_CNT (n : Nat) : Fld := ⟨R.TB_HOLDOVERS n, 31, 0⟩
def F.TPORT_PTP_CFG_EN (n : Nat) : Fld := ⟨R.TPORT_PTP_CFG n, 31, 31⟩
def F.TPORT_PTP_CFG_IPV6 (n : Nat) : Fld := ⟨R.TPORT_PTP_CFG n, 18, 18⟩
def F.TPORT_PTP_CFG_IPV4 (n : Nat) : Fld := ⟨R.TPORT_PTP_CFG n, 17, 17⟩
def F.TPORT_PTP_CFG_L2 (n : Nat) : Fld := ⟨R.TPORT_PTP_CFG n, 16, 16⟩
def F.TPORT_PTP_CFG_DOMAIN_ANY (n : Nat) : Fld := ⟨R.TPORT_PTP_CFG n, 12, 12⟩
def F.TPORT_PTP_CFG_TB (n : Nat) : Fld := ⟨R.TPORT_PTP_CFG n, 11, 8⟩
def F.TPORT_PTP_CFG_DOMAIN (n : Nat) : Fld := ⟨R.TPORT_PTP_CFG n, 7, 0⟩
def F.TPORT_RX_ADJ_ADJ (n : Nat) : Fld := ⟨R.TPORT_RX_ADJ n, 15, 0⟩
def F.TPORT_TX_ADJ_ADJ (n : Nat) : Fld := ⟨R.TPORT_TX_ADJ n, 15, 0⟩
def F.TPORT_EVT_CFG_REJ_EV (n : Nat) : Fld := ⟨R.TPORT_EVT n, 2, 2⟩
def F.TPORT_EVT_RX_TS_EV (n : Nat) : Fld := ⟨R.TPORT_EVT n, 1, 1⟩
def F.TPORT_EVT_TX_TS_EV (n : Nat) : Fld := ⟨R.TPORT_EVT n, 0, 0⟩
def F.TPORT_IRQ_EN_EN (n : Nat) : Fld := ⟨R.TPORT_IRQ_EN n, 2, 0⟩
def F.TPORT_TXTS_STAT_OVF (n : Nat) : Fld := ⟨R.TPORT_TXTS_STAT n, 31, 31⟩
def F.TPORT_TXTS_STAT_COUNT (n : Nat) : Fld := ⟨R.TPORT_TXTS_STAT n, 4, 0⟩
def F.TPORT_TXTS_ID_VALID (n : Nat) : Fld := ⟨R.TPORT_TXTS_ID n, 31, 31⟩
def F.TPORT_TXTS_ID_ID (n : Nat) : Fld := ⟨R.TPORT_TXTS_ID n, 15, 0⟩
def F.TPORT_TXTS_NS_NS (n : Nat) : Fld := ⟨R.TPORT_TXTS_NS n, 29, 0⟩
def F.TPORT_TXTS_SEC_LO_SEC (n : Nat) : Fld := ⟨R.TPORT_TXTS_SEC_LO n, 31, 0⟩
def F.TPORT_TXTS_SEC_HI_FRAC (n : Nat) : Fld := ⟨R.TPORT_TXTS_SEC_HI n, 31, 16⟩
def F.TPORT_TXTS_SEC_HI_SEC (n : Nat) : Fld := ⟨R.TPORT_TXTS_SEC_HI n, 15, 0⟩
def F.TPORT_TXTS_POP_POP (n : Nat) : Fld := ⟨R.TPORT_TXTS_POP n, 0, 0⟩
def F.TPORT_TXTS_DROPS_CNT (n : Nat) : Fld := ⟨R.TPORT_TXTS_DROPS n, 31, 0⟩
def F.TPORT_RXTS_STAT_OVF (n : Nat) : Fld := ⟨R.TPORT_RXTS_STAT n, 31, 31⟩
def F.TPORT_RXTS_STAT_COUNT (n : Nat) : Fld := ⟨R.TPORT_RXTS_STAT n, 4, 0⟩
def F.TPORT_RXTS_ID_VALID (n : Nat) : Fld := ⟨R.TPORT_RXTS_ID n, 31, 31⟩
def F.TPORT_RXTS_ID_ID (n : Nat) : Fld := ⟨R.TPORT_RXTS_ID n, 15, 0⟩
def F.TPORT_RXTS_NS_NS (n : Nat) : Fld := ⟨R.TPORT_RXTS_NS n, 29, 0⟩
def F.TPORT_RXTS_SEC_LO_SEC (n : Nat) : Fld := ⟨R.TPORT_RXTS_SEC_LO n, 31, 0⟩
def F.TPORT_RXTS_SEC_HI_FRAC (n : Nat) : Fld := ⟨R.TPORT_RXTS_SEC_HI n, 31, 16⟩
def F.TPORT_RXTS_SEC_HI_SEC (n : Nat) : Fld := ⟨R.TPORT_RXTS_SEC_HI n, 15, 0⟩
def F.TPORT_RXTS_POP_POP (n : Nat) : Fld := ⟨R.TPORT_RXTS_POP n, 0, 0⟩
def F.TPORT_RXTS_DROPS_CNT (n : Nat) : Fld := ⟨R.TPORT_RXTS_DROPS n, 31, 0⟩
def F.TIMEG_INFO_SERVO : Fld := ⟨R.TIMEG_INFO, 4, 4⟩
def F.TIMEG_INFO_COUNT : Fld := ⟨R.TIMEG_INFO, 3, 0⟩
def F.TIMEG_PEND_PORT : Fld := ⟨R.TIMEG_PEND, 23, 16⟩
def F.TIMEG_PEND_TB : Fld := ⟨R.TIMEG_PEND, 7, 0⟩
def F.IRQ_INFO_GROUPS : Fld := ⟨R.IRQ_INFO, 29, 24⟩
def F.IRQ_INFO_TARGETS : Fld := ⟨R.IRQ_INFO, 19, 16⟩
def F.IRQ_INFO_SOURCES : Fld := ⟨R.IRQ_INFO, 9, 0⟩
def F.IRQ_SWI_SET_SWI : Fld := ⟨R.IRQ_SWI_SET, 15, 0⟩
def F.IRQ_HOLDOFF_US (i : Nat) : Fld := ⟨R.IRQ_HOLDOFF i, 15, 0⟩
def F.IRQ_PEND_SRCS (i : Nat) : Fld := ⟨R.IRQ_PEND i, 31, 0⟩
def F.IRQ_INSERV_SRCS (i : Nat) : Fld := ⟨R.IRQ_INSERV i, 31, 0⟩
def F.IRQ_CFG_EN (i : Nat) : Fld := ⟨R.IRQ_CFG i, 31, 31⟩
def F.IRQ_CFG_LOCKED (i : Nat) : Fld := ⟨R.IRQ_CFG i, 30, 30⟩
def F.IRQ_CFG_EDGE (i : Nat) : Fld := ⟨R.IRQ_CFG i, 29, 29⟩
def F.IRQ_CFG_PRIORITY (i : Nat) : Fld := ⟨R.IRQ_CFG i, 19, 16⟩
def F.IRQ_CFG_TARGETS (i : Nat) : Fld := ⟨R.IRQ_CFG i, 11, 0⟩
def F.TGT_CTRL_EN (n : Nat) : Fld := ⟨R.TGT_CTRL n, 31, 31⟩
def F.TGT_CTRL_THRESHOLD (n : Nat) : Fld := ⟨R.TGT_CTRL n, 3, 0⟩
def F.TGT_STAT_FROZEN (n : Nat) : Fld := ⟨R.TGT_STAT n, 31, 31⟩
def F.TGT_STAT_AWAKE (n : Nat) : Fld := ⟨R.TGT_STAT n, 30, 30⟩
def F.TGT_STAT_LINE (n : Nat) : Fld := ⟨R.TGT_STAT n, 29, 29⟩
def F.TGT_STAT_DEPTH (n : Nat) : Fld := ⟨R.TGT_STAT n, 20, 16⟩
def F.TGT_STAT_TOP_PRIO (n : Nat) : Fld := ⟨R.TGT_STAT n, 15, 12⟩
def F.TGT_STAT_TOP_SRC (n : Nat) : Fld := ⟨R.TGT_STAT n, 8, 0⟩
def F.TGT_CLAIM_VALID (n : Nat) : Fld := ⟨R.TGT_CLAIM n, 31, 31⟩
def F.TGT_CLAIM_PRIORITY (n : Nat) : Fld := ⟨R.TGT_CLAIM n, 19, 16⟩
def F.TGT_CLAIM_SOURCE (n : Nat) : Fld := ⟨R.TGT_CLAIM n, 8, 0⟩
def F.TGT_COMPLETE_SOURCE (n : Nat) : Fld := ⟨R.TGT_COMPLETE n, 8, 0⟩
def F.TGT_STACK_RESET_KEY (n : Nat) : Fld := ⟨R.TGT_STACK_RESET n, 31, 24⟩
def F.TGT_STACK_RESET_GO (n : Nat) : Fld := ⟨R.TGT_STACK_RESET n, 0, 0⟩
def F.TGT_FAULT_INFO_VALID (n : Nat) : Fld := ⟨R.TGT_FAULT_INFO n, 31, 31⟩
def F.TGT_FAULT_INFO_TOP (n : Nat) : Fld := ⟨R.TGT_FAULT_INFO n, 24, 16⟩
def F.TGT_FAULT_INFO_WRITTEN (n : Nat) : Fld := ⟨R.TGT_FAULT_INFO n, 8, 0⟩
def F.TGT_CLAIMS_CNT (n : Nat) : Fld := ⟨R.TGT_CLAIMS n, 31, 0⟩
def F.TGT_FAULTS_CNT (n : Nat) : Fld := ⟨R.TGT_FAULTS n, 31, 0⟩
def F.TGT_STACK_VALID (n i : Nat) : Fld := ⟨R.TGT_STACK n i, 31, 31⟩
def F.TGT_STACK_PRIORITY (n i : Nat) : Fld := ⟨R.TGT_STACK n i, 19, 16⟩
def F.TGT_STACK_SOURCE (n i : Nat) : Fld := ⟨R.TGT_STACK n i, 8, 0⟩
def F.MSIX_TABLE_V (i : Nat) : Fld := ⟨R.MSIX_TABLE i, 31, 0⟩
def F.MSIX_PBA_PENDING : Fld := ⟨R.MSIX_PBA, 4, 0⟩
def F.CVE_CTRL_KEY (n : Nat) : Fld := ⟨R.CVE_CTRL n, 31, 24⟩
def F.CVE_CTRL_OP (n : Nat) : Fld := ⟨R.CVE_CTRL n, 3, 0⟩
def F.CVE_CFG_RES_EN (n : Nat) : Fld := ⟨R.CVE_CFG n, 19, 19⟩
def F.CVE_CFG_STOP_ON_MISMATCH (n : Nat) : Fld := ⟨R.CVE_CFG n, 18, 18⟩
def F.CVE_CFG_CMP_SEL (n : Nat) : Fld := ⟨R.CVE_CFG n, 17, 17⟩
def F.CVE_CFG_CMP_EN (n : Nat) : Fld := ⟨R.CVE_CFG n, 16, 16⟩
def F.CVE_CFG_BLOCK_LOG2 (n : Nat) : Fld := ⟨R.CVE_CFG n, 12, 8⟩
def F.CVE_CFG_POLY (n : Nat) : Fld := ⟨R.CVE_CFG n, 1, 0⟩
def F.CVE_START_LO_ADDR (n : Nat) : Fld := ⟨R.CVE_START_LO n, 31, 0⟩
def F.CVE_START_HI_ADDR (n : Nat) : Fld := ⟨R.CVE_START_HI n, 7, 0⟩
def F.CVE_LENGTH_LEN (n : Nat) : Fld := ⟨R.CVE_LENGTH n, 31, 0⟩
def F.CVE_RES_LO_ADDR (n : Nat) : Fld := ⟨R.CVE_RES_LO n, 31, 5⟩
def F.CVE_RES_HI_ADDR (n : Nat) : Fld := ⟨R.CVE_RES_HI n, 7, 0⟩
def F.CVE_EXP_LO_ADDR (n : Nat) : Fld := ⟨R.CVE_EXP_LO n, 31, 3⟩
def F.CVE_EXP_HI_ADDR (n : Nat) : Fld := ⟨R.CVE_EXP_HI n, 7, 0⟩
def F.CVE_ALIVE_ALIVE (n : Nat) : Fld := ⟨R.CVE_ALIVE n, 3, 0⟩
def F.CVE_STAT_CODE (n : Nat) : Fld := ⟨R.CVE_STAT n, 31, 24⟩
def F.CVE_STAT_MISMATCH_EV (n : Nat) : Fld := ⟨R.CVE_STAT n, 3, 3⟩
def F.CVE_STAT_FAIL (n : Nat) : Fld := ⟨R.CVE_STAT n, 2, 2⟩
def F.CVE_STAT_DONE (n : Nat) : Fld := ⟨R.CVE_STAT n, 1, 1⟩
def F.CVE_STAT_BUSY (n : Nat) : Fld := ⟨R.CVE_STAT n, 0, 0⟩
def F.CVE_IRQ_EN_EN (n : Nat) : Fld := ⟨R.CVE_IRQ_EN n, 3, 1⟩
def F.CVE_VALUE_LO_V (n : Nat) : Fld := ⟨R.CVE_VALUE_LO n, 31, 0⟩
def F.CVE_VALUE_HI_V (n : Nat) : Fld := ⟨R.CVE_VALUE_HI n, 31, 0⟩
def F.CVE_AVALUE_LO_V (n : Nat) : Fld := ⟨R.CVE_AVALUE_LO n, 31, 0⟩
def F.CVE_AVALUE_HI_V (n : Nat) : Fld := ⟨R.CVE_AVALUE_HI n, 31, 0⟩
def F.CVE_PROGRESS_LO_ADDR (n : Nat) : Fld := ⟨R.CVE_PROGRESS_LO n, 31, 0⟩
def F.CVE_PROGRESS_HI_ADDR (n : Nat) : Fld := ⟨R.CVE_PROGRESS_HI n, 7, 0⟩
def F.CVE_DONE_BLOCKS_CNT (n : Nat) : Fld := ⟨R.CVE_DONE_BLOCKS n, 31, 0⟩
def F.CVE_MISMATCHES_CNT (n : Nat) : Fld := ⟨R.CVE_MISMATCHES n, 31, 0⟩
def F.CVE_FIRST_MISMATCH_IDX (n : Nat) : Fld := ⟨R.CVE_FIRST_MISMATCH n, 31, 0⟩
def F.CVE_JOBS_CNT (n : Nat) : Fld := ⟨R.CVE_JOBS n, 31, 0⟩
def F.LANE_INFO_RX (n : Nat) : Fld := ⟨R.LANE_INFO n, 21, 21⟩
def F.LANE_INFO_TX (n : Nat) : Fld := ⟨R.LANE_INFO n, 20, 20⟩
def F.LANE_INFO_LANE (n : Nat) : Fld := ⟨R.LANE_INFO n, 18, 16⟩
def F.LANE_INFO_UNIT (n : Nat) : Fld := ⟨R.LANE_INFO n, 11, 8⟩
def F.LANE_INFO_FUNCTION (n : Nat) : Fld := ⟨R.LANE_INFO n, 3, 0⟩
def F.LANE_CTRL_SLIP (n : Nat) : Fld := ⟨R.LANE_CTRL n, 8, 8⟩
def F.LANE_CTRL_PWR (n : Nat) : Fld := ⟨R.LANE_CTRL n, 1, 0⟩
def F.LANE_STAT_BOUNDARY (n : Nat) : Fld := ⟨R.LANE_STAT n, 23, 16⟩
def F.LANE_STAT_SLIP_PEND (n : Nat) : Fld := ⟨R.LANE_STAT n, 7, 7⟩
def F.LANE_STAT_PRBS_LOCK (n : Nat) : Fld := ⟨R.LANE_STAT n, 6, 6⟩
def F.LANE_STAT_SIGNAL (n : Nat) : Fld := ⟨R.LANE_STAT n, 5, 5⟩
def F.LANE_STAT_CDR_LOCK (n : Nat) : Fld := ⟨R.LANE_STAT n, 4, 4⟩
def F.LANE_STAT_PLL_LOCK (n : Nat) : Fld := ⟨R.LANE_STAT n, 3, 3⟩
def F.LANE_STAT_STATE (n : Nat) : Fld := ⟨R.LANE_STAT n, 2, 0⟩
def F.LANE_EVT_CFG_REJ_EV (n : Nat) : Fld := ⟨R.LANE_EVT n, 4, 4⟩
def F.LANE_EVT_PRBS_LOSS_EV (n : Nat) : Fld := ⟨R.LANE_EVT n, 3, 3⟩
def F.LANE_EVT_PRBS_LOCK_EV (n : Nat) : Fld := ⟨R.LANE_EVT n, 2, 2⟩
def F.LANE_EVT_LOCK_LOSS_EV (n : Nat) : Fld := ⟨R.LANE_EVT n, 1, 1⟩
def F.LANE_EVT_STATE_EV (n : Nat) : Fld := ⟨R.LANE_EVT n, 0, 0⟩
def F.LANE_IRQ_EN_EN (n : Nat) : Fld := ⟨R.LANE_IRQ_EN n, 4, 0⟩
def F.LANE_RATE_MBPS (n : Nat) : Fld := ⟨R.LANE_RATE n, 14, 0⟩
def F.LANE_RAW_CFG_RX_INV (n : Nat) : Fld := ⟨R.LANE_RAW_CFG n, 17, 17⟩
def F.LANE_RAW_CFG_TX_INV (n : Nat) : Fld := ⟨R.LANE_RAW_CFG n, 16, 16⟩
def F.LANE_RAW_CFG_RX_PRBS (n : Nat) : Fld := ⟨R.LANE_RAW_CFG n, 13, 12⟩
def F.LANE_RAW_CFG_CHK_EN (n : Nat) : Fld := ⟨R.LANE_RAW_CFG n, 8, 8⟩
def F.LANE_RAW_CFG_TX_PRBS (n : Nat) : Fld := ⟨R.LANE_RAW_CFG n, 5, 4⟩
def F.LANE_RAW_CFG_TX_SRC (n : Nat) : Fld := ⟨R.LANE_RAW_CFG n, 1, 0⟩
def F.LANE_TX_WORD_LO_W (n : Nat) : Fld := ⟨R.LANE_TX_WORD_LO n, 31, 0⟩
def F.LANE_TX_WORD_HI_W (n : Nat) : Fld := ⟨R.LANE_TX_WORD_HI n, 7, 0⟩
def F.LANE_RX_WORD_LO_W (n : Nat) : Fld := ⟨R.LANE_RX_WORD_LO n, 31, 0⟩
def F.LANE_RX_WORD_HI_W (n : Nat) : Fld := ⟨R.LANE_RX_WORD_HI n, 7, 0⟩
def F.LANE_ERR_CNT_CNT (n : Nat) : Fld := ⟨R.LANE_ERR_CNT n, 31, 0⟩
def F.LANE_BITS_LO_CNT (n : Nat) : Fld := ⟨R.LANE_BITS_LO n, 31, 0⟩
def F.LANE_BITS_HI_CNT (n : Nat) : Fld := ⟨R.LANE_BITS_HI n, 31, 0⟩
def F.LANE_LOSS_CNT_CNT (n : Nat) : Fld := ⟨R.LANE_LOSS_CNT n, 31, 0⟩
def F.LANE_SLIPS_CNT (n : Nat) : Fld := ⟨R.LANE_SLIPS n, 31, 0⟩
def F.LANE_LOCK_LOSS_CNT (n : Nat) : Fld := ⟨R.LANE_LOCK_LOSS n, 31, 0⟩
def F.LANEG_EVT_LANES (i : Nat) : Fld := ⟨R.LANEG_EVT i, 15, 0⟩
def F.SAP_CTRL_MUTE (n : Nat) : Fld := ⟨R.SAP_CTRL n, 1, 1⟩
def F.SAP_CTRL_RUN (n : Nat) : Fld := ⟨R.SAP_CTRL n, 0, 0⟩
def F.SAP_FMT_MCLK_DIV (n : Nat) : Fld := ⟨R.SAP_FMT n, 31, 24⟩
def F.SAP_FMT_MCLK_EN (n : Nat) : Fld := ⟨R.SAP_FMT n, 23, 23⟩
def F.SAP_FMT_MASTER (n : Nat) : Fld := ⟨R.SAP_FMT n, 22, 22⟩
def F.SAP_FMT_BCLK_INV (n : Nat) : Fld := ⟨R.SAP_FMT n, 21, 21⟩
def F.SAP_FMT_DELAY (n : Nat) : Fld := ⟨R.SAP_FMT n, 20, 20⟩
def F.SAP_FMT_PACK (n : Nat) : Fld := ⟨R.SAP_FMT n, 19, 19⟩
def F.SAP_FMT_SAMPLE_W (n : Nat) : Fld := ⟨R.SAP_FMT n, 18, 17⟩
def F.SAP_FMT_SLOT_W (n : Nat) : Fld := ⟨R.SAP_FMT n, 16, 15⟩
def F.SAP_FMT_SLOTS (n : Nat) : Fld := ⟨R.SAP_FMT n, 14, 10⟩
def F.SAP_FMT_FORMAT (n : Nat) : Fld := ⟨R.SAP_FMT n, 1, 0⟩
def F.SAP_DIV_DIV (n : Nat) : Fld := ⟨R.SAP_DIV n, 31, 0⟩
def F.SAP_ROUTE_TB (n : Nat) : Fld := ⟨R.SAP_ROUTE n, 11, 8⟩
def F.SAP_ROUTE_GROUP (n : Nat) : Fld := ⟨R.SAP_ROUTE n, 7, 6⟩
def F.SAP_ROUTE_RX_DST (n : Nat) : Fld := ⟨R.SAP_ROUTE n, 2, 2⟩
def F.SAP_ROUTE_TX_SRC (n : Nat) : Fld := ⟨R.SAP_ROUTE n, 1, 0⟩
def F.SAP_SLOT_MASK_TX_MASK (n : Nat) : Fld := ⟨R.SAP_SLOT_MASK n, 31, 16⟩
def F.SAP_SLOT_MASK_RX_MASK (n : Nat) : Fld := ⟨R.SAP_SLOT_MASK n, 15, 0⟩
def F.SAP_BIND_VC (n : Nat) : Fld := ⟨R.SAP_BIND n, 31, 28⟩
def F.SAP_BIND_TAG (n : Nat) : Fld := ⟨R.SAP_BIND n, 27, 16⟩
def F.SAP_BIND_ENTRY (n : Nat) : Fld := ⟨R.SAP_BIND n, 8, 0⟩
def F.SAP_BIND_RX_VC (n : Nat) : Fld := ⟨R.SAP_BIND_RX n, 31, 28⟩
def F.SAP_BIND_RX_TAG (n : Nat) : Fld := ⟨R.SAP_BIND_RX n, 27, 16⟩
def F.SAP_BIND_RX_PKT_FRAMES (n : Nat) : Fld := ⟨R.SAP_BIND_RX n, 7, 0⟩
def F.SAP_LATENCY_US (n : Nat) : Fld := ⟨R.SAP_LATENCY n, 23, 0⟩
def F.SAP_ZC_MS (n : Nat) : Fld := ⟨R.SAP_ZC n, 6, 0⟩
def F.SAP_TX_BASE_LO_ADDR (n : Nat) : Fld := ⟨R.SAP_TX_BASE_LO n, 31, 12⟩
def F.SAP_TX_BASE_HI_ADDR (n : Nat) : Fld := ⟨R.SAP_TX_BASE_HI n, 7, 0⟩
def F.SAP_TX_RING_RING_LOG2 (n : Nat) : Fld := ⟨R.SAP_TX_RING n, 4, 0⟩
def F.SAP_TX_WR_IDX (n : Nat) : Fld := ⟨R.SAP_TX_WR n, 31, 0⟩
def F.SAP_TX_RD_IDX (n : Nat) : Fld := ⟨R.SAP_TX_RD n, 31, 0⟩
def F.SAP_RX_BASE_LO_ADDR (n : Nat) : Fld := ⟨R.SAP_RX_BASE_LO n, 31, 12⟩
def F.SAP_RX_BASE_HI_ADDR (n : Nat) : Fld := ⟨R.SAP_RX_BASE_HI n, 7, 0⟩
def F.SAP_RX_RING_RING_LOG2 (n : Nat) : Fld := ⟨R.SAP_RX_RING n, 4, 0⟩
def F.SAP_RX_WR_IDX (n : Nat) : Fld := ⟨R.SAP_RX_WR n, 31, 0⟩
def F.SAP_RX_RD_IDX (n : Nat) : Fld := ⟨R.SAP_RX_RD n, 31, 0⟩
def F.SAP_PERIOD_FRAMES (n : Nat) : Fld := ⟨R.SAP_PERIOD n, 15, 0⟩
def F.SAP_STAT_LEADER (n : Nat) : Fld := ⟨R.SAP_STAT n, 4, 4⟩
def F.SAP_STAT_STARVED (n : Nat) : Fld := ⟨R.SAP_STAT n, 3, 3⟩
def F.SAP_STAT_UNTIMED (n : Nat) : Fld := ⟨R.SAP_STAT n, 2, 2⟩
def F.SAP_STAT_CLK_OK (n : Nat) : Fld := ⟨R.SAP_STAT n, 1, 1⟩
def F.SAP_STAT_RUNNING (n : Nat) : Fld := ⟨R.SAP_STAT n, 0, 0⟩
def F.SAP_EVT_CFG_REJ_EV (n : Nat) : Fld := ⟨R.SAP_EVT n, 5, 5⟩
def F.SAP_EVT_MASK_EV (n : Nat) : Fld := ⟨R.SAP_EVT n, 4, 4⟩
def F.SAP_EVT_FRAME_EV (n : Nat) : Fld := ⟨R.SAP_EVT n, 3, 3⟩
def F.SAP_EVT_SLIP_EV (n : Nat) : Fld := ⟨R.SAP_EVT n, 2, 2⟩
def F.SAP_EVT_ZC_EV (n : Nat) : Fld := ⟨R.SAP_EVT n, 1, 1⟩
def F.SAP_EVT_PERIOD_EV (n : Nat) : Fld := ⟨R.SAP_EVT n, 0, 0⟩
def F.SAP_IRQ_EN_EN (n : Nat) : Fld := ⟨R.SAP_IRQ_EN n, 5, 0⟩
def F.SAP_MEAS_FS_FS (n : Nat) : Fld := ⟨R.SAP_MEAS_FS n, 23, 0⟩
def F.SAP_SLIP_REP_CNT (n : Nat) : Fld := ⟨R.SAP_SLIP_REP n, 31, 0⟩
def F.SAP_SLIP_DROP_CNT (n : Nat) : Fld := ⟨R.SAP_SLIP_DROP n, 31, 0⟩
def F.SAP_PKT_DROPS_CNT (n : Nat) : Fld := ⟨R.SAP_PKT_DROPS n, 31, 0⟩
def F.SAP_FRAME_ERR_CNT (n : Nat) : Fld := ⟨R.SAP_FRAME_ERR n, 31, 0⟩
def F.SAP_MASK_POS_POS (n : Nat) : Fld := ⟨R.SAP_MASK_POS n, 31, 0⟩
def F.AUDG_PLL_CFG_FREQ : Fld := ⟨R.AUDG_PLL_CFG, 0, 0⟩
def F.AUDG_PLL_ADJ_ADJ : Fld := ⟨R.AUDG_PLL_ADJ, 31, 0⟩
def F.AUDG_GEVT_CFG_REJ_EV : Fld := ⟨R.AUDG_GEVT, 0, 0⟩
def F.TCH_CTRL_RUN (n : Nat) : Fld := ⟨R.TCH_CTRL n, 0, 0⟩
def F.TCH_CFG_TB (n : Nat) : Fld := ⟨R.TCH_CFG n, 27, 24⟩
def F.TCH_CFG_F_OSC (n : Nat) : Fld := ⟨R.TCH_CFG n, 18, 16⟩
def F.TCH_CFG_WINDOW (n : Nat) : Fld := ⟨R.TCH_CFG n, 11, 0⟩
def F.TCH_SCAN_PERIOD (n : Nat) : Fld := ⟨R.TCH_SCAN n, 19, 0⟩
def F.TCH_THRESH_REL_HYST (n : Nat) : Fld := ⟨R.TCH_THRESH n, 31, 16⟩
def F.TCH_THRESH_TOUCH (n : Nat) : Fld := ⟨R.TCH_THRESH n, 15, 0⟩
def F.TCH_FILTER_ANTI_THRESH (n : Nat) : Fld := ⟨R.TCH_FILTER n, 31, 24⟩
def F.TCH_FILTER_ANTI_SCANS (n : Nat) : Fld := ⟨R.TCH_FILTER n, 23, 20⟩
def F.TCH_FILTER_DEBOUNCE (n : Nat) : Fld := ⟨R.TCH_FILTER n, 19, 16⟩
def F.TCH_FILTER_DRIFT_SCANS (n : Nat) : Fld := ⟨R.TCH_FILTER n, 15, 0⟩
def F.TCH_MAX_TOUCH_S (n : Nat) : Fld := ⟨R.TCH_MAX_TOUCH n, 11, 0⟩
def F.TCH_CH_EN_LO_EN (n : Nat) : Fld := ⟨R.TCH_CH_EN_LO n, 31, 0⟩
def F.TCH_CH_EN_HI_EN (n : Nat) : Fld := ⟨R.TCH_CH_EN_HI n, 31, 0⟩
def F.TCH_STAT_CAL_BUSY (n : Nat) : Fld := ⟨R.TCH_STAT n, 2, 2⟩
def F.TCH_STAT_SCANNING (n : Nat) : Fld := ⟨R.TCH_STAT n, 1, 1⟩
def F.TCH_STAT_RUNNING (n : Nat) : Fld := ⟨R.TCH_STAT n, 0, 0⟩
def F.TCH_EVT_CFG_REJ_EV (n : Nat) : Fld := ⟨R.TCH_EVT n, 3, 3⟩
def F.TCH_EVT_FAULT_EV (n : Nat) : Fld := ⟨R.TCH_EVT n, 2, 2⟩
def F.TCH_EVT_OVF_EV (n : Nat) : Fld := ⟨R.TCH_EVT n, 1, 1⟩
def F.TCH_EVT_Q_EV (n : Nat) : Fld := ⟨R.TCH_EVT n, 0, 0⟩
def F.TCH_IRQ_EN_EN (n : Nat) : Fld := ⟨R.TCH_IRQ_EN n, 3, 0⟩
def F.TCH_TOUCHED_LO_CH (n : Nat) : Fld := ⟨R.TCH_TOUCHED_LO n, 31, 0⟩
def F.TCH_TOUCHED_HI_CH (n : Nat) : Fld := ⟨R.TCH_TOUCHED_HI n, 31, 0⟩
def F.TCH_Q_BASE_LO_ADDR (n : Nat) : Fld := ⟨R.TCH_Q_BASE_LO n, 31, 12⟩
def F.TCH_Q_BASE_HI_ADDR (n : Nat) : Fld := ⟨R.TCH_Q_BASE_HI n, 7, 0⟩
def F.TCH_Q_CFG_Q_LOG2 (n : Nat) : Fld := ⟨R.TCH_Q_CFG n, 3, 0⟩
def F.TCH_Q_WR_IDX (n : Nat) : Fld := ⟨R.TCH_Q_WR n, 15, 0⟩
def F.TCH_Q_RD_IDX (n : Nat) : Fld := ⟨R.TCH_Q_RD n, 15, 0⟩
def F.TCH_Q_DROPS_CNT (n : Nat) : Fld := ⟨R.TCH_Q_DROPS n, 31, 0⟩
def F.TCH_SCANS_CNT (n : Nat) : Fld := ⟨R.TCH_SCANS n, 31, 0⟩
def F.TCHC_COMP_COMP (n m : Nat) : Fld := ⟨R.TCHC_COMP n m, 7, 0⟩
def F.TCHC_RAW_RAW (n m : Nat) : Fld := ⟨R.TCHC_RAW n m, 12, 0⟩
def F.TCHC_BASE_BASE (n m : Nat) : Fld := ⟨R.TCHC_BASE n m, 12, 0⟩
def F.TCHC_STAT_FAULT (n m : Nat) : Fld := ⟨R.TCHC_STAT n m, 31, 31⟩
def F.TCHC_STAT_TOUCHED (n m : Nat) : Fld := ⟨R.TCHC_STAT n m, 30, 30⟩
def F.TCHC_STAT_DELTA (n m : Nat) : Fld := ⟨R.TCHC_STAT n m, 15, 0⟩
def F.THERM_STATUS_BND_FALLBACK : Fld := ⟨R.THERM_STATUS, 11, 11⟩
def F.THERM_STATUS_WRITE_OK : Fld := ⟨R.THERM_STATUS, 10, 10⟩
def F.THERM_STATUS_REARM_OK : Fld := ⟨R.THERM_STATUS, 9, 9⟩
def F.THERM_STATUS_CH_SPLIT : Fld := ⟨R.THERM_STATUS, 8, 8⟩
def F.THERM_STATUS_DISPLAY : Fld := ⟨R.THERM_STATUS, 7, 6⟩
def F.THERM_STATUS_TRIP_LATCH : Fld := ⟨R.THERM_STATUS, 5, 5⟩
def F.THERM_STATUS_STOP_LATCH : Fld := ⟨R.THERM_STATUS, 4, 4⟩
def F.THERM_STATUS_LEVEL : Fld := ⟨R.THERM_STATUS, 2, 0⟩
def F.THERM_CTRL_KEY : Fld := ⟨R.THERM_CTRL, 31, 24⟩
def F.THERM_CTRL_OP : Fld := ⟨R.THERM_CTRL, 3, 0⟩
def F.THERM_EVT_REARM_REJ_EV : Fld := ⟨R.THERM_EVT, 7, 7⟩
def F.THERM_EVT_REARM_EV : Fld := ⟨R.THERM_EVT, 6, 6⟩
def F.THERM_EVT_BND_EV : Fld := ⟨R.THERM_EVT, 5, 5⟩
def F.THERM_EVT_PSENSE_EV : Fld := ⟨R.THERM_EVT, 4, 4⟩
def F.THERM_EVT_TRIP_EV : Fld := ⟨R.THERM_EVT, 3, 3⟩
def F.THERM_EVT_STOP_EV : Fld := ⟨R.THERM_EVT, 2, 2⟩
def F.THERM_EVT_THROTTLE_EV : Fld := ⟨R.THERM_EVT, 1, 1⟩
def F.THERM_EVT_WARN_EV : Fld := ⟨R.THERM_EVT, 0, 0⟩
def F.THERM_IRQ_EN_EN : Fld := ⟨R.THERM_IRQ_EN, 7, 0⟩
def F.THERM_TJ_HOT : Fld := ⟨R.THERM_TJ, 21, 16⟩
def F.THERM_TJ_TJ : Fld := ⟨R.THERM_TJ, 15, 0⟩
def F.THERM_TJ_PEAK_PEAK : Fld := ⟨R.THERM_TJ_PEAK, 15, 0⟩
def F.THERM_PRED_TRIP_MS : Fld := ⟨R.THERM_PRED_TRIP, 15, 0⟩
def F.THERM_BOUNDARY_T : Fld := ⟨R.THERM_BOUNDARY, 15, 0⟩
def F.THERM_BND_CFG_BND_SWAP : Fld := ⟨R.THERM_BND_CFG, 24, 24⟩
def F.THERM_BND_CFG_BND_CMD : Fld := ⟨R.THERM_BND_CFG, 23, 16⟩
def F.THERM_BND_CFG_BND_ADDR : Fld := ⟨R.THERM_BND_CFG, 14, 8⟩
def F.THERM_BND_CFG_BND_PORT : Fld := ⟨R.THERM_BND_CFG, 4, 4⟩
def F.THERM_BND_CFG_SRC : Fld := ⟨R.THERM_BND_CFG, 0, 0⟩
def F.THERM_BND_CONST_T : Fld := ⟨R.THERM_BND_CONST, 15, 0⟩
def F.THERM_BND_FAILS_CNT : Fld := ⟨R.THERM_BND_FAILS, 31, 0⟩
def F.THERM_BELOW_MS_MS : Fld := ⟨R.THERM_BELOW_MS, 31, 0⟩
def F.THERM_THROTTLES_CNT : Fld := ⟨R.THERM_THROTTLES, 31, 0⟩
def F.THERM_DOM_PWR_MW (i : Nat) : Fld := ⟨R.THERM_DOM_PWR i, 19, 0⟩
def F.THERM_NODE_T_T (i : Nat) : Fld := ⟨R.THERM_NODE_T i, 15, 0⟩
def F.SEC_STATUS_FLOOR_USED : Fld := ⟨R.SEC_STATUS, 21, 17⟩
def F.SEC_STATUS_DEBUG_KEY : Fld := ⟨R.SEC_STATUS, 16, 16⟩
def F.SEC_STATUS_REVOKED : Fld := ⟨R.SEC_STATUS, 15, 12⟩
def F.SEC_STATUS_ENROLLED : Fld := ⟨R.SEC_STATUS, 11, 8⟩
def F.SEC_STATUS_KEYSTORE_OK : Fld := ⟨R.SEC_STATUS, 4, 4⟩
def F.SEC_STATUS_DEBUG_UNLOCKED : Fld := ⟨R.SEC_STATUS, 3, 3⟩
def F.SEC_STATUS_ID_OK : Fld := ⟨R.SEC_STATUS, 2, 2⟩
def F.SEC_STATUS_LIFECYCLE : Fld := ⟨R.SEC_STATUS, 1, 0⟩
def F.SEC_MB_CMD_KEY : Fld := ⟨R.SEC_MB_CMD, 31, 24⟩
def F.SEC_MB_CMD_OP : Fld := ⟨R.SEC_MB_CMD, 7, 0⟩
def F.SEC_MB_STAT_CODE : Fld := ⟨R.SEC_MB_STAT, 31, 24⟩
def F.SEC_MB_STAT_FAIL : Fld := ⟨R.SEC_MB_STAT, 2, 2⟩
def F.SEC_MB_STAT_DONE : Fld := ⟨R.SEC_MB_STAT, 1, 1⟩
def F.SEC_MB_STAT_BUSY : Fld := ⟨R.SEC_MB_STAT, 0, 0⟩
def F.SEC_MB_MASTER_MASTER : Fld := ⟨R.SEC_MB_MASTER, 15, 0⟩
def F.SEC_MB_BUF_LO_ADDR : Fld := ⟨R.SEC_MB_BUF_LO, 31, 6⟩
def F.SEC_MB_BUF_HI_ADDR : Fld := ⟨R.SEC_MB_BUF_HI, 7, 0⟩
def F.SEC_EVT_ID_FAIL_EV : Fld := ⟨R.SEC_EVT, 3, 3⟩
def F.SEC_EVT_DEBUG_EV : Fld := ⟨R.SEC_EVT, 2, 2⟩
def F.SEC_EVT_LIFECYCLE_EV : Fld := ⟨R.SEC_EVT, 1, 1⟩
def F.SEC_EVT_MB_EV : Fld := ⟨R.SEC_EVT, 0, 0⟩
def F.SEC_IRQ_EN_EN : Fld := ⟨R.SEC_IRQ_EN, 3, 0⟩
def F.SEC_PLAN_FLOOR_FLOOR : Fld := ⟨R.SEC_PLAN_FLOOR, 31, 0⟩
def F.SEC_ID_HASH_HASH (i : Nat) : Fld := ⟨R.SEC_ID_HASH i, 31, 0⟩
def F.SEC_MB_DATA_D (i : Nat) : Fld := ⟨R.SEC_MB_DATA i, 31, 0⟩
def F.CLKRST_CAUSE_BOOT_SRC : Fld := ⟨R.CLKRST_CAUSE, 8, 8⟩
def F.CLKRST_CAUSE_SOURCE : Fld := ⟨R.CLKRST_CAUSE, 3, 0⟩
def F.CLKRST_RESET_CNT_CNT : Fld := ⟨R.CLKRST_RESET_CNT, 31, 0⟩
def F.CLKRST_STAT_BOOT_DONE : Fld := ⟨R.CLKRST_STAT, 5, 5⟩
def F.CLKRST_STAT_AON_SPLIT : Fld := ⟨R.CLKRST_STAT, 4, 4⟩
def F.CLKRST_STAT_FORCED : Fld := ⟨R.CLKRST_STAT, 3, 3⟩
def F.CLKRST_STAT_WDOG_FIRST : Fld := ⟨R.CLKRST_STAT, 2, 2⟩
def F.CLKRST_STAT_SYS_PLL_LOCK : Fld := ⟨R.CLKRST_STAT, 1, 1⟩
def F.CLKRST_STAT_REFCLK_OK : Fld := ⟨R.CLKRST_STAT, 0, 0⟩
def F.CLKRST_EVT_AON_SPLIT_EV : Fld := ⟨R.CLKRST_EVT, 4, 4⟩
def F.CLKRST_EVT_BOOT_EV : Fld := ⟨R.CLKRST_EVT, 3, 3⟩
def F.CLKRST_EVT_REFCLK_EV : Fld := ⟨R.CLKRST_EVT, 2, 2⟩
def F.CLKRST_EVT_FORCED_EV : Fld := ⟨R.CLKRST_EVT, 1, 1⟩
def F.CLKRST_EVT_WDOG_EV : Fld := ⟨R.CLKRST_EVT, 0, 0⟩
def F.CLKRST_IRQ_EN_EN : Fld := ⟨R.CLKRST_IRQ_EN, 4, 0⟩
def F.CLKRST_SWRST_KEY : Fld := ⟨R.CLKRST_SWRST, 31, 24⟩
def F.CLKRST_SWRST_OP : Fld := ⟨R.CLKRST_SWRST, 3, 0⟩
def F.CLKRST_WDOG_CFG_EN : Fld := ⟨R.CLKRST_WDOG_CFG, 31, 31⟩
def F.CLKRST_WDOG_CFG_LOCK : Fld := ⟨R.CLKRST_WDOG_CFG, 30, 30⟩
def F.CLKRST_WDOG_CFG_ACTION : Fld := ⟨R.CLKRST_WDOG_CFG, 29, 28⟩
def F.CLKRST_WDOG_CFG_TIMEOUT : Fld := ⟨R.CLKRST_WDOG_CFG, 15, 0⟩
def F.CLKRST_WDOG_KICK_KEY : Fld := ⟨R.CLKRST_WDOG_KICK, 31, 24⟩
def F.CLKRST_WDOG_LEFT_MS : Fld := ⟨R.CLKRST_WDOG_LEFT, 15, 0⟩
def F.CLKRST_BOOT_CTRL_KEY : Fld := ⟨R.CLKRST_BOOT_CTRL, 31, 24⟩
def F.CLKRST_BOOT_CTRL_GO : Fld := ⟨R.CLKRST_BOOT_CTRL, 0, 0⟩
def F.CLKRST_BOOT_ADDR_LO_ADDR : Fld := ⟨R.CLKRST_BOOT_ADDR_LO, 31, 6⟩
def F.CLKRST_BOOT_ADDR_HI_ADDR : Fld := ⟨R.CLKRST_BOOT_ADDR_HI, 7, 0⟩
def F.CLKRST_BOOT_STAT_CODE : Fld := ⟨R.CLKRST_BOOT_STAT, 31, 24⟩
def F.CLKRST_BOOT_STAT_DONE : Fld := ⟨R.CLKRST_BOOT_STAT, 1, 1⟩
def F.CLKRST_BOOT_STAT_BUSY : Fld := ⟨R.CLKRST_BOOT_STAT, 0, 0⟩
def F.CC_CTRL_PARK (n : Nat) : Fld := ⟨R.CC_CTRL n, 1, 1⟩
def F.CC_CTRL_RESET (n : Nat) : Fld := ⟨R.CC_CTRL n, 0, 0⟩
def F.CC_BOOT_LO_ADDR (n : Nat) : Fld := ⟨R.CC_BOOT_LO n, 31, 2⟩
def F.CC_BOOT_HI_ADDR (n : Nat) : Fld := ⟨R.CC_BOOT_HI n, 7, 0⟩
def F.CC_STAT_STATE (n : Nat) : Fld := ⟨R.CC_STAT n, 2, 0⟩
def F.FLT_STAT_INJ_OK : Fld := ⟨R.FLT_STAT, 31, 31⟩
def F.FLT_STAT_ARMED : Fld := ⟨R.FLT_STAT, 7, 0⟩
def F.FLT_WR_CNT_CNT : Fld := ⟨R.FLT_WR_CNT, 31, 0⟩
def F.FLT_RD_IDX_IDX : Fld := ⟨R.FLT_RD_IDX, 31, 0⟩
def F.FLT_LOST_CNT : Fld := ⟨R.FLT_LOST, 31, 0⟩
def F.FLT_EVT_INJ_REF_EV : Fld := ⟨R.FLT_EVT, 2, 2⟩
def F.FLT_EVT_LOST_EV : Fld := ⟨R.FLT_EVT, 1, 1⟩
def F.FLT_EVT_NEW_EV : Fld := ⟨R.FLT_EVT, 0, 0⟩
def F.FLT_IRQ_EN_EN : Fld := ⟨R.FLT_IRQ_EN, 2, 0⟩
def F.FLT_SUPPRESSED_CNT : Fld := ⟨R.FLT_SUPPRESSED, 31, 0⟩
def F.FLT_INJ_REFUSED_CNT : Fld := ⟨R.FLT_INJ_REFUSED, 31, 0⟩
def F.FLT_DET_CNT_CNT (i : Nat) : Fld := ⟨R.FLT_DET_CNT i, 15, 0⟩
def F.FLT_INJ_KEY (i : Nat) : Fld := ⟨R.FLT_INJ i, 31, 24⟩
def F.FLT_INJ_UNIT (i : Nat) : Fld := ⟨R.FLT_INJ i, 23, 8⟩
def F.FLT_INJ_COUNT (i : Nat) : Fld := ⟨R.FLT_INJ i, 7, 4⟩
def F.FLT_INJ_CH (i : Nat) : Fld := ⟨R.FLT_INJ i, 3, 2⟩
def F.FLT_INJ_PEND (i : Nat) : Fld := ⟨R.FLT_INJ i, 1, 1⟩
def F.FLT_INJ_ARM (i : Nat) : Fld := ⟨R.FLT_INJ i, 0, 0⟩
def F.FLT_ENTRY_W (i : Nat) : Fld := ⟨R.FLT_ENTRY i, 31, 0⟩
def F.MISC_GPIO_IN_PINS : Fld := ⟨R.MISC_GPIO_IN, 31, 0⟩
def F.MISC_GPIO_OUT_PINS : Fld := ⟨R.MISC_GPIO_OUT, 31, 0⟩
def F.MISC_GPIO_OE_PINS : Fld := ⟨R.MISC_GPIO_OE, 31, 0⟩
def F.MISC_GPIO_TRIG_TRIG (i : Nat) : Fld := ⟨R.MISC_GPIO_TRIG i, 31, 0⟩
def F.MISC_GPIO_QEN_PINS : Fld := ⟨R.MISC_GPIO_QEN, 31, 0⟩
def F.MISC_GQ_BASE_LO_ADDR : Fld := ⟨R.MISC_GQ_BASE_LO, 31, 12⟩
def F.MISC_GQ_BASE_HI_ADDR : Fld := ⟨R.MISC_GQ_BASE_HI, 7, 0⟩
def F.MISC_GQ_CFG_TB : Fld := ⟨R.MISC_GQ_CFG, 11, 8⟩
def F.MISC_GQ_CFG_Q_LOG2 : Fld := ⟨R.MISC_GQ_CFG, 3, 0⟩
def F.MISC_GQ_WR_IDX : Fld := ⟨R.MISC_GQ_WR, 15, 0⟩
def F.MISC_GQ_RD_IDX : Fld := ⟨R.MISC_GQ_RD, 15, 0⟩
def F.MISC_GQ_DROPS_CNT : Fld := ⟨R.MISC_GQ_DROPS, 31, 0⟩
def F.MISC_EVT_GQ_OVF_EV : Fld := ⟨R.MISC_EVT, 3, 3⟩
def F.MISC_EVT_GQ_EV : Fld := ⟨R.MISC_EVT, 2, 2⟩
def F.MISC_EVT_I2C1_EV : Fld := ⟨R.MISC_EVT, 1, 1⟩
def F.MISC_EVT_I2C0_EV : Fld := ⟨R.MISC_EVT, 0, 0⟩
def F.MISC_IRQ_EN_EN : Fld := ⟨R.MISC_IRQ_EN, 3, 0⟩
def F.MISC_SCRATCH_V (i : Nat) : Fld := ⟨R.MISC_SCRATCH i, 31, 0⟩
def F.MISC_QSPI_STAT_PRESENT : Fld := ⟨R.MISC_QSPI_STAT, 8, 8⟩
def F.MISC_QSPI_STAT_OWNER : Fld := ⟨R.MISC_QSPI_STAT, 1, 0⟩
def F.MISC_QSPI_ID_ID : Fld := ⟨R.MISC_QSPI_ID, 23, 0⟩
def F.I2C_CFG_SMBUS (n : Nat) : Fld := ⟨R.I2C_CFG n, 2, 2⟩
def F.I2C_CFG_FAST (n : Nat) : Fld := ⟨R.I2C_CFG n, 1, 1⟩
def F.I2C_CFG_EN (n : Nat) : Fld := ⟨R.I2C_CFG n, 0, 0⟩
def F.I2C_CMD_GO (n : Nat) : Fld := ⟨R.I2C_CMD n, 31, 31⟩
def F.I2C_CMD_OP (n : Nat) : Fld := ⟨R.I2C_CMD n, 27, 24⟩
def F.I2C_CMD_ADDR (n : Nat) : Fld := ⟨R.I2C_CMD n, 22, 16⟩
def F.I2C_CMD_WLEN (n : Nat) : Fld := ⟨R.I2C_CMD n, 12, 8⟩
def F.I2C_CMD_RLEN (n : Nat) : Fld := ⟨R.I2C_CMD n, 4, 0⟩
def F.I2C_STAT_BUSY (n : Nat) : Fld := ⟨R.I2C_STAT n, 31, 31⟩
def F.I2C_STAT_RESULT (n : Nat) : Fld := ⟨R.I2C_STAT n, 3, 0⟩
def F.I2C_DATA_BYTES (n i : Nat) : Fld := ⟨R.I2C_DATA n i, 31, 0⟩
def F.SH_SHELL_ID_KIND (b : Nat) : Fld := ⟨R.SH_SHELL_ID b, 31, 24⟩
def F.SH_SHELL_ID_REV (b : Nat) : Fld := ⟨R.SH_SHELL_ID b, 23, 16⟩
def F.SH_SHELL_ID_INDEX (b : Nat) : Fld := ⟨R.SH_SHELL_ID b, 15, 0⟩
def F.SH_CAL_CTRL_KEY (b : Nat) : Fld := ⟨R.SH_CAL_CTRL b, 31, 24⟩
def F.SH_CAL_CTRL_OWNED (b : Nat) : Fld := ⟨R.SH_CAL_CTRL b, 8, 8⟩
def F.SH_CAL_CTRL_GO (b : Nat) : Fld := ⟨R.SH_CAL_CTRL b, 0, 0⟩
def F.SH_CAL_STAT_DURATION (b : Nat) : Fld := ⟨R.SH_CAL_STAT b, 31, 16⟩
def F.SH_CAL_STAT_FAIL (b : Nat) : Fld := ⟨R.SH_CAL_STAT b, 2, 2⟩
def F.SH_CAL_STAT_DONE (b : Nat) : Fld := ⟨R.SH_CAL_STAT b, 1, 1⟩
def F.SH_CAL_STAT_BUSY (b : Nat) : Fld := ⟨R.SH_CAL_STAT b, 0, 0⟩
def F.SH_TRIM_T (b i : Nat) : Fld := ⟨R.SH_TRIM b i, 31, 0⟩
def F.SH_HEALTH_FAULT (b : Nat) : Fld := ⟨R.SH_HEALTH b, 31, 31⟩
def F.SH_HEALTH_INJ (b : Nat) : Fld := ⟨R.SH_HEALTH b, 4, 4⟩
def F.SH_HEALTH_BIAS (b : Nat) : Fld := ⟨R.SH_HEALTH b, 3, 3⟩
def F.SH_HEALTH_SUPPLY (b : Nat) : Fld := ⟨R.SH_HEALTH b, 2, 2⟩
def F.SH_HEALTH_CAL_RANGE (b : Nat) : Fld := ⟨R.SH_HEALTH b, 1, 1⟩
def F.SH_HEALTH_LOCK (b : Nat) : Fld := ⟨R.SH_HEALTH b, 0, 0⟩
def F.SH_INJ_KEY (b : Nat) : Fld := ⟨R.SH_INJ b, 31, 24⟩
def F.SH_INJ_UNIT (b : Nat) : Fld := ⟨R.SH_INJ b, 23, 8⟩
def F.SH_INJ_COUNT (b : Nat) : Fld := ⟨R.SH_INJ b, 7, 4⟩
def F.SH_INJ_CH (b : Nat) : Fld := ⟨R.SH_INJ b, 3, 2⟩
def F.SH_INJ_PEND (b : Nat) : Fld := ⟨R.SH_INJ b, 1, 1⟩
def F.SH_INJ_ARM (b : Nat) : Fld := ⟨R.SH_INJ b, 0, 0⟩

/-- Window of the lane analogue-core shell (R834). -/
def shLaneBase (n : Nat) : Nat := 0x41280000 + n * 0x1000
/-- Window of the clkrst analogue-core shell (R834). -/
def shSysPllBase (n : Nat) : Nat := 0x41780000 + n * 0x1000
/-- Window of the clkrst analogue-core shell (R834). -/
def shPixPllBase (n : Nat) : Nat := 0x41790000 + n * 0x1000
/-- Window of the memc analogue-core shell (R834). -/
def shHbmBase (n : Nat) : Nat := 0x40d80000 + n * 0x1000
/-- Window of the therm analogue-core shell (R834). -/
def shPsenseBase (n : Nat) : Nat := 0x41580000 + n * 0x1000
/-- Window of the tch analogue-core shell (R834). -/
def shTouchBase (n : Nat) : Nat := 0x41480000 + n * 0x1000
/-- Window of the aud analogue-core shell (R834). -/
def shAudioBase : Nat := 0x41381000

/-! Registers whose writes have an act of their own, as their guards see them. -/

def G.SYS_DB_SET : RegAt := ⟨R.SYS_DB_SET, .always, 0, 0, 0xffff⟩
def G.SYS_DB_CLR : RegAt := ⟨R.SYS_DB_CLR, .always, 0, 0, 0xffff⟩
def G.PLAN_CTRL : RegAt := ⟨R.PLAN_CTRL, .always, 0, 0, 0xff00000f⟩
def G.FRESH_ATTEST_CTRL (n : Nat) : RegAt := ⟨R.FRESH_ATTEST_CTRL n, .attest, n, 0, 0x1⟩
def G.AWNG_BUNDLE_CTRL : RegAt := ⟨R.AWNG_BUNDLE_CTRL, .always, 0, 0, 0xff00000f⟩
def G.INGR_CTRL (n : Nat) : RegAt := ⟨R.INGR_CTRL n, .ingress, n, 0, 0x8ff0f800⟩
def G.INGR_RD_IDX (n : Nat) : RegAt := ⟨R.INGR_RD_IDX n, .ingress, n, 0, 0xffff⟩
def G.DEC_CTRL (n : Nat) : RegAt := ⟨R.DEC_CTRL n, .decode, n, 0, 0x8fc701f3⟩
def G.DEC_CMD_WR_IDX (n : Nat) : RegAt := ⟨R.DEC_CMD_WR_IDX n, .decode, n, 0, 0xffff⟩
def G.DEC_OUT_RD_IDX (n : Nat) : RegAt := ⟨R.DEC_OUT_RD_IDX n, .decode, n, 0, 0xffff⟩
def G.DEC_KEYREQ (n : Nat) : RegAt := ⟨R.DEC_KEYREQ n, .decode, n, 0, 0x8000ffff⟩
def G.ENC_CTRL (n : Nat) : RegAt := ⟨R.ENC_CTRL n, .encode, n, 0, 0x8fc03733⟩
def G.ENC_OUT_RD_IDX (n : Nat) : RegAt := ⟨R.ENC_OUT_RD_IDX n, .encode, n, 0, 0xffff⟩
def G.ENC_KEYREQ (n : Nat) : RegAt := ⟨R.ENC_KEYREQ n, .encode, n, 0, 0x8000ffff⟩
def G.COMP_WB_CTRL (n : Nat) : RegAt := ⟨R.COMP_WB_CTRL n, .writeBack, n, 0, 0x8000001f⟩
def G.CSTALL_CTRL (n m : Nat) : RegAt := ⟨R.CSTALL_CTRL n m, .compStall, n, m, 0x733⟩
def G.CSTALL_SRC (n m : Nat) : RegAt := ⟨R.CSTALL_SRC n m, .compStall, n, m, 0x1ff⟩
def G.CSTALL_BASE_HI (n m : Nat) : RegAt := ⟨R.CSTALL_BASE_HI n m, .compStall, n, m, 0xff⟩
def G.SP_CTRL (n : Nat) : RegAt := ⟨R.SP_CTRL n, .scaler, n, 0, 0x1⟩
def G.SP_COEF_DATA (n : Nat) : RegAt := ⟨R.SP_COEF_DATA n, .scaler, n, 0, 0x3ff03ff⟩
def G.SP_COEF_CMD (n : Nat) : RegAt := ⟨R.SP_COEF_CMD n, .scaler, n, 0, 0x13f⟩
def G.HEAD_CTRL (n : Nat) : RegAt := ⟨R.HEAD_CTRL n, .head, n, 0, 0x15⟩
def G.HEAD_COMMIT (n : Nat) : RegAt := ⟨R.HEAD_COMMIT n, .head, n, 0, 0xffff⟩
def G.HEAD_PIXCLK (n : Nat) : RegAt := ⟨R.HEAD_PIXCLK n, .head, n, 0, 0xfffff⟩
def G.HEAD_LUT_DATA1 (n : Nat) : RegAt := ⟨R.HEAD_LUT_DATA1 n, .head, n, 0, 0xfff⟩
def G.SRC_CTRL (n : Nat) : RegAt := ⟨R.SRC_CTRL n, .src, n, 0, 0x80000710⟩
def G.SRC_AUX_CMD (n : Nat) : RegAt := ⟨R.SRC_AUX_CMD n, .src, n, 0, 0x8fffffff⟩
def G.SRC_PANEL_CTRL (n : Nat) : RegAt := ⟨R.SRC_PANEL_CTRL n, .src, n, 0, 0x3⟩
def G.SNK_CTRL (n : Nat) : RegAt := ⟨R.SNK_CTRL n, .snk, n, 0, 0x80000700⟩
def G.SNK_HPD_PULSE (n : Nat) : RegAt := ⟨R.SNK_HPD_PULSE n, .snk, n, 0, 0x1⟩
def G.WLK_CTRL : RegAt := ⟨R.WLK_CTRL, .wallLink, 0, 0, 0x80000033⟩
def G.TWIN_CTRL : RegAt := ⟨R.TWIN_CTRL, .twin, 0, 0, 0xff00000f⟩
def G.TAG_RC_CTRL : RegAt := ⟨R.TAG_RC_CTRL, .always, 0, 0, 0xff00010f⟩
def G.TB_CTRL (n : Nat) : RegAt := ⟨R.TB_CTRL n, .timeBase, n, 0, 0xff00000f⟩
def G.TB_SET_SEC_LO (n : Nat) : RegAt := ⟨R.TB_SET_SEC_LO n, .timeBase, n, 0, 0xffffffff⟩
def G.TB_SET_SEC_HI (n : Nat) : RegAt := ⟨R.TB_SET_SEC_HI n, .timeBase, n, 0, 0xffff⟩
def G.TB_RATE_HI (n : Nat) : RegAt := ⟨R.TB_RATE_HI n, .timeBase, n, 0, 0xffffffff⟩
def G.TB_OFFSET_IN (n : Nat) : RegAt := ⟨R.TB_OFFSET_IN n, .timeBase, n, 0, 0xffffffff⟩
def G.TB_SERVO (n : Nat) : RegAt := ⟨R.TB_SERVO n, .timeBase, n, 0, 0x800fffff⟩
def G.TPORT_TXTS_POP (n : Nat) : RegAt := ⟨R.TPORT_TXTS_POP n, .ethTime, n, 0, 0x1⟩
def G.TPORT_RXTS_POP (n : Nat) : RegAt := ⟨R.TPORT_RXTS_POP n, .ethTime, n, 0, 0x1⟩
def G.IRQ_SWI_SET : RegAt := ⟨R.IRQ_SWI_SET, .always, 0, 0, 0xffff⟩
def G.TGT_COMPLETE (n : Nat) : RegAt := ⟨R.TGT_COMPLETE n, .always, n, 0, 0x1ff⟩
def G.TGT_STACK_RESET (n : Nat) : RegAt := ⟨R.TGT_STACK_RESET n, .always, n, 0, 0xff000001⟩
def G.CVE_CTRL (n : Nat) : RegAt := ⟨R.CVE_CTRL n, .always, n, 0, 0xff00000f⟩
def G.LANE_CTRL (n : Nat) : RegAt := ⟨R.LANE_CTRL n, .lane, n, 0, 0x103⟩
def G.LANE_RATE (n : Nat) : RegAt := ⟨R.LANE_RATE n, .lane, n, 0, 0x7fff⟩
def G.LANE_RAW_CFG (n : Nat) : RegAt := ⟨R.LANE_RAW_CFG n, .lane, n, 0, 0x33133⟩
def G.SAP_CTRL (n : Nat) : RegAt := ⟨R.SAP_CTRL n, .sap, n, 0, 0x3⟩
def G.SAP_SLOT_MASK (n : Nat) : RegAt := ⟨R.SAP_SLOT_MASK n, .sap, n, 0, 0xffffffff⟩
def G.AUDG_PLL_CFG : RegAt := ⟨R.AUDG_PLL_CFG, .always, 0, 0, 0x1⟩
def G.AUDG_PLL_ADJ : RegAt := ⟨R.AUDG_PLL_ADJ, .always, 0, 0, 0xffffffff⟩
def G.TCH_CTRL (n : Nat) : RegAt := ⟨R.TCH_CTRL n, .touch, n, 0, 0x1⟩
def G.TCH_CFG (n : Nat) : RegAt := ⟨R.TCH_CFG n, .touch, n, 0, 0xf070fff⟩
def G.TCH_SCAN (n : Nat) : RegAt := ⟨R.TCH_SCAN n, .touch, n, 0, 0xfffff⟩
def G.TCH_CH_EN_LO (n : Nat) : RegAt := ⟨R.TCH_CH_EN_LO n, .touch, n, 0, 0xffffffff⟩
def G.TCH_CH_EN_HI (n : Nat) : RegAt := ⟨R.TCH_CH_EN_HI n, .touch, n, 0, 0xffffffff⟩
def G.TCH_Q_RD (n : Nat) : RegAt := ⟨R.TCH_Q_RD n, .touch, n, 0, 0xffff⟩
def G.THERM_CTRL : RegAt := ⟨R.THERM_CTRL, .always, 0, 0, 0xff00000f⟩
def G.SEC_MB_CMD : RegAt := ⟨R.SEC_MB_CMD, .always, 0, 0, 0xff0000ff⟩
def G.CLKRST_SWRST : RegAt := ⟨R.CLKRST_SWRST, .always, 0, 0, 0xff00000f⟩
def G.CLKRST_WDOG_CFG : RegAt := ⟨R.CLKRST_WDOG_CFG, .always, 0, 0, 0xf000ffff⟩
def G.CLKRST_WDOG_KICK : RegAt := ⟨R.CLKRST_WDOG_KICK, .always, 0, 0, 0xff000000⟩
def G.CLKRST_BOOT_CTRL : RegAt := ⟨R.CLKRST_BOOT_CTRL, .always, 0, 0, 0xff000001⟩
def G.CC_CTRL (n : Nat) : RegAt := ⟨R.CC_CTRL n, .always, n, 0, 0x3⟩
def G.FLT_RD_IDX : RegAt := ⟨R.FLT_RD_IDX, .always, 0, 0, 0xffffffff⟩
def G.FLT_INJ (i : Nat) : RegAt := ⟨R.FLT_INJ i, .always, 0, 0, 0xffffffff⟩
def G.MISC_GQ_RD : RegAt := ⟨R.MISC_GQ_RD, .always, 0, 0, 0xffff⟩
def G.I2C_CMD (n : Nat) : RegAt := ⟨R.I2C_CMD n, .always, n, 0, 0x8f7f1f1f⟩

end Sys2Proof
end

