-- ==== Sys2Proof/Machine/Records.lean ====
section
/-! DEFINITION. What the units hold besides their registers: identification and OTP, the parsed plan and the loader,
stamps and verdict state, ingress entries, pipes and stalls, the awning, heads, memory. All of it is plain data; a
record's default is its value after the reset of its block. -/

namespace Sys2Proof.Machine

/-! ## Identification, OTP and lifecycle (chapters 00 and 21) -/

/-- The fuse fields of SYS.VARIANT (R8). (DESIGN CHOICE, log 6.) -/
structure Fuses where
  partCode : Nat
  pkg : Nat
  step : Nat
deriving DecidableEq, Repr

/-- Units present in a variant (R2). -/
structure Variant where
  dec : Nat
  enc : Nat
  heads : Nat
  src : Nat
  scalers : Nat
  snk : Nat
  eth : Nat
  lanes : Nat
  tb : Nat
  twin : Nat
  touch : Nat
deriving DecidableEq, Repr

/-- One plan-key slot (R759): the words of its hash, whether the hash is programmed whole (R760), revocation word. -/
structure PlanKey where
  hash : List Nat := [0, 0, 0, 0, 0, 0, 0, 0, 0, 0, 0, 0]
  enrolled : Bool := false
  revWord : Nat := 0
deriving DecidableEq, Repr

/-- OTP (R759). (DESIGN CHOICE, log 6.) -/
structure Otp where
  dieId : List Byte := []
  devCert : List Byte := []
  fwKeyHash : List Byte := []
  pufDestroyed : Bool := false
  lcWords : List Nat := [0, 0, 0, 0, 0, 0, 0, 0, 0]
  planKeys : List PlanKey := [{}, {}, {}, {}]
  floors : List Nat := [0, 0, 0, 0, 0, 0, 0, 0, 0, 0, 0, 0, 0, 0, 0, 0]
  debugHash : List Nat := [0, 0, 0, 0, 0, 0, 0, 0, 0, 0, 0, 0]
  debugValid : Nat := 0
  bndConst : Nat := 0
  bndValid : Nat := 0
deriving DecidableEq, Repr

/-- The reset classes (R780). -/
inductive ResetClass where
  | powerOn | brownOut | warm
deriving DecidableEq, Repr

/-- A SAK installed in a port's MACsec engine (R767): the key is SAK, cipher and salt together. -/
structure Sak where
  port : Nat
  an : Nat
  rx : Bool
  key : List Byte
deriving DecidableEq, Repr

/-! ## The pitch plan (chapter 02) -/

/-- A RESOURCE record (R91). -/
structure ResRec where
  kind : Nat
  index : Nat
  param : Nat
deriving DecidableEq, Repr

/-- A FABRIC record (R93). -/
structure FabRec where
  master : Nat
  target : Nat
  priority : Nat
  reserve : Nat
  cap : Nat
  latClass : Nat
deriving DecidableEq, Repr

/-- A COLOURS mask record (R95). -/
structure MaskRec where
  checker : Nat
  rmask : Nat
  wmask : Nat
  opn : Nat
deriving DecidableEq, Repr

/-- A COLOURS range record (R95). -/
structure RangeRec where
  start : Nat
  count : Nat
  colour : Nat
  conf : Bool
deriving DecidableEq, Repr

/-- A CLASSES record (R98). -/
structure ClassRec where
  pipe : Nat
  stall : Nat
  cls : Nat
  motion : Bool
  mark : Bool
  budget : Nat
  freezeWin : Nat
  sigWin : Nat
  hyst : Nat
deriving DecidableEq, Repr

/-- An AWNING record (R102). -/
structure AwnPlan where
  head : Nat
  elements : Nat
  borderW : Nat
  hatchPitch : Nat
  amber : Nat
  hatch : Nat
  slate : Nat
  bundleId : Nat
  minVer : Nat
  clockTb : Nat
deriving DecidableEq, Repr

/-- An IRQ record (R104). -/
structure IrqRec where
  type : Nat
  index : Nat
  priority : Nat
  value : Nat
  locked : Bool
deriving DecidableEq, Repr

/-- The TWIN record (R106). -/
structure TwinPlan where
  mode : Nat := 0
  prefer : Nat := 0
  tickHz : Nat := 60
  flags : Nat := 0
  pairId : Nat := 0
  peerKeyHash : List Byte := []
deriving DecidableEq, Repr

/-- A LOCKS record (R108). -/
structure LockRec where
  offset : Nat
  lock : Bool
  mask : Nat
  value : Nat
  count : Nat
  stride : Nat
deriving DecidableEq, Repr

/-- A plan as the loader reads it from its image. -/
structure Plan where
  planId : Nat
  planSeq : Nat
  flags : Nat
  hash : List Byte
  res : List ResRec
  fab : List FabRec
  masks : List MaskRec
  ranges : List RangeRec
  classes : List ClassRec
  awn : List AwnPlan
  irq : List IrqRec
  twin : TwinPlan
  locks : List LockRec
deriving DecidableEq, Repr

/-- What the plan loader is doing (R117, R134). -/
inductive LoadOp where
  | none | start | loadA | loadB | loadMem | writeA | writeB
deriving DecidableEq, Repr

/-- Where an operation of the loader stands, finer than STATUS.PHASE. -/
inductive LoadStage where
  | idle | queued | copy | verify | check | waitSlates | apply
  | slotStage | eraseMarker | eraseImage | program | readback | marker
deriving DecidableEq, Repr

/-- The loader: operation, stage, source (1 slot A, 2 slot B, 3 memory), slots left to try at start, the staged
image's size, the plan read from it, the slot being written, the start time, the code with which a slot write is to stop
at the next boundary (R121, R127), which half of the plan store is active (R123), whether the start's markers have
been read, and the lanes that an apply under way keeps (R670). -/
structure Loader where
  op : LoadOp := .none
  stage : LoadStage := .idle
  src : Nat := 0
  tries : List Nat := []
  slot : Nat := 0
  size : Nat := 0
  plan : Option Plan := none
  startNs : Nat := 0
  stop : Option Nat := none
  half : Nat := 0
  markers : Bool := false
  lanesKept : List Nat := []
deriving DecidableEq, Repr

/-- The units that share the QSPI flash (R862), in the coding of QSPI_STAT.OWNER. -/
inductive FlashUser where
  | bootRom | planLoader | security
deriving DecidableEq, Repr

/-- The QSPI flash: holder, waiting units in order, whether it answers, identifier. (DESIGN CHOICE, log 34.) -/
structure Qspi where
  owner : Option FlashUser := none
  waiting : List FlashUser := []
  present : Bool := true
  id : Nat := 0
deriving DecidableEq, Repr

/-! ## Stamps and the freshness supervisor (chapter 01) -/

/-- A tally stamp (R32). -/
structure Stamp where
  sourceId : Nat
  tb : Nat
  captureTime : Nat
  seq : Nat
  alive : Nat
  degraded : Bool
  overrun : Bool
  arrivalTimed : Bool
  concealed : Bool
  signature : Nat
deriving DecidableEq, Repr

/-- One supervisor channel's state for one stall (R39, R48); verdict codes as in R51. -/
structure ChanStall where
  lastSourceId : Nat := 0
  lastSeq : Nat := 0
  lastAlive : Nat := 0
  lastSig : Nat := 0
  seqCnt : Nat := 0
  sigCnt : Nat := 0
  hystCnt : Nat := 0
  shown : Nat := 3
  raw : Nat := 3
  reasons : Nat := 0
  ageUs : Nat := 0xFFFFFFFF
  fresh : Bool := true
deriving DecidableEq, Repr

/-- Per stall: the stamp copy (R40), events posted since the last latch (R55), a TIMEOUT posted for at least one latch
(R174) and the entry to which the last latch left the stall bound, a ring rebinding that applies at the next latch (R50),
the plan values (R31), and the verdict held from the active part (R56). -/
structure FStall where
  stamp : Option Stamp := none
  evTimeout : Bool := false
  bound : Option Nat := none
  evFetchFault : Bool := false
  evUnderrun : Bool := false
  rebound : Bool := false
  planCfg : Nat := 0
  planBudget : Nat := 0
  planWindows : Nat := 0
  held : Option Nat := none
deriving DecidableEq, Repr

/-- What the attested latch showed of one stall (R60). -/
structure AttStall where
  stall : Nat
  shown : Nat
  sourceId : Nat
  seq : Nat
  reasons : Nat
  age : Nat
deriving DecidableEq, Repr

/-- The attested latch (R60): latch count, TB0 time, TB0 LOCKED, judged stalls. -/
structure AttLatch where
  latchCnt : Nat
  time : Nat
  locked : Bool
  stalls : List AttStall
deriving DecidableEq, Repr

/-- An attestation request in progress (R58): nonce, record address, time of acceptance, who asked, the latch once it
has come. `wall` requests come over the wall link (R496) and carry the asking message's tag. -/
structure Attest where
  nonce : Nat
  addr : Nat
  acceptedNs : Nat
  wall : Option Nat := none
  latch : Option AttLatch := none
deriving DecidableEq, Repr

/-- Per head: consecutive dissents of the three channels (R43), the request in progress, and whether the voted verdicts
of the last latch are out, with the mark of an injection (R41). -/
structure FreshHead where
  runs : List Nat := [0, 0, 0]
  attest : Option Attest := none
  missed : Option Bool := none
deriving DecidableEq, Repr

/-! ## Ingress (chapter 03) -/

/-- A packet of a frame in assembly: sequence number, extended beyond 16 bits, marker bit, and the payload of a
compressed or audio stream. -/
structure AsmPkt where
  seq : Int
  marker : Bool
  payload : List Byte
deriving DecidableEq, Repr

/-- A frame in assembly (R162): RTP timestamp and the reorder window it belongs to (counted by changes of SSRC), the
packets so far, its first sequence number and whether that number is settled, arrival of the earliest packet (unreduced
ns on the entry's time base, R158), time of the last packet, the WR_IDX that chose its buffer (none: the ring was full),
and whether a write was refused. -/
structure FrameAsm where
  rtpTs : Nat := 0
  epoch : Nat := 0
  pkts : List AsmPkt := []
  first : Int := 0
  known : Bool := false
  arrival : Nat
  lastNs : Nat
  buf : Option Nat
  refused : Bool := false
deriving DecidableEq, Repr

/-- A stream entry's counters and assembly (R149, R153, R154, R172): SEQ and ALIVE of the next stamp, current SSRC and
count of its changes, highest sequence number of the reorder window and the numbers received in it with their marker bits
(each extended beyond 16 bits), the first number since the window was reset, frames in assembly (oldest first), timestamps
and first numbers of the last closed frames, last accepted arrival, pending DISCONT, the data ring's frames still held as
(count, offset, length) and where the next one goes, and when each frame in the ring was published (R201). -/
structure StreamRec where
  seq : Nat := 0
  alive : Nat := 0
  ssrc : Option Nat := none
  epoch : Nat := 0
  highest : Option Int := none
  seen : List (Int × Bool) := []
  start : Option Int := none
  frames : List FrameAsm := []
  closed : List (Nat × Int) := []
  lastNs : Nat := 0
  disc : Bool := false
  data : List (Nat × Nat × Nat) := []
  nextOff : Nat := 0
  times : List (Nat × Nat) := []
deriving DecidableEq, Repr

/-! ## Pipes and stalls (chapter 05) -/

/-- A buffer bound to a stall: address and, in ring mode, ring (kind, source), slot count, format, size and source
offsets; a manual buffer's format and size are the stall's registers in force. -/
structure Buf where
  addr : Nat
  ring : Option (Nat × Nat × Nat) := none
  format : Nat := 0
  dbc : Bool := false
  width : Nat := 0
  height : Nat := 0
  srcX : Nat := 0
  srcY : Nat := 0
deriving DecidableEq, Repr

/-- A shadow bind (R251): its identity, the manual buffer's address or the ring it names, whether its reads have ended,
the buffer and the stamp they gave, and whether one was refused. -/
structure Bind where
  id : Nat
  addr : Nat := 0
  ring : Option (Nat × Nat) := none
  done : Bool := false
  buf : Option Buf := none
  stamp : Option Stamp := none
  refused : Bool := false
deriving DecidableEq, Repr

/-- A take in progress (R253): the slot's count; once its reads have ended the buffer and the stamp, or a refusal. -/
structure Take where
  slot : Nat
  buf : Option Buf := none
  done : Bool := false
  stamp : Option Stamp := none
  refused : Bool := false
deriving DecidableEq, Repr

/-- One composed row of a stall or of a direct-scan surface: destination line, first column, and per pixel its 8-bit alpha
and 12-bit red, green and blue; none for fallback fill. -/
structure RowLayer where
  y : Nat
  x : Nat
  px : List (Option (Nat × Nat × Nat × Nat))
deriving DecidableEq, Repr

/-- A scaler-pool unit (R329 to R332): a bank check that runs, the number of the last selection that became pending, and a
ROM load that runs as (set, horizontal, vertical, both banks). -/
structure SpRec where
  check : Bool := false
  sel : Nat := 0
  load : Option (Nat × Bool × Bool × Bool) := none
deriving DecidableEq, Repr

/-- A stall: buffer in force, binds not yet applied, the bind applied before its reads ended (R252), the take in
progress, fallback for the rest of the frame (R259), rows composed in the current frame, and the source lines fetched for it
(plane × 65536 + line). -/
structure StallRec where
  buf : Option Buf := none
  binds : List Bind := []
  late : Option Bind := none
  take : Option Take := none
  faulted : Bool := false
  rows : List RowLayer := []
  lines : List (Nat × List (Option Nat)) := []
  nextBind : Nat := 0
deriving DecidableEq, Repr

/-- A write-back frame being written (R269): slot count, its stamp, refused writes. -/
structure WbFrame where
  slot : Nat
  stamp : Stamp
  arrival : Nat
deriving DecidableEq, Repr

/-- A pipe: write-back enabled since the last latch, its SEQ and ALIVE counters, the frame being written, pause during a replan (R272). -/
structure PipeRec where
  wbPend : Bool := false
  seq : Nat := 0
  alive : Nat := 0
  wb : Option WbFrame := none
  paused : Bool := false
deriving DecidableEq, Repr

/-! ## The awning (chapter 06) -/

/-- What an element of the awning draws (R288, R295, R296): a border, a hatch, a fill, glyph cells, or an indicator
frame. -/
inductive ElemKind where
  | border (width : Nat)
  | hatch (pitch : Nat)
  | fill
  | text (chars : List Nat)
  | indicator (frame : Nat)
deriving DecidableEq, Repr

/-- An element of the awning: code of R311 where it can be a candidate, clip rectangle, box origin, and colour as ARGB
8-8-8-8. -/
structure Elem where
  code : Option Nat
  kind : ElemKind
  clip : Nat × Nat × Nat × Nat
  boxX : Int := 0
  boxY : Int := 0
  argb : Nat
deriving DecidableEq, Repr

/-- A head's awning: dissenting frames in a row per channel, dissents of the frame that is scanned, pixels on which the
channels did not agree, the bundle region in force, candidates of the last latch, the last rotated pick, the frame's
elements, the codes of its picks, and the bitmaps fetched for it: by character, or 0x100 plus the indicator frame. -/
structure AwnRec where
  runs : List Nat := [0, 0, 0]
  dissents : List Nat := []
  splits : List (Nat × Nat) := []
  region : Option Nat := none
  cands : List Nat := []
  lastPick : Nat := 0xFF
  elems : List Elem := []
  picks : List Nat := []
  glyphs : List (Nat × List Byte) := []
deriving DecidableEq, Repr

/-- A bundle install in progress (R306, R307): staging region, bundle, code of the copy and the checks, whether step 3 has
been taken, heads that have yet to draw a frame from the new region, and the old region. -/
structure Install where
  region : Nat
  bundleId : Nat := 0
  version : Nat := 0
  code : Nat := 0
  verified : Bool := false
  taken : List Nat := []
  waiting : List Nat := []
  old : Option Nat := none
deriving DecidableEq, Repr

/-! ## Heads (chapter 08) -/

/-- A snapshot of a commit set (R357): the shadowed registers that differ from reset, the tag, the binds by stall and
identity, and the bank selections of the pipe's scaler units. -/
structure Snap where
  vals : List (Nat × W32)
  tag : Nat
  binds : List (Nat × Nat)
  banks : List (Nat × Nat)
deriving DecidableEq, Repr

/-- A head beside its registers: a PLL that is locking, snapshots taken and not yet armed and the one that is armed,
pixels repeated in the frame that is scanned, CRCs of the rectangles whose last pixel has left, slate causes of a replan
and a hand-over (R378), Panel Self Refresh (latches that qualified, entry due at the next FLP, UPDATE written), the
direct-scan surface with the lines fetched, FLPs since STOP (R743), the last latch, table reset (R336), whether a
frame is being scanned, the last FLP since the generator started (R351), the last active pixel sent (R366), and EN of Panel
Self Refresh cleared since the last latch (R384). -/
structure HeadRec where
  pllPend : Bool := false
  accepted : List Snap := []
  armed : Option Snap := none
  under : List (Nat × Nat) := []
  rgn : List (Nat × Nat) := []
  replan : Bool := false
  handover : Bool := false
  psrRun : Nat := 0
  psrDue : Bool := false
  psrUpdate : Bool := false
  dsAddr : Option Nat := none
  dsFault : Bool := false
  dsRows : List RowLayer := []
  bell : Nat := 0
  lastLatchNs : Nat := 0
  lutReset : Bool := false
  scan : Bool := false
  flp : Option Nat := none
  lastPx : Option (Nat × Nat × Nat) := none
  psrCleared : Bool := false
deriving DecidableEq, Repr

/-! ## DisplayPort ports (chapter 09) -/

/-- BLPWM while it runs (R416): start of a period in ns, its length and its high time in REFCLK clocks. The periods after it
follow BL_PERIOD and BL_DUTY. -/
structure Pwm where
  start : Nat
  period : Nat
  duty : Nat
deriving DecidableEq, Repr

/-- A source port: 0 unplugged, 1 reading capabilities and EDID, 2 training, 3 trained, 4 waiting; the sink's capabilities;
rate and lanes of the attempt, the first rate, SSC of the training; an IRQ_HPD kept until the attempt ends; slots are
being allocated again, streams that carry no video meanwhile; and the panel: PWR_ON not yet served, PVDD_EN and BLEN, the
time at which the state's delay ends, backlight delay passed, delays of the closing bell, BLPWM while it runs, and when
PVDD_EN last fell (R415). (DESIGN CHOICE, log 24.) -/
structure SrcRec where
  phase : Nat := 0
  caps : SinkCaps := ⟨0, 0, false, false⟩
  rate : Nat := 0
  lanes : Nat := 0
  top : Nat := 0
  ssc : Bool := false
  irq : Option (List Byte × Bool) := none
  realloc : Bool := false
  hold : List Nat := []
  want : Bool := false
  pvdd : Bool := false
  blen : Bool := false
  due : Option Nat := none
  blReady : Bool := false
  fast : Bool := false
  pwm : Option Pwm := none
  fell : Option Nat := none
deriving DecidableEq, Repr

/-! ## Decode contexts and cores (chapters 04 and 10) -/

/-- A picture of a decode context: what its access unit said, its stamp, its buffer, the core that ended its last work
unit, SLICE_ERR and WDOG of its descriptor, taint (R214), what keeps its buffer: reference, pending output, and pictures
that have come since it waits for output. -/
structure DecPic where
  au : AccessUnit
  stamp : Stamp
  buf : Nat
  core : Nat := 0
  sliceErr : Bool := false
  wdog : Bool := false
  tainted : Bool := false
  ref : Bool := false
  out : Bool := false
  age : Nat := 0
deriving DecidableEq, Repr

/-- A picture in decode: when its access unit became ready (R201), work units handed out and completed, for each missing
reference the picture order count of its substitute (none: mid-grey, R213), the access unit's bytes, and the areas to
conceal (R217 to R219). -/
structure DecCur where
  pic : DecPic
  readyNs : Nat
  next : Nat := 0
  ended : Nat := 0
  subs : List (Int × Option Int) := []
  data : List Byte := []
  holes : List Area := []
deriving DecidableEq, Repr

/-- A decode context: completed pictures that hold their buffers, pictures that may leave but find the output ring full,
published slots (count, buffer), the picture in decode, a wait for a buffer, a key-picture request that stands: its
time and reason, with the messages sent since the last untainted IRAP picture (R222, R494), when the access units of a
command ring were published, and since when a buffer has been free (R201). -/
structure DecRec where
  dpb : List DecPic := []
  outq : List DecPic := []
  pub : List (Nat × Nat) := []
  cur : Option DecCur := none
  waiting : Bool := false
  keyreq : Option (Nat × Nat) := none
  keyreqs : Nat := 0
  times : List (Nat × Nat) := []
  freeNs : Option Nat := none
deriving DecidableEq, Repr

/-- A decode or encode core: context and unit it works on with the start time, and busy CODEC clocks up to `since`. -/
structure CoreRec where
  job : Option (Nat × Nat × Nat) := none
  clocks : Nat := 0
  since : Nat := 0
deriving DecidableEq, Repr

/-- A row of a picture in coding (R452): its index, QP, whether it is skip-coded, whether its input was lost, and its bits
once its work unit has ended. -/
structure EncRow where
  row : Nat
  qp : Nat
  skip : Bool := false
  lost : Bool := false
  bits : Nat := 0
deriving DecidableEq, Repr

/-- The previous picture of a type (R452): its bits, mean QP, and bits and QP of every row. -/
structure EncPrev where
  bits : Nat
  meanQp : Nat
  rows : List (Nat × Nat)
deriving DecidableEq, Repr

/-- A picture in coding: input slot and buffer, stamp, RATE, QP and MARGIN as they stood at its start, times of start and
first row start, key and answer to a request, TB_LOCKED (R601), budget, QP and the state of rate control, rows in start
order, units handed out and completed, the core that ended the last one, and the input lines fetched
(plane × 65536 + line). -/
structure EncCur where
  count : Nat
  buf : Buf
  stamp : Stamp
  rate : Nat
  qp : Nat
  margin : Nat
  startNs : Nat
  first : Option Nat := none
  key : Bool := false
  requested : Bool := false
  tbLocked : Bool := false
  budget : Nat := 0
  picQp : Nat := 0
  clamped : Bool := false
  skipping : Bool := false
  rows : List EncRow := []
  next : Nat := 0
  ended : Nat := 0
  core : Nat := 0
  lines : List (Nat × List (Option Nat)) := []
deriving DecidableEq, Repr

/-- An encode context: the ring it follows (kind, source) while enabled and the slot it holds; the picture in coding; the
last slot taken and the start of its picture; a latched request, a key picture required (R464, R467), pictures since the
last key picture and the first row start of that; fill and carry (R452), the previous key and P pictures; the next
reference buffer; access units in the data ring as (count, offset, length), the next offset, a start that waits for
output space, and the areas' motion vectors of the previous picture by reference (R439). -/
structure EncRec where
  follows : Option (Nat × Nat) := none
  held : Option Nat := none
  cur : Option EncCur := none
  last : Option Nat := none
  lastStart : Option Nat := none
  req : Bool := false
  force : Bool := false
  since : Nat := 0
  lastKey : Option Nat := none
  fill : Nat := 0
  carry : Nat := 0
  prevKey : Option EncPrev := none
  prevP : Option EncPrev := none
  refIdx : Nat := 0
  data : List (Nat × Nat × Nat) := []
  nextOff : Nat := 0
  waiting : Bool := false
  mvs : List (List (Int × Int)) := []
deriving DecidableEq, Repr

/-! ## Links (chapters 11 and 12) -/

/-- A frame that waits to be sent (R482): type, virtual channel, tag, flags and payload; for the last frame of an access
unit the encode context whose ring it releases (R460); for a FORWARD frame the time it was accepted (R524). -/
structure LinkMsg where
  type : Nat
  vc : Nat
  tag : Nat := 0
  flags : Nat := 0
  payload : List Byte
  ctx : Option Nat := none
  since : Nat := 0
deriving DecidableEq, Repr

/-- Blocks that a link sends (R479, R481): time at which it began, number that picks its scramblers' first contents, next
slot of the bonded stream, scrambler of each lane, newest bit first. -/
structure Wire where
  startNs : Nat := 0
  seed : Nat := 0
  slot : Nat := 0
  regs : List (Nat × List Bool) := []
deriving DecidableEq, Repr

/-- A block as sent: lane, sync header, 8 scrambled bytes. -/
structure WireBlock where
  lane : Nat
  sync : Nat
  bytes : List Byte
deriving DecidableEq, Repr

/-- A link (R498 to R508): its blocks, lanes with block lock, frames that wait oldest first, next FCNT to send and last FCNT
accepted, sending epoch, key material in force for each direction and derived for the next FINISH (72 bytes), the parts'
HELLO payloads and H, a rekey that runs, the part's own FINISH sent and the peer's accepted, the time of the HELLO, last frames sent and accepted, consecutive frames dropped
under AUTH_ERR, the place of the weighted round robin and the frames served there. -/
structure LinkRec where
  wire : Wire := {}
  locks : List Nat := []
  txq : List LinkMsg := []
  txFcnt : Nat := 0
  rxFcnt : Option Nat := none
  txEpoch : Bool := false
  txKeys : List Byte := []
  rxKeys : List Byte := []
  newKeys : Option (List Byte) := none
  ownHello : List Byte := []
  peerHello : List Byte := []
  hash : List Byte := []
  rekey : Bool := false
  sentFin : Bool := false
  gotFin : Bool := false
  helloNs : Nat := 0
  lastTx : Nat := 0
  lastRx : Nat := 0
  authRun : Nat := 0
  turn : Nat := 0
  served : Nat := 0
deriving DecidableEq, Repr

/-- An input event that waits for INPUT_FORWARD (R493), as its 16-byte record, with the time it entered its queue. -/
structure InputEvent where
  bytes : List Byte
  ns : Nat
deriving DecidableEq, Repr

/-! ## The pair (chapter 12) -/

/-- A step record (R529): snapshot applied with its tag, OUT_CRC where CRC_VALID, time of the FLP, and per stall (index,
SOURCE_ID, SEQ, shown verdict). -/
structure StepRec where
  tag : Option Nat
  crc : Option Nat
  time : Nat
  stalls : List (Nat × Nat × Nat × Nat)
deriving DecidableEq, Repr

/-- A head in the pair: step records that wait, enabled by the incoming part, held off by the outgoing part, slots that a
state copy names (stall, SOURCE_ID, SEQ), latches since the last STEP_MISS and the last OUT_CRC mismatch (none: 64 or
more), last lag in ns. -/
structure TwinHead where
  recs : List StepRec := []
  enabled : Bool := false
  off : Bool := false
  slots : List (Nat × Nat × Nat) := []
  missAge : Option Nat := none
  crcAge : Option Nat := none
  lag : Option Int := none
deriving DecidableEq, Repr

/-- The twin controller beside its registers: levels of TWIN_HB and TWIN_PHB; end of the heartbeat window, consecutive
misses, READY at the last heartbeat of the active part (R539), time of the last heartbeat that reported ACTIVE; a REQ
sent and a REQ accepted as (cause, tick); a silent trigger that waits for READY; PLANNED waits for the tick; fault
declared; a switch-class detection not yet looked at; start of the election, time at which it may be tried again,
conflicts since the plan load; time of the qualified fall of TWIN_PACT; TWIN_PACT has risen under an outgoing part; ticks
since the link was UP and since a copy was applied; a copy in assembly (tick, frames, next index, bytes); a BIST failure
since the plan load, start of standby, time of each idle unit's last pass; consecutive ticks without tick work; ledger
count at the last tick; READY as last seen; TWIN_ACT held low until a reset (R779). (DESIGN CHOICE, log 24.) -/
structure TwinRec where
  hb : Bool := false
  phb : Bool := false
  hbEnd : Nat := 0
  misses : Nat := 0
  hbReady : Bool := false
  activeNs : Option Nat := none
  asked : Option (Nat × Nat) := none
  accepted : Option (Nat × Nat) := none
  takeover : Option Nat := none
  planned : Bool := false
  declared : Bool := false
  sClass : Bool := false
  electNs : Nat := 0
  retryNs : Option Nat := none
  conflicts : Nat := 0
  fallNs : Option Nat := none
  yield : Bool := false
  downTicks : Nat := 0
  copyTicks : Nat := 0
  copy : Option (Nat × Nat × Nat × List Byte) := none
  bistFailed : Bool := false
  standbyNs : Nat := 0
  passes : List (Nat × Nat) := []
  workMisses : Nat := 0
  tick : Option Nat := none
  ledgerMark : Nat := 0
  readyWas : Bool := false
  actHold : Bool := false
  heads : List (Nat × TwinHead) := []
deriving DecidableEq, Repr

/-! ## Serial audio ports (chapter 18) -/

/-- A packet of a stamped source (R696, R697): time and time base of its first sample, period of its samples in
2^-16 ns, bytes it takes in the store, sample frames, and how many of them have gone. -/
structure AudPkt where
  time : Nat
  tb : Nat
  period : Nat
  bytes : Nat
  frames : List (List Nat)
  gone : Nat := 0
deriving DecidableEq, Repr

/-- A serial audio port: start due at the next frame boundary, stop due; packets held; last frame sent; whether each slot
is gated, the gate request (target, its time, timed out), previous source sample of each slot; consecutive
underruns; the stream is being played; sample frames since the last PERIOD_EV; slot masks in force and the time of a
write not yet applied; received frames for the next AUDIO frame with the time of the first; frames in this second of
REFCLK and its start. -/
structure SapRec where
  starting : Bool := false
  stopping : Bool := false
  store : List AudPkt := []
  sent : List Nat := []
  gated : List Bool := []
  gate : Option (Bool × Nat × Bool) := none
  prev : List Nat := []
  misses : Nat := 0
  live : Bool := false
  moved : Nat := 0
  mask : Nat := 0
  maskNs : Option Nat := none
  rx : List (List Nat) := []
  rxTime : Nat := 0
  fsCount : Nat := 0
  fsNs : Nat := 0
deriving DecidableEq, Repr

/-! ## Serial lanes (chapter 17) -/

/-- A lane: the state that a change in progress leads to (1 DEEP, 2 QUIET, 3 ACTIVE), the rate in force in Mb/s of a raw
lane and of the wall link's lane 0 (R665), the time up to which checked bits have been counted, and the register of a checker
in lock as it locked, newest bit first (R673). -/
structure LaneRec where
  goal : Option Nat := none
  rate : Nat := 1250
  countNs : Nat := 0
  chk : List Bool := []
deriving DecidableEq, Repr

/-! ## Touch sensing (chapter 19) -/

/-- A channel of a touch group (R716, R717): calibrated, its first scan still to come, the counts of R717, time of its
touch. -/
structure TouchCh where
  cal : Bool := false
  first : Bool := false
  tcnt : Nat := 0
  acnt : Nat := 0
  rcnt : Nat := 0
  dcnt : Nat := 0
  since : Nat := 0
deriving DecidableEq, Repr

/-- A touch group: channels whose calibration runs (bit c), the channels of the scan in progress with the next
phase, THRESH, FILTER and MAX_TOUCH as the scan started, RUN cleared during a scan, and the time of the last scan's start or
of the group's. -/
structure TouchGrp where
  calib : Nat := 0
  scan : Option (Nat × Nat) := none
  thresh : W32 := 0
  filter : W32 := 0
  longest : Nat := 1
  stopping : Bool := false
  fromNs : Option Nat := none
  chans : List (Nat × TouchCh) := []
deriving DecidableEq, Repr

/-! ## The thermal model (chapter 20) -/

/-- A channel of the thermal manager (R736): node temperatures in 1/256 °C, level, and the runs of updates at or above
100, 108 and 115 °C and at or below 97 and 105 °C. (DEDUCED, log 29.) -/
structure ThermChan where
  nodes : List Int := List.replicate 48 21760
  level : Nat := 0
  runs : List Nat := [0, 0, 0, 0, 0]
deriving DecidableEq, Repr

/-- The thermal manager: its channels, the one whose temperatures are reported, domain powers sensed since the last
update, the last good sensor reading in 1/256 °C, consecutive failed reads, the last read was good, and the time of the
last update at or above 100 °C. -/
structure ThermRec where
  chans : List ThermChan := [{}, {}, {}]
  shown : Nat := 0
  samples : List (List Nat) := []
  sensed : Option Int := none
  fails : Nat := 0
  good : Bool := false
  hotNs : Nat := 0
deriving DecidableEq, Repr

/-! ## The security controller (chapter 21) -/

/-- The security controller: the command that runs (OP, master), the nonce that stands with its owner (R766), the working
copy of the key store by entry ID with its generation and copy, and the draw of the random source that is the debug
challenge's nonce (R768). -/
structure SecRec where
  cmd : Option (Nat × Nat) := none
  nonce : Option (Nat × List Byte) := none
  keys : List (Nat × List Byte) := []
  gen : Nat := 0
  copy : Nat := 1
  challenge : Nat := 0
deriving DecidableEq, Repr

/-! ## Clocks and resets (chapter 22) -/

/-- The always-on island and the boot ROM: source of the reset that holds (R796), PLAN.STATUS.PHASE at its start; REFCLK
windows in a row that were good and that were bad (10 suffices); time from which the watchdog counts; the
boot ROM reads an image from flash (0) or from the host (1), or CC0 waits for a host image. -/
structure ClkRec where
  source : Nat := 1
  phase : Nat := 0
  good : Nat := 0
  bad : Nat := 0
  wdogNs : Nat := 0
  boot : Option Nat := none
  waits : Bool := false
deriving DecidableEq, Repr

/-! ## Memory (chapter 13) -/

/-- A recolouring command (R572). -/
structure Recolour where
  requester : Nat
  space : Nat
  page : Nat
  left : Nat
  new : Nat
  zero : Bool
deriving DecidableEq, Repr

/-- The memory controller beside its registers: addresses (64-bit words) whose stored code has a single or an
uncorrectable error, pages whose tag has failed, the unit that the scrubber reads next, time of the last request, the
recolouring that runs, confidential colours. -/
structure MemRec where
  ce : List Nat := []
  ue : List Nat := []
  badTags : List Nat := []
  scrubPos : Nat := 0
  lastReqNs : Nat := 0
  recolour : Option Recolour := none
  confColours : Nat := 0x4000
deriving DecidableEq, Repr

/-! ## The fault ledger (chapter 23) -/

/-- A detection that is due for the ledger (R805). -/
structure Due where
  code : Nat
  unit : Nat
  detail : Nat
  injected : Bool
  ns : Nat
  time : Nat
  aonTime : Bool
  locked : Bool
deriving DecidableEq, Repr

/-- A bus response: the word read, and whether the access was refused or failed (R561, R577). (DESIGN CHOICE, log 35.) -/
structure Resp where
  data : List Byte
  error : Bool
deriving DecidableEq, Repr

/-! ## Time bases (chapter 14) -/

/-- A time base: its count in units of 2^-48 ns (R592), servo integrator (R604), time of the last feeding write (R602),
LOCK_SINCE (R601), and the values latched by the last read of NOW_NS (R597). -/
structure TbRec where
  count : Nat := 0
  integ : Int := 0
  fedNs : Nat := 0
  lockSince : Nat := 0
  latched : Nat := 0
deriving DecidableEq, Repr

/-- An entry of a timestamp queue (R608): identifier and timestamp in units of 2^-16 ns. -/
structure TsEntry where
  id : Nat
  stamp : Nat
deriving DecidableEq, Repr

/-- The timestamp queues of an Ethernet port, oldest first. -/
structure TsQueues where
  tx : List TsEntry := []
  rx : List TsEntry := []
deriving DecidableEq, Repr

/-! ## Interrupts (chapter 15) -/

/-- A source (R622, R628, R631): pending edge, offer, last target, target that has it in service. -/
structure IrqSrc where
  edge : Bool := false
  offered : Option Nat := none
  last : Nat := 11
  inService : Option Nat := none
deriving DecidableEq, Repr

/-- A target: stack of (source, priority), top first, its freeze (R631, R635), and its line as last driven (R632). -/
structure IrqTarget where
  stack : List (Nat × Nat) := []
  frozen : Bool := false
  line : Bool := false
deriving DecidableEq, Repr

/-- One sample frame at a serial audio port's pins (R688): BCLK periods from the FS edge to the first data bit, the level of FS
and the bit on SDO in each BCLK period of the frame. -/
structure SapWire where
  first : Nat
  fs : List Bool
  sdo : List Bool
deriving DecidableEq, Repr

/-- What leaves the part, oldest first. (DESIGN CHOICE, log 35.) -/
inductive Out where
  | eth (port : Nat) (bytes : List Byte)
  | link (link : Link) (vc : Nat) (type : Nat) (bytes : List Byte) (blocks : List WireBlock)
  | msix (vector : Nat)
  | hpdPulse (port : Nat)
  | aux (port : Nat) (cmd addr : Nat) (bytes : List Byte)
  | i2c (bus : Nat) (op addr : Nat) (bytes : List Byte)
  | training (port : Nat) (pattern rate lanes : Nat)
  | act (port : Nat)
  | psr (port : Nat) (entry : Bool)
  | audio (port : Nat) (samples : List Nat) (wire : SapWire)
deriving DecidableEq, Repr

end Sys2Proof.Machine
end

