-- ==== Sys2Proof/Machine/Table.lean ====
section
/-! DEFINITION. Sparse tables: a list of (key, value) pairs in one canonical form, keys strictly rising and no entry
equal to what an unlisted key reads as. Registers, memory and the units' records are held so, and equal contents are
equal data. -/

namespace Sys2Proof.Tbl

/-- What key `k` reads as; `d` gives what an unlisted key reads as. -/
def get {α : Type} (d : Nat → α) : List (Nat × α) → Nat → α
  | [], k => d k
  | (a, v) :: t, k => if k = a then v else get d t k

/-- `(k, v)` put in its place in a table that does not list `k`. -/
def ins {α : Type} (k : Nat) (v : α) : List (Nat × α) → List (Nat × α)
  | [] => [(k, v)]
  | (a, w) :: t => if k < a then (k, v) :: (a, w) :: t else (a, w) :: ins k v t

/-- The table without key `k`. -/
def del {α : Type} (t : List (Nat × α)) (k : Nat) : List (Nat × α) :=
  t.filter (fun e => e.1 != k)

/-- Key `k` set to `v`; writing what an unlisted key reads as removes the entry. -/
def set {α : Type} [DecidableEq α] (d : Nat → α) (t : List (Nat × α)) (k : Nat) (v : α) : List (Nat × α) :=
  if v = d k then del t k else ins k v (del t k)

/-- Every key that satisfies `p` back to what an unlisted key reads as. -/
def clear {α : Type} (p : Nat → Bool) (t : List (Nat × α)) : List (Nat × α) :=
  t.filter (fun e => !p e.1)

/-- Consecutive keys from `k` set to the values of a list. -/
def setAll {α : Type} [DecidableEq α] (d : Nat → α) (t : List (Nat × α)) (k : Nat) : List α → List (Nat × α)
  | [] => t
  | v :: vs => setAll d (set d t k v) (k + 1) vs

/-- What `n` consecutive keys from `k` read as. -/
def getAll {α : Type} (d : Nat → α) (t : List (Nat × α)) (k n : Nat) : List α :=
  (List.range n).map (fun i => get d t (k + i))

/-- The canonical form. -/
abbrev Wf {α : Type} (d : Nat → α) (t : List (Nat × α)) : Prop :=
  t.Pairwise (fun x y => x.1 < y.1) ∧ ∀ e ∈ t, e.2 ≠ d e.1

end Sys2Proof.Tbl
end

