-- ==== Sys2Proof/Machine/State.lean ====
section
/-! DEFINITION. The state of the block as plain data, the reasons a step can stop, the state in a POWER-ON
reset and the state right after it. -/

namespace Sys2Proof.Machine

/-- Reasons for a fault. -/
inductive Fault where
  /-- Raised by no command: every effect of the part, refused accesses included, is a next state. Safe. -/
  | unreachable
deriving DecidableEq, Repr

/-- Reasons for a refusal. -/
inductive Refusal where
  /-- Raised by a dispatch arm whose command has no meaning yet. Safe. -/
  | notModelled (mnemonic : String)
deriving DecidableEq, Repr

/-- The state of the block. Tables list only what differs from their default (see Tbl).
(DESIGN CHOICE, log 6; DESIGN CHOICE, log 20; PRESUMED, log 33; DESIGN CHOICE, log 34.) -/
structure State where
  /-- Commands that wait, first in, first out. -/
  pending : List Instr := []
  /-- Register contents by address; unlisted registers hold their reset value. -/
  regs : List (Nat × W32) := []
  /-- Values in force of shadowed fields (R238, R360), by register address. -/
  inForce : List (Nat × W32) := []
  /-- Latched _HI halves (R24) and held _LO writes (R25), by the address of the _LO register. -/
  hiLatch : List (Nat × W32) := []
  loHeld : List (Nat × W32) := []
  /-- HBM, control SRAM, awning store and outbound memory by internal address. -/
  mem : List Host.Cell := []
  /-- QSPI flash; unlisted bytes are erased. -/
  flash : List Host.Cell := []
  /-- Colours (R569): of every HBM page not in a range, the plan's ranges, pages recoloured since; SRAM pages. -/
  tagFill : Nat := 1
  tagRanges : List RangeRec := []
  tags : List (Nat × Nat) := []
  sramTags : List (Nat × Nat) := []
  fuses : Fuses := ⟨1, 1, 1⟩
  otp : Otp := {}
  /-- The reset whose end has not come yet (R781); none while the part runs. -/
  inReset : Option ResetClass := some .powerOn
  /-- The plan in force, and the start of apply to LOAD_DONE with the plan being applied (R125). -/
  plan : Option Plan := none
  applying : Option Plan := none
  loader : Loader := {}
  qspi : Qspi := {}
  /-- Nanoseconds since power-on, in steps of one TS clock. -/
  ns : Nat := 0
  /-- Index of the next free value. -/
  free : Nat := 0
  /-- Last bus response. -/
  resp : Option Resp := none
  /-- What has left the part. -/
  out : List Out := []
  /-- An UNPREDICTABLE outcome to resolve: erring master, first and last address of the unit it is confined to. -/
  unpred : Option (Nat × Nat × Nat) := none
  chans : List (Nat × ChanStall) := []
  fstalls : List (Nat × FStall) := []
  fheads : List (Nat × FreshHead) := []
  /-- SAKs of the Ethernet ports (R767). -/
  saks : List Sak := []
  streams : List (Nat × StreamRec) := []
  stalls : List (Nat × StallRec) := []
  pipes : List (Nat × PipeRec) := []
  /-- Scaler units, coefficients and table entries that differ from their contents after reset (R328, R332, R336). -/
  spUnits : List (Nat × SpRec) := []
  spCoef : List (Nat × Int) := []
  lut : List (Nat × Nat) := []
  /-- One past the newest slot that has retired from a follower of a ring, by ring (R254); 0 none. -/
  ringRetired : List (Nat × Nat) := []
  srcs : List (Nat × SrcRec) := []
  /-- Sink ports whose UNPLUG is held (R421). -/
  unplugged : List Nat := []
  decs : List (Nat × DecRec) := []
  decCores : List (Nat × CoreRec) := []
  encs : List (Nat × EncRec) := []
  encCores : List (Nat × CoreRec) := []
  /-- The wall link (0) and the twin link (1). -/
  links : List (Nat × LinkRec) := []
  inputs : List InputEvent := []
  twin : TwinRec := {}
  saps : List (Nat × SapRec) := []
  awns : List (Nat × AwnRec) := []
  install : Option Install := none
  heads : List (Nat × HeadRec) := []
  memc : MemRec := {}
  lanes : List (Nat × LaneRec) := []
  touch : List (Nat × TouchGrp) := []
  therm : ThermRec := {}
  sec : SecRec := {}
  clk : ClkRec := {}
  /-- CMD of the transaction that runs, by I2C controller (R832). -/
  i2c : List (Nat × Nat) := []
  /-- Detections due for the ledger (R805), and per detector and unit the detection time of the last entry (R806). -/
  due : List Due := []
  lastEntry : List (Nat × Nat) := []
  /-- Evaluation points left of an armed injection, by INJ register address (R810). -/
  injLeft : List (Nat × Nat) := []
  /-- Bytes transferred per checker (R590). -/
  chkBytes : List (Nat × Nat) := []
  tbs : List (Nat × TbRec) := []
  tsq : List (Nat × TsQueues) := []
  irqSrc : List (Nat × IrqSrc) := []
  /-- Per group, one past the time in ns at which its hold-off ends; 0 none (R630). -/
  irqTimer : List (Nat × Nat) := []
  irqTgt : List (Nat × IrqTarget) := []
  busMaster : Bool := false
  msixEnable : Bool := false
  functionMask : Bool := false
deriving DecidableEq, Repr

/-- The machine in a POWER-ON reset by PORn: every register at its reset value, the main logic held.
(DESIGN CHOICE, log 5.) -/
def State.powerOn : State := {}

/-- Registers that the end of a POWER-ON reset writes: STAT of every scaler unit (its banks fill from the ROM), REFCLK_OK and
SYS_PLL_LOCK, BOOT_STAT.BUSY, and the count of RESET detections. -/
def resetRegs : List (Nat × W32) :=
  (List.range 64).map (fun k => (0x40800014 + k * 0x400, 0x600#32)) ++
  [(0x41700008, 3#32), (0x4170003C, 1#32), (0x41800240, 1#32)]

/-- The machine right after a POWER-ON reset by PORn with GPIO0 low: the island has released the domains, the boot ROM reads
the flash and the security controller waits for it, the tables and coefficient banks fill, and the RESET entry is due.
(DESIGN CHOICE, log 5; DEDUCED, log 32.) -/
def State.reset : State :=
  let e : Due := { code := 0x50, unit := 1, detail := 0, injected := false, ns := 0, time := 0, aonTime := true, locked := false }
  let units : List (Nat × SpRec) := (List.range 64).map (fun k => (k, { load := some (0, true, true, true) }))
  let qspi : Qspi := { owner := some .bootRom, waiting := [.security] }
  let clk : ClkRec := { good := 10, boot := some 0 }
  { inReset := none, free := 1, regs := resetRegs, spUnits := units, qspi := qspi, clk := clk, due := [e],
    heads := (List.range 32).map (fun n => (n, { lutReset := true })) }

end Sys2Proof.Machine
end

