-- ==== Sys2Proof/Machine/Ops.lean ====
section
/-! DEFINITION. Named operations on the state: registers and fields, records, presence of units, time, detections and
injection. -/

namespace Sys2Proof.Machine

/-! ## Registers -/

/-- Bits `hi` to `lo` of a register value. -/
def fieldGet (w : W32) (hi lo : Nat) : Nat :=
  bitsOf w.toNat hi lo

/-- A register value with bits `hi` to `lo` replaced by the low bits of `v`. -/
def fieldPut (w : W32) (hi lo v : Nat) : W32 :=
  BitVec.ofNat 32 (w.toNat - fieldGet w hi lo * 2 ^ lo + v % 2 ^ (hi + 1 - lo) * 2 ^ lo)

/-- Stored value of the register at `a`. -/
def State.rd (s : State) (a : Nat) : W32 :=
  Tbl.get resetWord s.regs a

/-- The register at `a` set to `v`. -/
def State.wr (s : State) (a : Nat) (v : W32) : State :=
  { s with regs := Tbl.set resetWord s.regs a v }

/-- Value of a field. -/
def State.get (s : State) (f : Fld) : Nat :=
  fieldGet (s.rd f.addr) f.hi f.lo

/-- A field set to the low bits of `v`. -/
def State.set (s : State) (f : Fld) (v : Nat) : State :=
  s.wr f.addr (fieldPut (s.rd f.addr) f.hi f.lo v)

/-- A one-bit field as a truth value. -/
def State.flag (s : State) (f : Fld) : Bool :=
  s.get f != 0

/-- A field set to 1. -/
def State.raise (s : State) (f : Fld) : State :=
  s.set f 1

/-- A field set to 0. -/
def State.drop (s : State) (f : Fld) : State :=
  s.set f 0

/-- A one-bit field set to a truth value. -/
def State.put (s : State) (f : Fld) (b : Bool) : State :=
  s.set f (b2n b)

/-- A saturating counter field advanced by `k`. -/
def State.add (s : State) (f : Fld) (k : Nat) : State :=
  s.set f (sat (f.hi + 1 - f.lo) (s.get f + k))

/-- A saturating counter field advanced by one. -/
def State.inc (s : State) (f : Fld) : State :=
  s.add f 1

/-- A free-running index of 16 bits advanced by one (R169). -/
def State.bump (s : State) (f : Fld) : State :=
  s.set f ((s.get f + 1) % 65536)

/-- A 32-bit register as a number. (DEDUCED, log 14.) -/
def State.word (s : State) (a : Nat) : Nat :=
  (s.rd a).toNat

/-- A register set to a number. -/
def State.setWord (s : State) (a v : Nat) : State :=
  s.wr a (BitVec.ofNat 32 v)

/-- Value in force of a shadowed register (R238, R360). -/
def State.live (s : State) (a : Nat) : W32 :=
  Tbl.get resetWord s.inForce a

/-- Value in force of a shadowed field. -/
def State.getLive (s : State) (f : Fld) : Nat :=
  fieldGet (s.live f.addr) f.hi f.lo

/-- A change made only where a condition holds. -/
def State.cond (s : State) (b : Bool) (f : State → State) : State :=
  if b then f s else s

/-- Every register of a range of addresses back to its reset value. -/
def State.resetRange (s : State) (lo hi : Nat) : State :=
  { s with regs := Tbl.clear (fun a => lo ≤ a && a < hi) s.regs
           inForce := Tbl.clear (fun a => lo ≤ a && a < hi) s.inForce
           hiLatch := Tbl.clear (fun a => lo ≤ a && a < hi) s.hiLatch
           loHeld := Tbl.clear (fun a => lo ≤ a && a < hi) s.loHeld }

/-- A 40-bit address held in a _LO and _HI pair whose _LO has `k` low bits clear. -/
def State.addrPair (s : State) (lo hi : Nat) : Nat :=
  s.word lo + s.word hi % 256 * 2 ^ 32

/-- A 64-bit value held in a pair. -/
def State.pair (s : State) (lo hi : Nat) : Nat :=
  s.word lo + s.word hi * 2 ^ 32

/-- A pair set to a number. -/
def State.setPair (s : State) (lo hi v : Nat) : State :=
  (s.setWord lo (v % 2 ^ 32)).setWord hi (v / 2 ^ 32)

/-- The next free value, cut to `w` bits. (DESIGN CHOICE, log 7.) -/
def State.freeValue (s : State) (w : Nat) : Nat :=
  Config.freeValue s.free % 2 ^ w

/-- The free values advanced by one. (DESIGN CHOICE, log 7.) -/
def State.useFree (s : State) : State :=
  { s with free := s.free + 1 }

/-- Something leaves the part. (DESIGN CHOICE, log 35.) -/
def State.emit (s : State) (o : Out) : State :=
  { s with out := s.out ++ [o] }

/-! ## Records of units -/

def State.chan (s : State) (n m c : Nat) : ChanStall := Tbl.get (fun _ => {}) s.chans ((n * 8 + m) * 4 + c)
def State.setChan (s : State) (n m c : Nat) (v : ChanStall) : State :=
  { s with chans := Tbl.set (fun _ => {}) s.chans ((n * 8 + m) * 4 + c) v }
def State.fstall (s : State) (n m : Nat) : FStall := Tbl.get (fun _ => {}) s.fstalls (n * 8 + m)
def State.setFstall (s : State) (n m : Nat) (v : FStall) : State :=
  { s with fstalls := Tbl.set (fun _ => {}) s.fstalls (n * 8 + m) v }
def State.fhead (s : State) (n : Nat) : FreshHead := Tbl.get (fun _ => {}) s.fheads n
def State.setFhead (s : State) (n : Nat) (v : FreshHead) : State :=
  { s with fheads := Tbl.set (fun _ => {}) s.fheads n v }
def State.stream (s : State) (i : Nat) : StreamRec := Tbl.get (fun _ => {}) s.streams i
def State.setStream (s : State) (i : Nat) (v : StreamRec) : State :=
  { s with streams := Tbl.set (fun _ => {}) s.streams i v }
def State.stall (s : State) (n m : Nat) : StallRec := Tbl.get (fun _ => {}) s.stalls (n * 8 + m)
def State.setStall (s : State) (n m : Nat) (v : StallRec) : State :=
  { s with stalls := Tbl.set (fun _ => {}) s.stalls (n * 8 + m) v }
def State.pipe (s : State) (n : Nat) : PipeRec := Tbl.get (fun _ => {}) s.pipes n
def State.setPipe (s : State) (n : Nat) (v : PipeRec) : State :=
  { s with pipes := Tbl.set (fun _ => {}) s.pipes n v }
def State.srcPort (s : State) (k : Nat) : SrcRec := Tbl.get (fun _ => {}) s.srcs k
def State.setSrcPort (s : State) (k : Nat) (v : SrcRec) : State :=
  { s with srcs := Tbl.set (fun _ => {}) s.srcs k v }
/-- When PVDD_EN last fell, if a reset or a cut now takes it down (R415). -/
def SrcRec.fallsAt (r : SrcRec) (ns : Nat) : Option Nat :=
  if r.pvdd then some ns else r.fell

/-- The source ports after a reset of them all. -/
def State.srcsReset (s : State) : List (Nat × SrcRec) :=
  (s.srcs.map (fun e => (e.1, { fell := e.2.fallsAt s.ns }))).filter (fun e => e.2 != {})

def State.dec (s : State) (c : Nat) : DecRec := Tbl.get (fun _ => {}) s.decs c
def State.setDec (s : State) (c : Nat) (v : DecRec) : State :=
  { s with decs := Tbl.set (fun _ => {}) s.decs c v }
def State.decCore (s : State) (k : Nat) : CoreRec := Tbl.get (fun _ => {}) s.decCores k
def State.setDecCore (s : State) (k : Nat) (v : CoreRec) : State :=
  { s with decCores := Tbl.set (fun _ => {}) s.decCores k v }
def State.enc (s : State) (c : Nat) : EncRec := Tbl.get (fun _ => {}) s.encs c
def State.setEnc (s : State) (c : Nat) (v : EncRec) : State :=
  { s with encs := Tbl.set (fun _ => {}) s.encs c v }
def State.encCore (s : State) (k : Nat) : CoreRec := Tbl.get (fun _ => {}) s.encCores k
def State.setEncCore (s : State) (k : Nat) (v : CoreRec) : State :=
  { s with encCores := Tbl.set (fun _ => {}) s.encCores k v }
def State.sap (s : State) (p : Nat) : SapRec := Tbl.get (fun _ => {}) s.saps p
def State.setSap (s : State) (p : Nat) (v : SapRec) : State :=
  { s with saps := Tbl.set (fun _ => {}) s.saps p v }
def State.awn (s : State) (n : Nat) : AwnRec := Tbl.get (fun _ => {}) s.awns n
def State.setAwn (s : State) (n : Nat) (v : AwnRec) : State :=
  { s with awns := Tbl.set (fun _ => {}) s.awns n v }
def State.head (s : State) (n : Nat) : HeadRec := Tbl.get (fun _ => {}) s.heads n
def State.setHead (s : State) (n : Nat) (v : HeadRec) : State :=
  { s with heads := Tbl.set (fun _ => {}) s.heads n v }
def State.tb (s : State) (t : Nat) : TbRec := Tbl.get (fun _ => {}) s.tbs t
def State.setTb (s : State) (t : Nat) (v : TbRec) : State :=
  { s with tbs := Tbl.set (fun _ => {}) s.tbs t v }
def State.lane (s : State) (l : Nat) : LaneRec := Tbl.get (fun _ => {}) s.lanes l
def State.setLane (s : State) (l : Nat) (v : LaneRec) : State :=
  { s with lanes := Tbl.set (fun _ => {}) s.lanes l v }
def State.tch (s : State) (g : Nat) : TouchGrp := Tbl.get (fun _ => {}) s.touch g
def State.setTch (s : State) (g : Nat) (v : TouchGrp) : State :=
  { s with touch := Tbl.set (fun _ => {}) s.touch g v }
def State.src (s : State) (i : Nat) : IrqSrc := Tbl.get (fun _ => {}) s.irqSrc i
def State.setSrc (s : State) (i : Nat) (v : IrqSrc) : State :=
  { s with irqSrc := Tbl.set (fun _ => {}) s.irqSrc i v }
def State.pairHead (s : State) (n : Nat) : TwinHead := Tbl.get (fun _ => {}) s.twin.heads n
def State.setPairHead (s : State) (n : Nat) (v : TwinHead) : State :=
  { s with twin := { s.twin with heads := Tbl.set (fun _ => {}) s.twin.heads n v } }
def State.tgt (s : State) (k : Nat) : IrqTarget := Tbl.get (fun _ => {}) s.irqTgt k
def State.setTgt (s : State) (k : Nat) (v : IrqTarget) : State :=
  { s with irqTgt := Tbl.set (fun _ => {}) s.irqTgt k v }

/-! ## Identification and lifecycle -/

/-- The units of each variant, by PART_CODE (R2). -/
def variantOf (code : Nat) : Variant :=
  match code with
  | 0x01 => ⟨16, 8, 32, 16, 64, 8, 8, 96, 8, 1, 256⟩
  | 0x02 => ⟨16, 8, 32, 16, 64, 8, 8, 96, 8, 0, 256⟩
  | 0x03 => ⟨16, 8, 24, 12, 48, 8, 8, 96, 8, 1, 256⟩
  | 0x04 => ⟨12, 6, 24, 12, 48, 4, 8, 96, 8, 1, 128⟩
  | 0x05 => ⟨12, 6, 16, 8, 32, 4, 4, 96, 8, 1, 128⟩
  | 0x06 => ⟨12, 6, 16, 8, 32, 4, 4, 96, 8, 0, 128⟩
  | 0x07 => ⟨8, 4, 16, 8, 32, 4, 4, 48, 4, 1, 0⟩
  | 0x08 => ⟨8, 4, 16, 8, 32, 4, 4, 48, 4, 0, 0⟩
  | 0x09 => ⟨8, 8, 8, 4, 16, 8, 4, 48, 4, 0, 256⟩
  | 0x0A => ⟨4, 4, 8, 4, 16, 4, 2, 48, 4, 0, 256⟩
  | 0x0B => ⟨4, 2, 8, 4, 16, 2, 2, 48, 4, 0, 0⟩
  | 0x0C => ⟨2, 2, 4, 2, 8, 2, 2, 48, 2, 0, 128⟩
  | _ => ⟨0, 0, 0, 0, 0, 0, 0, 0, 0, 0, 0⟩

/-- The units of this part. -/
def State.variant (s : State) : Variant :=
  variantOf s.fuses.partCode

/-- Package Q has 48 lanes and the hardware servo (R1, R604). -/
def State.pkgQ (s : State) : Bool :=
  s.fuses.pkg == 2

/-- A marker word counts as programmed with at least 24 ones (R760). -/
def programmed (w : Nat) : Bool :=
  24 ≤ ((List.range 32).filter (fun i => bitOf w i)).length

/-- Two of three copies of a lifecycle word are programmed (R762). -/
def lcAt (ws : List Nat) (k : Nat) : Bool :=
  2 ≤ (((ws.drop (3 * k)).take 3).filter programmed).length

/-- The lifecycle state that OTP holds (R762): 0 BLANK, 1 PROVISIONED, 2 FIELD, 3 RETIRED. -/
def State.lifecycle (s : State) : Nat :=
  if lcAt s.otp.lcWords 2 then 3 else if lcAt s.otp.lcWords 1 then 2 else if lcAt s.otp.lcWords 0 then 1 else 0

/-- A plan-key slot is enrolled (R760). -/
def PlanKey.isEnrolled (k : PlanKey) : Bool :=
  k.enrolled

/-- A plan-key slot is revoked (R760). -/
def PlanKey.isRevoked (k : PlanKey) : Bool :=
  programmed k.revWord

/-- The plan floor (R760): the highest-numbered programmed floor word. A floor word holds a number, not a marker, and
counts as programmed where any bit is 1 (DEDUCED, log 61). -/
def State.planFloor (s : State) : Nat :=
  s.otp.floors.foldl (fun f w => if w ≠ 0 then w else f) 0

/-- A public key is that of an enrolled and unrevoked slot (R89). -/
def State.keyInSlot (s : State) (slot : Nat) (pub : List Byte) : Bool :=
  match s.otp.planKeys[slot]? with
  | some k => k.isEnrolled && !k.isRevoked && decide (Config.sha384 pub = k.hash.flatMap (bytesLE 4))
  | none => false

/-! ## The plan in force and presence of units -/

/-- PARAM of the RESOURCE record of a unit in a plan (R91). -/
def Plan.find (p : Plan) (kind index : Nat) : Option ResRec :=
  p.res.find? (fun r => r.kind == kind && r.index == index)

/-- PARAM of a unit in the plan in force; none where the unit is unused. -/
def State.res (s : State) (kind index : Nat) : Option Nat :=
  match s.plan with
  | some p => (p.find kind index).map (·.param)
  | none => none

/-- The plan in force names the unit. -/
def State.named (s : State) (kind index : Nat) : Bool :=
  (s.res kind index).isSome

/-- Stalls of pipe `n` (R235); 0 where the pipe is unused. -/
def State.stallCount (s : State) (n : Nat) : Nat :=
  match s.res 0x04 n with
  | some p => p % 16
  | none => 0

/-- Pipe `n` has write-back (R268). -/
def State.hasWb (s : State) (n : Nat) : Bool :=
  match s.res 0x04 n with
  | some p => bitOf p 4
  | none => false

/-- Head `n` is named and has a pipe. -/
def State.hasPipe (s : State) (n : Nat) : Bool :=
  s.named 0x05 n && s.named 0x04 n

/-- Head `n` scans directly (R386). -/
def State.directScan (s : State) (n : Nat) : Bool :=
  match s.res 0x05 n with
  | some p => bitOf p 6
  | none => false

/-- Heads that the plan names. -/
def State.headList (s : State) : List Nat :=
  (List.range 32).filter (fun n => s.named 0x05 n)

/-- Time base `t` is in use (R595). -/
def State.tbInUse (s : State) (t : Nat) : Bool :=
  decide (t < s.variant.tb) && (s.plan.isNone || s.named 0x0B t)

/-- The identifiers of R575 whose unit the variant has. -/
def State.checkerPresent (s : State) (i : Nat) : Bool :=
  i ≤ 0xE ||
  (0x10 ≤ i && i < 0x10 + s.variant.dec) ||
  (0x20 ≤ i && i < 0x20 + s.variant.enc) ||
  (0x30 ≤ i && i < 0x30 + s.variant.heads) ||
  (0x50 ≤ i && i ≤ 0x61)

/-- The unit of a region's instance is present and, where the plan must name it, used (R13, R91, R824, R825).
(DEDUCED, log 17.) -/
def State.unitPresent (s : State) (k : UnitKind) (n m : Nat) : Bool :=
  match k with
  | .always | .ingress | .decode | .encode | .twin => true
  | .attest => decide (n < 32)
  | .head => decide (n < s.variant.heads) && s.named 0x05 n
  | .stall => decide (m < s.stallCount n) || (s.directScan n && m == 0)
  | .compStall => decide (m < s.stallCount n)
  | .pipeHead => s.hasPipe n
  | .eth | .ethTime => s.named 0x09 n
  | .decCore => s.named 0x02 n
  | .encCore => s.named 0x03 n
  | .pipe => s.named 0x04 n
  | .writeBack => s.hasWb n
  | .scaler => s.named 0x06 n
  | .src => s.named 0x07 n
  | .snk => s.named 0x08 n
  | .wallLink => s.named 0x0E 0
  | .checker => s.checkerPresent n
  | .timeBase => s.tbInUse n
  | .sap => s.named 0x0C n
  | .lane => decide (n < s.variant.lanes) && (match s.res 0x0A n with | some p => p % 16 != 0 | none => false)
  | .touch => s.named 0x0D n
  | .headFused => decide (n < s.variant.heads)

/-- The unit behind a register is present. (DEDUCED, log 17.) -/
def State.placePresent (s : State) (p : Place) : Bool :=
  s.unitPresent p.region.unit p.n p.m

/-! ## Time -/

/-- Nanoseconds of a time base, seconds × 10^9 + ns, not reduced (R159). -/
def State.tbNs (s : State) (t : Nat) : Nat :=
  (s.tb t).count / 2 ^ 48

/-- A time base as a 48-bit count of nanoseconds (R594). (DESIGN CHOICE, log 23.) -/
def State.tb48 (s : State) (t : Nat) : Nat :=
  s.tbNs t % 2 ^ 48

/-- A time base is LOCKED. -/
def State.tbLocked (s : State) (t : Nat) : Bool :=
  s.flag (F.TB_STAT_LOCKED t)

/-- The rate correction in force in units of 2^-48 (R593). -/
def State.tbRate (s : State) (t : Nat) : Int :=
  signed 64 (s.pair (R.TB_RATE_LO t) (R.TB_RATE_HI t))

/-- A time base's count after one TS clock (R593); seconds wrap modulo 2^48 (R592). (DEDUCED, log 66.) -/
def tbAdvance (count : Nat) (rate : Int) : Nat :=
  (count + (2 * ((2 ^ 48 : Nat) : Int) + 2 * rate).toNat) % (2 ^ 48 * 1000000000 * 2 ^ 48)

/-- One time base advanced by one TS clock where it is in use. -/
def State.tickTb (s : State) (t : Nat) : State :=
  s.cond (s.tbInUse t) fun s => s.setTb t { s.tb t with count := tbAdvance (s.tb t).count (s.tbRate t) }

/-- One TS clock (R592, R593): every time base in use advances. (DESIGN CHOICE, log 2.) -/
def State.tick (s : State) : State :=
  (List.range 8).foldl State.tickTb { s with ns := s.ns + 2 }

/-- Microseconds since a time in ns. (DESIGN CHOICE, log 4.) -/
def State.usSince (s : State) (t : Nat) : Nat :=
  (s.ns - t) / 1000

/-! ## Detections and injection (chapter 23) -/

/-- Detectors of the switch class (R802). -/
def switchClass : List Nat := [0x09, 0x0A, 0x35, 0x43, 0x44, 0x51, 0x53, 0x54]

/-- A detection (R802, R806): DET_CNT counts it and an entry falls due. TIME is TB0 while TB0 runs, else the AON count
in µs (R805). (DEDUCED, log 25.) -/
def State.detectWith (s : State) (inj : Bool) (code unit detail : Nat) : State :=
  let s := s.inc (F.FLT_DET_CNT_CNT code)
  let s := if switchClass.contains code then { s with twin := { s.twin with sClass := true } } else s
  { s with due := s.due ++ [{ code := code, unit := unit, detail := detail, injected := inj, ns := s.ns,
                              time := if s.tbInUse 0 then s.tb48 0 else s.ns / 1000 % 2 ^ 48,
                              aonTime := !s.tbInUse 0, locked := s.tbInUse 0 && s.tbLocked 0 }] }

/-- A detection of a real fault. -/
def State.detect (s : State) (code unit detail : Nat) : State :=
  s.detectWith false code unit detail

/-- The injection point of detector `d` is armed for `unit` (R810). -/
def State.injArmed (s : State) (d unit : Nat) : Bool :=
  s.flag (F.FLT_INJ_PEND d) && s.get (F.FLT_INJ_UNIT d) == unit

/-- An evaluation point of detector `d` for `unit` spends one count of an armed injection (R810). -/
def State.injSpend (s : State) (d unit : Nat) : State :=
  if s.injArmed d unit then
    let left := Tbl.get (fun _ => 0) s.injLeft (R.FLT_INJ d)
    let s := { s with injLeft := Tbl.set (fun _ => 0) s.injLeft (R.FLT_INJ d) (left - 1) }
    s.put (F.FLT_INJ_PEND d) (2 ≤ left)
  else s

/-- Injection permitted (R809). -/
def State.injOk (s : State) : Bool :=
  s.lifecycle ≤ 1 || (s.lifecycle == 2 && match s.plan with | some p => bitOf p.flags 0 | none => false)

/-- Every armed injection disarmed without effect (R812). -/
def State.disarm (s : State) : State :=
  (List.range 96).foldl (fun s d => s.cond (s.flag (F.FLT_INJ_PEND d)) (·.drop (F.FLT_INJ_PEND d)))
    { s with injLeft := [] }

/-! ## Decode and encode cores (R202, R228) -/

/-- CODEC clocks since a time: 1 GHz, halved while the thermal manager holds THROTTLE (R202, R738). -/
def State.codecClocks (s : State) (t : Nat) : Nat :=
  if s.get F.THERM_STATUS_LEVEL = 2 then (s.ns - t) / 2 else s.ns - t

/-- Busy clocks of a core as of now (R228). -/
def State.coreClocks (s : State) (r : CoreRec) : Nat :=
  if r.job.isSome then r.clocks + s.codecClocks r.since else r.clocks

/-- A core works on its unit: one that waits for the row above has not begun (R200). -/
def State.coreBusy (s : State) (r : CoreRec) : Bool :=
  match r.job with
  | some (_, _, t) => decide (t ≤ s.ns)
  | none => false

/-- The clocks of every busy core are counted up to now, before their rate changes. -/
def State.settleCores (s : State) : State :=
  let settle := fun (e : Nat × CoreRec) =>
    (e.1, if e.2.job.isSome then { e.2 with clocks := s.coreClocks e.2, since := max e.2.since s.ns } else e.2)
  { s with decCores := s.decCores.map settle, encCores := s.encCores.map settle }

end Sys2Proof.Machine
end

