-- ==== Sys2Proof/Machine/Memory.lean ====
section
/-! DEFINITION. Memory, colours, checkers and error codes (chapter 13): the one path that every unit's access takes,
and the commands of the memory controller. -/

namespace Sys2Proof.Machine

/-! ## Address map -/

def hbmBase : Nat := 0x1000000000
def hbmSize : Nat := 24 * 2 ^ 30
def sramBase : Nat := 0x1000000
def awnBase : Nat := 0x2000000
/-- Base of the outbound windows; the spec gives their number and size only (DESIGN CHOICE, log 12). -/
def outBase : Nat := 0x2000000000
/-- Size of the boot ROM at address 0; the spec gives neither (DESIGN CHOICE, log 12). -/
def romSize : Nat := 0x10000
/-- First HBM page of the plan store (R96). -/
def planStorePage : Nat := 6287360

/-- Regions of the internal address space (R569, R575, R819). -/
inductive Space where
  | rom | sram | awning | cspace | hbm | outbound | none
deriving DecidableEq, Repr

/-- The region that holds an address. (DESIGN CHOICE, log 12.) -/
def spaceOf (a : Nat) : Space :=
  if a < romSize then .rom
  else if sramBase ≤ a ∧ a < sramBase + 0x400000 then .sram
  else if awnBase ≤ a ∧ a < awnBase + 0x400000 then .awning
  else if cspaceBase ≤ a ∧ a < 0x50000000 then .cspace
  else if hbmBase ≤ a ∧ a < hbmBase + hbmSize then .hbm
  else if outBase ≤ a ∧ a < outBase + 16 * 2 ^ 32 then .outbound
  else .none

/-- SPACE of FIRST_INFO (R588). -/
def spaceCode : Space → Nat
  | .hbm | .none => 0
  | .sram | .awning => 1
  | .cspace | .rom => 2
  | .outbound => 3

/-- HBM page of an address. -/
def hbmPage (a : Nat) : Nat :=
  (a - hbmBase) / 4096

/-- Colour of an HBM page before recolouring: the plan's range, else the fill; the plan store is 13 (R96). -/
def State.baseColour (s : State) (p : Nat) : Nat :=
  if planStorePage ≤ p then 13
  else match s.tagRanges.find? (fun r => r.start ≤ p && p < r.start + r.count) with
    | some r => r.colour
    | none => s.tagFill

/-- Colour of an HBM page (R569). -/
def State.hbmColour (s : State) (p : Nat) : Nat :=
  Tbl.get s.baseColour s.tags p

/-- Colour of a control SRAM page (R569). -/
def State.sramColour (s : State) (p : Nat) : Nat :=
  if 960 ≤ p then 14 else Tbl.get (fun _ => 1) s.sramTags p

/-- Colour of the page or window at an address; 0 where the region has no colour. -/
def State.colourAt (s : State) (a : Nat) : Nat :=
  match spaceOf a with
  | .hbm => s.hbmColour (hbmPage a)
  | .sram => s.sramColour ((a - sramBase) / 4096)
  | .awning => 15
  | .outbound =>
    let w := (a - outBase) / 2 ^ 32
    fieldGet (s.rd (R.TAG_OUT_COLOUR (w / 8))) (w % 8 * 4 + 3) (w % 8 * 4)
  | _ => 0

/-- The page's tag has failed (R571). -/
def State.tagFailed (s : State) (a : Nat) : Bool :=
  match spaceOf a with
  | .hbm => s.memc.badTags.contains (hbmPage a)
  | _ => false

/-- The debug master's masks by lifecycle (R580): read mask, write mask. -/
def State.debugMasks (s : State) : Nat × Nat :=
  match s.lifecycle with
  | 0 | 1 => (0xBFFE, 0x1FFE)
  | 2 =>
    if s.flag F.SEC_STATUS_DEBUG_UNLOCKED then
      (s.get (F.CHK_MASK_RMASK 9) * 2, s.get (F.CHK_MASK_WMASK 9) * 2)
    else (0, 0)
  | _ => (0, 0)

/-- Mask of a checker for a direction, bit c for colour c (R576, R570, R580). -/
def State.maskOf (s : State) (master : Nat) (write : Bool) : Nat :=
  if master = 9 then (if write then s.debugMasks.2 else s.debugMasks.1)
  else if write then s.word (R.CHK_MASK master) / 2 ^ 16 else s.word (R.CHK_MASK master) % 2 ^ 16

/-- Blocks that the debug master reaches in CSPACE, by lifecycle (R580). -/
def State.debugReaches (s : State) (block : Nat) (write : Bool) : Bool :=
  match s.lifecycle with
  | 0 | 1 => block != 22
  | 2 =>
    if s.flag F.SEC_STATUS_DEBUG_UNLOCKED then !([2, 3, 22, 1, 12, 14, 13].contains block)
    else !write && (block == 0 || block == 24)
  | _ => false

/-- The master may reach CSPACE (R575). (DEDUCED, log 73.) -/
def State.reachesCspace (s : State) (master a : Nat) (write : Bool) : Bool :=
  master ≤ 8 || (master == 9 && s.debugReaches (blockOf a) write)

/-- The master may read the boot ROM (R575). -/
def reachesRom (master : Nat) : Bool :=
  master ≤ 7 || master == 11

/-- The reason for which an access is refused (R577, R578); none where it is allowed. (DEDUCED, log 72.) -/
def State.refusal (s : State) (master a size : Nat) (write : Bool) : Option Nat :=
  let b := a + max size 1 - 1
  let sp := [spaceOf a, spaceOf b]
  let colours := [s.colourAt a, s.colourAt b]
  if (sp.contains .rom && (write || !reachesRom master)) ||
     (sp.contains .cspace && !s.reachesCspace master a write) ||
     (master == 9 && !sp.contains .cspace && s.debugMasks == (0, 0)) then some 5
  else if sp.contains .none || (master == 8 && sp.contains .outbound) then some 3
  else if s.tagFailed a || s.tagFailed b then some 4
  else if sp.contains .rom || sp.contains .cspace then none
  else if colours.contains 0 then some 2
  else if colours.all (fun c => bitOf (s.maskOf master write) c) then none
  else some 1

/-- A refusal is counted and, if first, recorded (R579). -/
def State.recordRefusalWith (s : State) (inj : Bool) (master a size : Nat) (write : Bool) (reason : Nat) : State :=
  let b := a + max size 1 - 1
  let s := s.inc (F.CHK_VIOL_CNT_CNT master)
  if s.flag (F.CHK_VSTAT_VALID master) then s
  else
    let info := reason * 2 ^ 28 + s.colourAt a * 2 ^ 24 + s.colourAt b * 2 ^ 20 +
      b2n (a / 4096 != b / 4096) * 2 ^ 19 + b2n write * 2 ^ 18 + spaceCode (spaceOf a) * 2 ^ 16 + min size 256
    let s := s.setWord (R.CHK_FIRST_ADDR_LO master) (a % 2 ^ 32)
    let s := s.setWord (R.CHK_FIRST_ADDR_HI master) (a / 2 ^ 32 % 256)
    let s := s.setWord (R.CHK_FIRST_INFO master) info
    (s.raise (F.CHK_VSTAT_VALID master)).detectWith inj 0x33 master info

def State.recordRefusal (s : State) (master a size : Nat) (write : Bool) (reason : Nat) : State :=
  s.recordRefusalWith false master a size write reason

/-- A tag read finds an uncorrectable error (R571): the page refuses every access from now on. -/
def State.tagError (s : State) (inj : Bool) (page : Nat) : State :=
  if s.memc.badTags.contains page then s
  else
    let s := { s with memc := { s.memc with badTags := s.memc.badTags ++ [page] } }
    (s.inc F.TAG_TAG_ERRS_CNT).detectWith inj 0x32 0 page

/-- An access as an evaluation point of TAG_UE (R810, R811). (DEDUCED, log 72.) -/
def State.tagPoint (s : State) (a : Nat) : State :=
  if spaceOf a = .hbm ∧ s.injArmed 0x32 0 then (s.injSpend 0x32 0).tagError true (hbmPage a) else s

/-- A request for HBM: it starts the idle time anew and ends self-refresh (R565, R566). (DEDUCED, log 26.) -/
def State.wakeHbm (s : State) (a : Nat) : State :=
  if spaceOf a ≠ .hbm then s
  else
    let s := { s with memc := { s.memc with lastReqNs := s.ns } }
    if s.flag F.MEMC_STATUS_SELF_REFRESH then
      (s.drop F.MEMC_STATUS_SELF_REFRESH).raise F.MEMC_STATUS_EXITING
    else s

/-- An access through a checker (R577): the reason for which it is refused, with its record and its injected faults.
(DEDUCED, log 72.) -/
def State.checked (s : State) (master a size : Nat) (write : Bool) : Bool × State :=
  let inj := s.injArmed 0x33 master
  let s := (s.injSpend 0x33 master).tagPoint a
  match s.refusal master a size write with
  | some r => (true, s.recordRefusalWith inj master a size write r)
  | none => if inj then (true, s.recordRefusalWith true master a size write 1) else (false, s.wakeHbm a)

/-- Bytes that a master moved, as CHK.BYTES counts them (R590). (DEDUCED, log 18.) -/
def State.countBytes (s : State) (master n : Nat) : State :=
  let t := Tbl.get (fun _ => 0) s.chkBytes master + n
  { s with chkBytes := Tbl.set (fun _ => 0) s.chkBytes master t }

/-! ## Bytes and error codes -/

/-- The canonical form of memory: addresses strictly rising, no byte equal to what an unlisted address reads as.
(DESIGN CHOICE, log 10.) -/
abbrev Memory.wf (m : List Host.Cell) : Prop := Tbl.Wf (fun _ => (0 : Byte)) m

/-- Stored byte of memory; the boot ROM's bytes are a free constant. (DESIGN CHOICE, log 10.) -/
def State.byte (s : State) (a : Nat) : Byte :=
  if a < romSize then Config.romByte a else Tbl.get (fun _ => 0) s.mem a

/-- `n` stored bytes from an address. -/
def State.bytes (s : State) (a n : Nat) : List Byte :=
  (List.range n).map (fun i => s.byte (a + i))

/-- Bytes stored at an address. (DESIGN CHOICE, log 10.) -/
def State.store (s : State) (a : Nat) (bs : List Byte) : State :=
  { s with mem := Tbl.setAll (fun _ => 0) s.mem a bs }

/-- The unit whose whole write clears an uncorrectable code: 64 bytes on a confidential page, else the 64-bit word
(R562). -/
def State.codeUnit (s : State) (a : Nat) : Nat :=
  if bitOf s.memc.confColours (s.colourAt a) then 64 else 8

/-- A write clears the error marks of the words it covers whole; a corrected word is rewritten by the merge (R562). -/
def State.writeCodes (s : State) (a n : Nat) : State :=
  let u := s.codeUnit a
  let whole := fun (w : Nat) => decide (a ≤ w * 8 / u * u ∧ w * 8 / u * u + u ≤ a + n)
  let touched := fun (w : Nat) => decide (a < w * 8 + 8 ∧ w * 8 < a + n)
  { s with memc := { s.memc with ue := s.memc.ue.filter (fun w => !whole w)
                                 ce := s.memc.ce.filter (fun w => !touched w) } }

/-- Words of an access that are marked in a list. -/
def hits (ws : List Nat) (a n : Nat) : List Nat :=
  ws.filter (fun w => decide (a < w * 8 + 8 ∧ w * 8 < a + n))

/-- A corrected error (R560): the word is rewritten, counted and recorded. -/
def State.correct (s : State) (inj : Bool) (a : Nat) : State :=
  let s := s.inc F.MEMC_CE_CNT_CNT
  let s := s.setWord R.MEMC_CE_ADDR_LO (a / 64 * 64 % 2 ^ 32)
  let s := s.setWord R.MEMC_CE_ADDR_HI (a / 2 ^ 32 % 256)
  (s.raise F.MEMC_EVT_CE_EV).detectWith inj 0x30 (Config.channelHash a % 16) (a / 64 * 64 % 2 ^ 32)

/-- An uncorrectable error (R561): counted and recorded. -/
def State.uncorrectable (s : State) (inj : Bool) (a : Nat) : State :=
  let s := s.inc F.MEMC_UE_CNT_CNT
  let s := s.setWord R.MEMC_UE_ADDR_LO (a / 64 * 64 % 2 ^ 32)
  let s := s.setWord R.MEMC_UE_ADDR_HI (a / 2 ^ 32 % 256)
  (s.raise F.MEMC_EVT_UE_EV).detectWith inj 0x31 (Config.channelHash a % 16) (a / 64 * 64 % 2 ^ 32)

/-- The stored codes of a range of HBM are read, with the errors that injections present: whether one is uncorrectable,
and the state with its counts and write-backs (R560, R561). -/
def State.scanCodes (s : State) (a n : Nat) (ueInj ceInj : Bool) : Bool × State :=
  match hits s.memc.ue a n with
  | w :: _ => (true, s.uncorrectable ueInj (w * 8))
  | [] =>
    if ueInj then (true, s.uncorrectable true a)
    else
      let ces := hits s.memc.ce a n
      let s := ces.foldl (fun s w => s.correct ceInj (w * 8))
        { s with memc := { s.memc with ce := s.memc.ce.filter (fun w => !ces.contains w) } }
      (false, s.cond (ceInj && ces.isEmpty) (·.correct true a))

/-- A read of HBM, which is an evaluation point of HBM_CE and HBM_UE (R810): whether it fails. -/
def State.readCodes (s : State) (a n : Nat) : Bool × State :=
  if spaceOf a ≠ .hbm then (false, s)
  else
    let ch := Config.channelHash a % 16
    ((s.injSpend 0x31 ch).injSpend 0x30 ch).scanCodes a n (s.injArmed 0x31 ch) (s.injArmed 0x30 ch)

/-! ## One access, and a unit's transfer -/

/-- The pattern of a refused or failed read (R561, R577): 0xDEAD_C0DE in every 32-bit word. -/
def deadBytes (n : Nat) : List Byte :=
  (List.range n).map (fun i => nth 0 [0xDE#8, 0xC0#8, 0xAD#8, 0xDE#8] (i % 4))

/-- Outcome of a transfer: bytes read (or none written), refused or failed. -/
structure Xfer where
  data : List Byte := []
  refused : Bool := false
  failed : Bool := false
deriving DecidableEq, Repr

/-- The bytes lie in the awning engine's working state, 3 MiB of the awning store (R300). -/
def inAwningWork (a n : Nat) : Bool :=
  decide (awnBase + 0x100000 < a + n ∧ a < awnBase + 0x400000)

/-- What an access that is performed reads: stored bytes, or free values of the awning engine's working state, whose content
the spec does not give (R300, R301). (DESIGN CHOICE, log 84.) -/
def State.fetched (s : State) (a n : Nat) : List Byte × State :=
  if inAwningWork a n then
    ((List.range n).map (fun i => if inAwningWork (a + i) 1 then BitVec.ofNat 8 (s.freeValue (8 * n) / 2 ^ (8 * i)) else s.byte (a + i)),
     s.useFree)
  else (s.bytes a n, s)

/-- One read of at most 256 bytes (R577): refused whole, failed, or performed. -/
def State.readOne (s : State) (master a n : Nat) : Xfer × State :=
  match s.checked master a n false with
  | (true, s) => ({ data := deadBytes n, refused := true }, s)
  | (false, s) =>
    let (bad, s) := s.readCodes a n
    if bad then ({ data := deadBytes n, failed := true }, s)
    else
      let (bs, s) := s.fetched a n
      ({ data := bs }, s.countBytes master n)

/-- The read-modify-write of a write of `n` bytes (R562): the units that it covers only in part are read; whether one
held an uncorrectable error. It is no evaluation point of an injection (R810). -/
def State.mergeCodes (s : State) (a n : Nat) : Bool × State :=
  let u := s.codeUnit a
  let lo := a / u * u
  let hi := (a + n - 1) / u * u
  let units := if spaceOf a ≠ .hbm then [] else if lo = hi then [lo] else [lo, hi]
  (units.filter (fun b => decide (b < a ∨ a + n < b + u))).foldl (fun (bad, s) b =>
    let (x, s) := s.scanCodes b u false false
    (bad || x, s)) (false, s)

/-- One write of at most 256 bytes (R577): refused whole, or stored; it meets an uncorrectable error where its merge finds
one (R562). (DEDUCED, log 26.) -/
def State.writeOne (s : State) (master a : Nat) (bs : List Byte) : Xfer × State :=
  match s.checked master a bs.length true with
  | (true, s) => ({ refused := true }, s)
  | (false, s) =>
    let (bad, s) := if bs.isEmpty then (false, s) else s.mergeCodes a bs.length
    ({ failed := bad }, ((s.writeCodes a bs.length).store a bs).countBytes master bs.length)

/-- Sizes of the accesses of a transfer: split at 256-byte boundaries (R577; the place of the split is a DESIGN CHOICE,
log 13). -/
def pieces : Nat → Nat → Nat → List (Nat × Nat)
  | 0, _, _ => []
  | fuel + 1, a, n =>
    if n = 0 then [] else
    let k := min n (256 - a % 256)
    (a, k) :: pieces fuel (a + k) (n - k)

/-- A unit's read of `n` bytes, access by access, up to the first one refused or failed. (DESIGN CHOICE, log 13.) -/
def State.dmaRead (s : State) (master a n : Nat) : Xfer × State :=
  (pieces (n + 1) a n).foldl (fun (x, s) (b, k) =>
    if x.refused || x.failed then (x, s)
    else
      let (y, s) := s.readOne master b k
      ({ data := x.data ++ y.data, refused := y.refused, failed := y.failed }, s)) ({}, s)

/-- A unit's write, access by access; accesses before a refused one take effect (R577). (DESIGN CHOICE, log 13.) -/
def State.dmaWrite (s : State) (master a : Nat) (bs : List Byte) : Xfer × State :=
  (pieces (bs.length + 1) a bs.length).foldl (fun (x, s) (b, k) =>
    if x.refused then (x, s)
    else
      let (y, s) := s.writeOne master b (slice bs (b - a) k)
      ({ refused := y.refused, failed := x.failed || y.failed }, s)) ({}, s)

end Sys2Proof.Machine
end

