-- ==== Sys2Proof/Machine/PlanImage.lean ====
section
/-! DEFINITION. The pitch plan image (R82 to R110): reading it and the rules that the loader checks. -/

namespace Sys2Proof.Machine

/-- Codes of R126. -/
def codeOk : Nat := 0x00

/-! ## Header, directory and sections -/

/-- Section types in the order of the directory (R85), with their record sizes (R86). -/
def sectionSizes : List (Nat × Nat) :=
  [(2, 8), (3, 16), (4, 16), (5, 16), (6, 32), (7, 8), (8, 64), (9, 16)]

/-- OFFSET and LENGTH of directory entry `k`. -/
def dirEntry (img : List Byte) (k : Nat) : Nat × Nat :=
  (leAt img (0x30 + 16 * k + 4) 4, leAt img (0x30 + 16 * k + 8) 4)

/-- Bytes of section `k`. -/
def sectionBytes (img : List Byte) (k : Nat) : List Byte :=
  slice img (dirEntry img k).1 (dirEntry img k).2

/-- Records of section `k`, each a list of bytes. -/
def recordsOf (img : List Byte) (k size : Nat) : List (List Byte) :=
  let sec := sectionBytes img k
  (List.range (leAt sec 0 4)).map (fun i => slice sec (16 + i * size) size)

/-- FORMAT, HEADER_SIZE and the directory (R84, R85). -/
def headerFormatOk (hdr : List Byte) : Bool :=
  leAt hdr 4 2 / 256 == 1 && leAt hdr 6 2 == 0x100 &&
  (List.range 8).all (fun k => leAt hdr (0x30 + 16 * k) 2 == k + 2 && leAt hdr (0x32 + 16 * k) 2 == 1)

/-- Record sizes, and the one record of TWIN (R86). -/
def recordSizesOk (img : List Byte) : Bool :=
  (List.range 8).all (fun k => leAt (sectionBytes img k) 4 2 == (nth (0, 0) sectionSizes k).2) &&
  leAt (sectionBytes img 6) 0 4 == 1

/-- Two half-open intervals do not overlap. -/
def disjoint (a b : Nat × Nat) : Bool :=
  a.1 + a.2 ≤ b.1 || b.1 + b.2 ≤ a.1

/-- Every pair of a list satisfies a symmetric test. -/
def allPairs {α : Type} (p : α → α → Bool) : List α → Bool
  | [] => true
  | a :: t => t.all (p a) && allPairs p t

/-- TOTAL_SIZE and the places of sections (R83). -/
def placesOk (hdr : List Byte) (total : Nat) : Bool :=
  total % 64 == 0 && 4096 ≤ total && total ≤ 8 * 2 ^ 20 &&
  (List.range 8).all (fun k =>
    let (o, l) := dirEntry hdr k
    o % 64 == 0 && 256 ≤ o && o + l ≤ total - 256) &&
  allPairs disjoint ((List.range 8).map (dirEntry hdr))

/-- LENGTH of every section, and the zero bytes that round it up (R86). -/
def lengthsOk (img : List Byte) : Bool :=
  (List.range 8).all (fun k =>
    let sec := sectionBytes img k
    let used := 16 + leAt sec 0 4 * leAt sec 4 2
    (dirEntry img k).2 == ceilDiv used 64 * 64 && (sec.drop used).all (· == 0))

/-- DIE_CODE, PKG_MASK and PART_MASK admit this part (R84). -/
def State.partOk (s : State) (img : List Byte) : Bool :=
  leAt img 0xC 1 == 0x60 && bitOf (leAt img 0xD 1) (s.fuses.pkg - 1) && bitOf (leAt img 0xE 2) s.fuses.partCode

/-- Every section's CRC matches (R85). -/
def crcsOk (img : List Byte) : Bool :=
  (List.range 8).all (fun k => crc32c (sectionBytes img k) == leAt img (0x30 + 16 * k + 12) 4)

/-- The plan hash (R88). -/
def planHash (img : List Byte) (total : Nat) : List Byte :=
  Config.sha384 (img.take (total - 256))

/-- First failing check of the header and directory, before the image is copied (R84, R85, R122): MAGIC, format, size (that
of the marker where the image came from a slot) and part. (DEDUCED, log 75.) -/
def State.headerCode (s : State) (hdr : List Byte) (total : Nat) (marker : Option (Nat × List Byte)) : Nat :=
  if leAt hdr 0 4 != 0x4E4C5050 then 0x11
  else if !headerFormatOk hdr then 0x12
  else if !placesOk hdr total || (match marker with | some (z, _) => z != total | none => false) then 0x13
  else if !s.partOk hdr then 0x14
  else 0

/-- First failing check of the copied image (R86, R87, R122): SIG_MAGIC, record sizes, lengths with their padding, section
CRCs and the hash of the slot's marker. (DEDUCED, log 75.) -/
def imageCode (img : List Byte) (total : Nat) (marker : Option (Nat × List Byte)) : Nat :=
  if leAt img (total - 256) 4 != 0x47495350 then 0x11
  else if !recordSizesOk img then 0x12
  else if !lengthsOk img then 0x13
  else if !crcsOk img || (match marker with | some (_, h) => h != planHash img total | none => false) then 0x18
  else 0

/-- The key, signature and rollback checks (R87, R89, R90). -/
def State.verifyCode (s : State) (img : List Byte) (total : Nat) : Nat :=
  let sig := img.drop (total - 256)
  let slot := leAt sig 4 1
  let pub := slice sig 8 97
  if !s.keyInSlot slot pub then 0x15
  else if !Config.ecdsaVerify pub (planHash img total) (slice sig 0x70 48) (slice sig 0xA0 48) then 0x16
  else if leAt img 0x14 4 < s.planFloor then 0x17
  else 0

/-! ## Records -/

def readRes (r : List Byte) : ResRec := ⟨leAt r 0 1, leAt r 1 1, leAt r 4 4⟩

def readFab (r : List Byte) : FabRec :=
  ⟨leAt r 0 2, leAt r 2 1, leAt r 3 1, leAt r 4 4, leAt r 8 4, leAt r 12 1⟩

def readMask (r : List Byte) : MaskRec := ⟨leAt r 2 2, leAt r 4 2, leAt r 6 2, leAt r 8 1⟩

def readRange (r : List Byte) : RangeRec :=
  ⟨leAt r 4 4, leAt r 8 4, leAt r 12 1 % 16, bitOf (leAt r 12 1) 4⟩

def readClass (r : List Byte) : ClassRec :=
  ⟨leAt r 0 1, leAt r 1 1, leAt r 2 1, bitOf (leAt r 3 1) 0, bitOf (leAt r 3 1) 1, leAt r 4 4, leAt r 8 1, leAt r 9 1,
   leAt r 10 1⟩

def readAwn (r : List Byte) : AwnPlan :=
  ⟨leAt r 0 1, leAt r 1 1 % 8, leAt r 2 1, leAt r 3 1, leAt r 4 4, leAt r 8 4, leAt r 12 4, leAt r 0x10 2,
   leAt r 0x12 2, leAt r 0x14 1⟩

def readIrq (r : List Byte) : IrqRec :=
  ⟨leAt r 0 1, leAt r 1 2, leAt r 3 1, leAt r 4 2, bitOf (leAt r 6 1) 0⟩

def readTwin (r : List Byte) : TwinPlan :=
  { mode := leAt r 0 1, prefer := leAt r 1 1, tickHz := leAt r 2 2, flags := leAt r 4 2, pairId := leAt r 8 8
    peerKeyHash := slice r 0x10 48 }

def readLock (r : List Byte) : LockRec :=
  ⟨bitsOf (leAt r 0 4) 27 2 * 4, bitOf (leAt r 0 4) 0, leAt r 4 4, leAt r 8 4, leAt r 12 2, leAt r 14 2⟩

/-- The plan that an image spells. -/
def readPlan (img : List Byte) (total : Nat) : Plan :=
  { planId := leAt img 0x10 4, planSeq := leAt img 0x14 4, flags := leAt img 0x18 4, hash := planHash img total
    res := (recordsOf img 0 8).map readRes
    fab := (recordsOf img 1 16).map readFab
    masks := ((recordsOf img 2 16).filter (fun r => leAt r 0 1 == 1)).map readMask
    ranges := ((recordsOf img 2 16).filter (fun r => leAt r 0 1 == 2)).map readRange
    classes := (recordsOf img 3 16).map readClass
    awn := (recordsOf img 4 32).map readAwn
    irq := (recordsOf img 5 8).map readIrq
    twin := match recordsOf img 6 64 with | r :: _ => readTwin r | [] => {}
    locks := (recordsOf img 7 16).map readLock }

/-! ## Section rules -/

/-- Units of a kind that the variant has (R2, R91). -/
def Variant.count (v : Variant) (kind : Nat) : Nat :=
  match kind with
  | 0x02 => v.dec
  | 0x03 => v.enc
  | 0x04 | 0x05 => v.heads
  | 0x06 => v.scalers
  | 0x07 => v.src
  | 0x08 => v.snk
  | 0x09 => v.eth
  | 0x0A => v.lanes
  | 0x0B => v.tb
  | 0x0C => 8
  | 0x0D => v.touch / 64
  | 0x0E => 1
  | 0x0F => v.twin
  | _ => 0

/-- Kind of the unit that a lane function serves (R91); 0 for unused and raw lanes. -/
def laneKind (f : Nat) : Nat :=
  match f with
  | 1 => 0x07 | 2 => 0x08 | 3 => 0x09 | 4 => 0x0E | 5 => 0x0F | _ => 0

/-- A RESOURCE record names an absent unit (R15, R107): its own, the unit of a lane, the source port of a head or the pipe of a
scaler unit. -/
def Variant.absentRes (v : Variant) (r : ResRec) : Bool :=
  (2 ≤ r.kind && r.kind ≤ 0xF && v.count r.kind ≤ r.index) ||
  (r.kind == 0x0A && laneKind (r.param % 16) != 0 && v.count (laneKind (r.param % 16)) ≤ bitsOf r.param 11 8) ||
  (r.kind == 0x05 && v.src ≤ r.param % 16) || (r.kind == 0x06 && v.heads ≤ r.param % 32)

/-- Some record names an absent unit (R15, R310). -/
def State.planAbsent (s : State) (p : Plan) : Bool :=
  let v := s.variant
  p.res.any v.absentRes || p.fab.any (fun f => !s.checkerPresent f.master) ||
  p.masks.any (fun m => !s.checkerPresent m.checker) || p.classes.any (fun c => v.heads ≤ c.pipe) ||
  p.awn.any (fun a => v.heads ≤ a.head || v.tb ≤ a.clockTb)

/-- Lanes that a unit needs (R91). -/
def lanesNeeded (kind param : Nat) : Nat :=
  match kind with
  | 0x07 | 0x08 => param % 8
  | 0x09 => 1
  | 0x0E => param % 16
  | 0x0F => 4
  | _ => 0

/-- Lane numbers within a unit that a plan's lane records give it. -/
def Plan.lanesOf (p : Plan) (kind index : Nat) : List Nat :=
  (p.res.filter (fun r => r.kind == 0x0A && laneKind (r.param % 16) == kind && bitsOf r.param 11 8 == index)).map
    (fun r => bitsOf r.param 18 16)

/-- The lane records of a unit are exactly its lanes, each once (R92). -/
def Plan.lanesMatch (p : Plan) (r : ResRec) : Bool :=
  let ls := p.lanesOf r.kind r.index
  let n := lanesNeeded r.kind r.param
  ls.length == n && (List.range n).all ls.contains

/-- A head of a RESOURCE record is an eDP head (R91). -/
def ResRec.eDp (r : ResRec) : Bool := r.kind == 0x05 && bitOf r.param 7

/-- Heads whose ports and streams conflict (R405): one stream of a port taken twice, or an eDP head on SRC8 to SRC15, on a
stream other than 0, or on a shared port. -/
def Plan.portConflict (p : Plan) : Bool :=
  let hs := p.res.filter (fun r => r.kind == 0x05)
  !allPairs (fun a b => !(a.param % 64 == b.param % 64)) hs ||
  hs.any (fun r => r.eDp && (8 ≤ r.param % 16 || bitsOf r.param 5 4 != 0)) ||
  !allPairs (fun a b => !((a.eDp || b.eDp) && a.param % 16 == b.param % 16)) hs

/-- R92, R99, R101, R386 and R405. The other records rejected here are those whose unit or lane count the spec leaves no
meaning: a lane of a unit without a record, an Ethernet port without exactly one lane, a port of 0, 3 or more than 4
lanes, a wall link of 0 or more than 8. (DESIGN CHOICE, log 76.) -/
def Plan.resourceConflict (p : Plan) : Bool :=
  p.res.any (fun r => r.kind < 2 || 0xF < r.kind || (r.kind == 0x0A && 6 < r.param % 16)) ||
  !allPairs (fun a b => !(a.kind == b.kind && a.index == b.index)) p.res ||
  p.portConflict ||
  p.res.any (fun r => [0x07, 0x08, 0x09, 0x0E].contains r.kind && !p.lanesMatch r) ||
  p.res.any (fun r => (r.kind == 0x07 || r.kind == 0x08) && !(([1, 2, 4] : List Nat).contains (r.param % 8))) ||
  p.res.any (fun r => r.kind == 0x0E && !(1 ≤ r.param % 16 && r.param % 16 ≤ 8)) ||
  p.res.any (fun r => r.kind == 0x0A && laneKind (r.param % 16) != 0 && r.param % 16 != 5 &&
    (p.find (laneKind (r.param % 16)) (bitsOf r.param 11 8)).isNone) ||
  p.res.any (fun r => r.kind == 0x04 && !(2 ≤ r.param % 16 && r.param % 16 ≤ 8)) ||
  !allPairs (fun a b => !(a.kind == 6 && b.kind == 6 && a.param % 256 == b.param % 256)) p.res ||
  p.res.any (fun r => r.kind == 0x05 && (p.find 0x07 (r.param % 16)).isNone) ||
  p.res.any (fun r => r.kind == 0x05 && bitOf r.param 6 && (p.find 0x04 r.index).isSome) ||
  p.res.any (fun r => r.kind == 0x04 && (List.range 8).any (fun m =>
    (p.classes.filter (fun c => c.pipe == r.index && c.stall == m)).length != b2n (m < r.param % 16))) ||
  p.classes.any (fun c => c.stall != 0xFF && (8 ≤ c.stall || (p.find 0x04 c.pipe).isNone)) ||
  p.classes.any (fun c => c.stall == 0xFF &&
    !(match p.find 0x05 c.pipe with | some r => bitOf r.param 6 | none => false)) ||
  !allPairs (fun a b => !(a.stall == 0xFF && b.stall == 0xFF && a.pipe == b.pipe)) p.classes

/-- Sum of RESERVE on a target (R94). -/
def Plan.reserved (p : Plan) (target : Nat) : Nat :=
  (p.fab.filter (fun f => f.target == target)).foldl (fun a f => a + f.reserve) 0

/-- R94. -/
def Plan.overBandwidth (p : Plan) : Bool :=
  573440 < p.reserved 0 || 71680 < p.reserved 1 || 11025 < p.reserved 2 ||
  p.fab.any (fun f => 2 < f.target || 7 < f.priority || 2 < f.latClass) ||
  p.res.any (fun r => (r.kind == 0x04 || r.kind == 0x05) &&
    !p.fab.any (fun f => f.master == 0x30 + r.index && f.target == 0 && 0 < f.reserve))

/-- Fixed grants of colours 13 to 15 (R570): read mask, write mask. -/
def fixedGrants (checker : Nat) : Nat × Nat :=
  match checker with
  | 0x0A => (0x2000, 0x2000)
  | 0x0B => (0xC000, 0xC000)
  | 0x0C => (0x8000, 0x8000)
  | _ => (0, 0)

/-- Bits of `a` outside `b`, as numbers of 16 bits. -/
def outside (a b : Nat) : Bool :=
  (List.range 16).any (fun i => bitOf a i && !bitOf b i)

/-- R97. -/
def colourRule (img : List Byte) (p : Plan) : Bool :=
  (recordsOf img 2 16).any (fun r => leAt r 0 1 != 1 && leAt r 0 1 != 2) ||
  !allPairs (fun a b => !(a.checker == b.checker)) p.masks ||
  p.masks.any (fun m => m.rmask % 2 == 1 || m.wmask % 2 == 1) ||
  p.ranges.any (fun r => planStorePage < r.start + r.count || [0, 13, 14, 15].contains r.colour) ||
  !allPairs (fun a b => disjoint (a.start, a.count) (b.start, b.count)) p.ranges ||
  p.masks.any (fun m => outside (m.rmask / 8192 * 8192) (fixedGrants m.checker).1 ||
    outside (m.wmask / 8192 * 8192) (fixedGrants m.checker).2) ||
  p.masks.any (fun m => [9, 10, 11, 12].contains m.checker && m.opn % 4 != 0)

/-- R100 and R101: class conflicts. -/
def Plan.classConflict (p : Plan) : Bool :=
  p.classes.any (fun c => c.cls == 1 && (c.stall == 0xFF || !c.mark))

/-- R100, R44 and R310: values out of range. -/
def Plan.paramRange (p : Plan) : Bool :=
  p.classes.any (fun c => !(c.cls == 1 || c.cls == 2) || (c.stall != 0xFF &&
    !(10 ≤ c.budget && c.budget ≤ 600000 && 2 ≤ c.freezeWin && 2 ≤ c.sigWin && 1 ≤ c.hyst && c.hyst ≤ 15))) ||
  p.res.any (fun r => r.kind == 0x05 && (p.find 0x04 r.index).isSome &&
    (p.awn.filter (fun a => a.head == r.index)).length != 1) ||
  p.awn.any (fun a => (p.find 0x05 a.head).isNone || (p.find 0x04 a.head).isNone) ||
  !allPairs (fun a b => !(a.head == b.head)) p.awn ||
  p.awn.any (fun a => !(1 ≤ a.borderW && a.borderW ≤ 16 && 4 ≤ a.hatchPitch && a.hatchPitch ≤ 64)) ||
  4 < ((p.awn.map (·.bundleId)).filter (· != 0)).eraseDups.length ||
  p.awn.any (fun a => bitOf a.elements 1 && (p.find 0x0B a.clockTb).isNone)

/-- Bits of a register's RWP fields; rectangles 6 and 7, and SRC[496] to SRC[507].CFG, are read-only (R399, R625). -/
def rwpBits (pl : Place) : Nat :=
  if (pl.region.base == 0x40900100 && 6 ≤ pl.m) || (pl.reg.off == 0x1000 && pl.region.base == 0x41000000 && 496 ≤ pl.i && pl.i < 508)
  then 0
  else pl.reg.fields.foldl (fun v f => if f.acc = .rwp then v + (2 ^ (f.hi + 1 - f.lo) - 1) * 2 ^ f.lo else v) 0

/-- Address of the `i`th register that a LOCKS record covers (R108). -/
def LockRec.addr (l : LockRec) (i : Nat) : Nat :=
  cspaceBase + l.offset + i * l.stride * 4

/-- R110, with presence judged under the plan that is being loaded. -/
def State.lockRule (s : State) (img : List Byte) (p : Plan) : Bool :=
  let t := { s with plan := some p }
  (recordsOf img 7 16).any (fun r => 2 ^ 28 ≤ leAt r 0 4 || bitOf (leAt r 0 4) 1) ||
  p.locks.any (fun l => l.count == 0 || 4096 < l.count ||
    (List.range l.count).any (fun i =>
      match placeOf (l.addr i) with
      | none => true
      | some pl => 0x50000000 ≤ l.addr i || !t.placePresent pl ||
          (List.range 32).any (fun b => bitOf l.mask b && !bitOf (rwpBits pl) b)))

/-- R107 beyond the absent units of `planAbsent`. -/
def State.twinRule (s : State) (p : Plan) : Bool :=
  (p.twin.mode != 0 && (s.variant.twin == 0 || (p.find 0x0F 0).isNone || !p.lanesMatch ⟨0x0F, 0, 0⟩)) ||
  2 < p.twin.mode || !(24 ≤ p.twin.tickHz && p.twin.tickHz ≤ 240)

/-- The units behind an interrupt source (R621), by kind and index: one, those that a group source stands for, or none where
the source is reserved. -/
def sourceUnits (i : Nat) : List (UnitKind × Nat) :=
  if i < 16 then [(.always, 0)]
  else if i < 48 then [(.head, i - 16)]
  else if i < 80 then [(.pipe, i - 48)]
  else if i < 112 then [(.pipeHead, i - 80)]
  else if i < 208 then [(.head, (i - 112) % 32)]
  else if i < 224 then [(.src, i - 208)]
  else if i < 232 then [(.snk, i - 224)]
  else if i < 240 then [(.eth, i - 232)]
  else if i < 262 then [(.always, 0)]
  else if i < 264 then (List.range 32).map (fun k => (.scaler, (i - 262) * 32 + k))
  else if i = 265 then [(.wallLink, 0)]
  else if i < 269 then [(.always, 0)]
  else if i < 272 then []
  else if i < 280 then [(.timeBase, i - 272)]
  else if i < 288 then [(.ethTime, i - 280)]
  else if i < 296 then [(.always, 0)]
  else if i < 304 then [(.sap, i - 296)]
  else if i < 308 then [(.touch, i - 304)]
  else if i < 314 then (List.range 16).map (fun k => (.lane, (i - 308) * 16 + k))
  else if i < 319 then [(.always, 0)]
  else if i < 320 then []
  else if i < 352 then [(.always, 0)]
  else if i < 496 then []
  else if i < 508 then [(.always, 0)]
  else []

/-- Some unit behind the source is present and used (R14, R105). -/
def State.sourceUsed (s : State) (i : Nat) : Bool :=
  (sourceUnits i).any (fun (k, n) => s.unitPresent k n 0)

/-- R105. -/
def State.irqRule (s : State) (p : Plan) : Bool :=
  let t := { s with plan := some p }
  p.irq.any (fun r =>
    !(r.type == 1 || r.type == 2) ||
    (r.type == 2 && 31 < r.index) ||
    (r.type == 1 && (511 < r.index || 15 < r.priority || (496 ≤ r.index && r.index < 508) ||
      (r.locked && r.value % 4096 == 0) ||
      !t.sourceUsed r.index)))

/-- First failing section rule, in the order of the code table (R126). -/
def State.checkCode (s : State) (img : List Byte) (p : Plan) : Nat :=
  if s.planAbsent p then 0x20
  else if p.resourceConflict then 0x21
  else if p.overBandwidth then 0x22
  else if colourRule img p then 0x23
  else if p.classConflict then 0x24
  else if p.paramRange then 0x25
  else if s.lockRule img p then 0x26
  else if s.twinRule p then 0x27
  else if s.irqRule p then 0x28
  else 0

/-! ## Locks (R111 to R113) -/

/-- A LOCKS record covers the register at `a`. -/
def LockRec.covers (l : LockRec) (a : Nat) : Bool :=
  let b := cspaceBase + l.offset
  if l.stride = 0 then a == b
  else decide (b ≤ a) && (a - b) % (4 * l.stride) == 0 && decide ((a - b) / (4 * l.stride) < l.count)

/-- `x` with the bits of `mask` taken from `y` (32 bits). -/
def maskIn (x y mask : Nat) : Nat :=
  (BitVec.ofNat 32 x &&& ~~~ BitVec.ofNat 32 mask ||| BitVec.ofNat 32 y &&& BitVec.ofNat 32 mask).toNat

/-- Locked bits of the register at `a` and their values: a later record overrides an earlier one (R109). -/
def Plan.lockAt (p : Plan) (a : Nat) : Nat × Nat :=
  p.locks.foldl (fun (m, v) l =>
    if l.covers a then (maskIn m (if l.lock then 0xFFFFFFFF else 0) l.mask, maskIn v l.value l.mask) else (m, v)) (0, 0)

end Sys2Proof.Machine
end

