-- ==== Sys2Proof/Machine/Stamp.lean ====
section
/-! DEFINITION. Tally stamps as words and bytes (R32), the descriptors of rings (R166) and the read of a stamp slot
(R37, R40). -/

namespace Sys2Proof.Machine

/-- The 128 bits of a stamp (R32). -/
def Stamp.bits (t : Stamp) : Nat :=
  t.sourceId % 2 ^ 12 * 2 ^ 116 + t.tb % 2 ^ 4 * 2 ^ 112 + t.captureTime % 2 ^ 48 * 2 ^ 64 + t.seq % 2 ^ 24 * 2 ^ 40 +
  t.alive % 2 ^ 4 * 2 ^ 36 + b2n t.degraded * 2 ^ 35 + b2n t.overrun * 2 ^ 34 + b2n t.arrivalTimed * 2 ^ 33 +
  b2n t.concealed * 2 ^ 32 + t.signature % 2 ^ 32

/-- The stamp that 128 bits spell. -/
def Stamp.ofBits (v : Nat) : Stamp :=
  { sourceId := bitsOf v 127 116, tb := bitsOf v 115 112, captureTime := bitsOf v 111 64, seq := bitsOf v 63 40,
    alive := bitsOf v 39 36, degraded := bitOf v 35, overrun := bitOf v 34, arrivalTimed := bitOf v 33,
    concealed := bitOf v 32, signature := bitsOf v 31 0 }

/-- A stamp as stored: bits [7:0] in byte 0 (R166). (DEDUCED, log 36.) -/
def Stamp.bytes (t : Stamp) : List Byte :=
  bytesLE 16 t.bits

/-- The stamp that 16 stored bytes spell. -/
def Stamp.ofBytes (bs : List Byte) : Stamp :=
  Stamp.ofBits (natLE bs)

/-- Fields of a ring's descriptor (R166). -/
structure Desc where
  stamp : Stamp
  dataOffset : Nat := 0
  dataLen : Nat := 0
  rtpTs : Nat := 0
  pkts : Nat := 0
  lost : Nat := 0
  arrival : Nat := 0
  flags : Nat := 0
  rtpSeq : Nat := 0
deriving DecidableEq, Repr

/-- The 64 bytes of a descriptor (R166). -/
def Desc.bytes (d : Desc) : List Byte :=
  d.stamp.bytes ++ bytesLE 4 d.dataOffset ++ bytesLE 4 d.dataLen ++ bytesLE 4 d.rtpTs ++ bytesLE 2 d.pkts ++
  bytesLE 2 d.lost ++ bytesLE 8 (d.arrival % 2 ^ 48) ++ bytesLE 4 d.flags ++ bytesLE 4 d.rtpSeq ++ bytesLE 16 0

/-- The descriptor that 64 bytes spell. -/
def Desc.ofBytes (bs : List Byte) : Desc :=
  { stamp := Stamp.ofBytes (slice bs 0 16), dataOffset := leAt bs 0x10 4, dataLen := leAt bs 0x14 4,
    rtpTs := leAt bs 0x18 4, pkts := leAt bs 0x1C 2, lost := leAt bs 0x1E 2, arrival := leAt bs 0x20 8 % 2 ^ 48,
    flags := leAt bs 0x28 4, rtpSeq := leAt bs 0x2C 4 }

/-- A unit's read of `n` bytes: none where it is refused or fails. -/
def State.unitRead (s : State) (master a n : Nat) : Option (List Byte) × State :=
  let (x, s) := s.dmaRead master a n
  (if x.refused || x.failed then none else some x.data, s)

/-- A unit's write: whether it was made without a refusal or an uncorrectable error (R562, R577). -/
def State.unitWrite (s : State) (master a : Nat) (bs : List Byte) : Bool × State :=
  let (x, s) := s.dmaWrite master a bs
  (!x.refused && !x.failed, s)

/-- A read of the stamp slot of a buffer (R37, R40). -/
def State.readStamp (s : State) (master buf : Nat) : Option Stamp × State :=
  let (x, s) := s.unitRead master buf 16
  (x.map Stamp.ofBytes, s)

/-- A read of a ring's descriptor `j` (R166). -/
def State.readDesc (s : State) (master base log2 j : Nat) : Option Desc × State :=
  let (x, s) := s.unitRead master (base + j % 2 ^ log2 * 64) 64
  (x.map Desc.ofBytes, s)

end Sys2Proof.Machine
end

