-- ==== Sys2Proof/Machine/Surface.lean ====
section
/-! DEFINITION. Picture surfaces: source formats (R239, R240), linear layout (R241), DBC layout and tile coding (R243 to
R249), and the read and write of planes through a unit's checker. -/

namespace Sys2Proof.Machine

/-! ## Formats -/

/-- A plane of a format: bytes of an element, bits (hi, lo) of its components in coding order, and S_max (R239). -/
structure PlaneFmt where
  size : Nat
  comps : List (Nat × Nat)
  smax : Nat
deriving DecidableEq, Repr

/-- Planes of a format (R239); none of a reserved code. -/
def planesOf (fmt : Nat) : List PlaneFmt :=
  match fmt with
  | 1 | 7 => [⟨2, [(9, 0)], 4⟩, ⟨4, [(9, 0), (25, 16)], 8⟩]
  | 2 => [⟨4, [(31, 24), (23, 16), (15, 8), (7, 0)], 8⟩]
  | 3 => [⟨4, [(31, 30), (29, 20), (19, 10), (9, 0)], 8⟩]
  | 4 => [⟨2, [(15, 11), (10, 5), (4, 0)], 4⟩]
  | 5 => [⟨3, [(7, 0), (15, 8), (23, 16)], 6⟩]
  | 6 => [⟨1, [(7, 0)], 2⟩, ⟨2, [(7, 0), (15, 8)], 4⟩]
  | _ => []

/-- Plane `p` of a format. -/
def planeOf (fmt p : Nat) : PlaneFmt :=
  nth ⟨1, [], 1⟩ (planesOf fmt) p

/-- The format carries alpha (R240). -/
def hasAlpha (fmt : Nat) : Bool :=
  fmt == 2 || fmt == 3

/-- The format is YCbCr. -/
def isYuv (fmt : Nat) : Bool :=
  fmt == 1 || fmt == 6 || fmt == 7

/-- The format has chroma at half height. -/
def half420 (fmt : Nat) : Bool :=
  fmt == 6 || fmt == 7

/-- Elements per line and lines of plane `p`. -/
def planeDims (fmt p w h : Nat) : Nat × Nat :=
  if p = 0 then (w, h) else (ceilDiv w 2, if half420 fmt then ceilDiv h 2 else h)

/-- A number rounded up to a multiple. -/
def roundUp (v k : Nat) : Nat :=
  ceilDiv v k * k

/-- A surface: address, format, DBC, size, and PITCH in units of 256 bytes, 0 for the smallest. -/
structure Surf where
  base : Nat
  fmt : Nat
  dbc : Bool
  w : Nat
  h : Nat
  pitch : Nat
deriving DecidableEq, Repr

/-- Bytes from one line to the next of a linear surface (R241). -/
def Surf.stride (s : Surf) : Nat :=
  if s.pitch = 0 then roundUp (s.w * (planeOf s.fmt 0).size) 256 else s.pitch * 256

/-- Address of plane `p` of a linear surface (R241). -/
def Surf.planeBase (s : Surf) (p : Nat) : Nat :=
  if p = 0 then s.base + 4096 else s.base + 4096 + roundUp (s.stride * s.h) 4096

/-- Address of element `x` of line `y` of plane `p` of a linear surface. -/
def Surf.elemAddr (s : Surf) (p x y : Nat) : Nat :=
  s.planeBase p + y * s.stride + x * (planeOf s.fmt p).size

/-! ## DBC layout (R243 to R245) -/

/-- Tiles across and down plane `p`. -/
def Surf.tiles (s : Surf) (p : Nat) : Nat × Nat :=
  let (e, l) := planeDims s.fmt p s.w s.h
  (ceilDiv e 16, ceilDiv l 4)

/-- Bytes of the tile header plane and of the payload plane. -/
def Surf.dbcSizes (s : Surf) (p : Nat) : Nat × Nat :=
  let (tx, ty) := s.tiles p
  (roundUp (roundUp tx 64 * ty) 4096, roundUp (tx * ty * (planeOf s.fmt p).smax * 32) 4096)

/-- Address of the tile header plane of plane `p`. -/
def Surf.dbcBase (s : Surf) (p : Nat) : Nat :=
  if p = 0 then s.base + 4096 else s.base + 4096 + (s.dbcSizes 0).1 + (s.dbcSizes 0).2

/-- Address of a tile's header byte. -/
def Surf.headerAddr (s : Surf) (p tx ty : Nat) : Nat :=
  s.dbcBase p + ty * roundUp (s.tiles p).1 64 + tx

/-- Address of a tile's slot. -/
def Surf.slotAddr (s : Surf) (p tx ty : Nat) : Nat :=
  s.dbcBase p + (s.dbcSizes p).1 + (ty * (s.tiles p).1 + tx) * ((planeOf s.fmt p).smax * 32)

/-- Address of palette entry `k` of plane `p` (R245). -/
def Surf.paletteAddr (s : Surf) (p k : Nat) : Nat :=
  s.base + (if p = 0 then 0x40 else 0xC0) + k * 8

/-- Bytes of a whole surface, its header page included. -/
def Surf.bytes (s : Surf) : Nat :=
  if s.dbc then
    4096 + (List.range (planesOf s.fmt).length).foldl (fun n p => n + (s.dbcSizes p).1 + (s.dbcSizes p).2) 0
  else
    let last := (planesOf s.fmt).length - 1
    s.planeBase last - s.base + roundUp (s.stride * (planeDims s.fmt last s.w s.h).2) 4096

/-! ## The tile coder (R246 to R248) -/

/-- Width of a component. -/
def compBits (c : Nat × Nat) : Nat :=
  c.1 + 1 - c.2

/-- A component of an element. -/
def compOf (e : Nat) (c : Nat × Nat) : Nat :=
  bitsOf e c.1 c.2

/-- The signed residual of a component against its prediction, folded to a natural number. -/
def residual (d v p : Nat) : Nat :=
  let r := (v + 2 ^ d - p) % 2 ^ d
  if 2 ^ (d - 1) ≤ r then 2 * (2 ^ d - r) - 1 else 2 * r

/-- The component that a folded residual gives. -/
def unresidual (d u p : Nat) : Nat :=
  if u % 2 = 0 then (p + u / 2) % 2 ^ d else (p + 2 ^ d * (u + 1) - (u + 1) / 2) % 2 ^ d

/-- Index of the element that predicts element `i`: left, else above. -/
def predOf (i : Nat) : Nat :=
  if i % 16 = 0 then i - 16 else i - 1

/-- Bits that hold a number. -/
def bitLen (v : Nat) : Nat :=
  if v = 0 then 0 else Nat.log2 v + 1

/-- A number of `w` bits appended to a bitstream (value, length). -/
def putBits (b : Nat × Nat) (v w : Nat) : Nat × Nat :=
  (b.1 + v % 2 ^ w * 2 ^ b.2, b.2 + w)

/-- One component of a tile coded (R247). -/
def encodeComp (es : List Nat) (b : Nat × Nat) (c : Nat × Nat) : Nat × Nat :=
  let d := compBits c
  let us := (List.range 63).map (fun i =>
    residual d (compOf (nth 0 es (i + 1)) c) (compOf (nth 0 es (predOf (i + 1))) c))
  let w := bitLen (us.foldl max 0)
  let b := putBits (putBits b w 4) (compOf (nth 0 es 0) c) d
  us.foldl (fun b u => putBits b u w) b

/-- A tile's bitstream: its value and its length in bits (R247). -/
def encodeTile (pf : PlaneFmt) (es : List Nat) : Nat × Nat :=
  pf.comps.foldl (encodeComp es) (0, 0)

/-- One component of a tile decoded at a bit position: its 64 values and the position after; none on a DBC error
(R249). -/
def decodeComp (v total : Nat) (c : Nat × Nat) (pos : Nat) : Option (List Nat × Nat) :=
  let d := compBits c
  let w := bitsOf v (pos + 3) pos
  let stop := pos + 4 + d + 63 * w
  if d < w ∨ total < stop then none
  else
    let first := bitsOf v (pos + 4 + d - 1) (pos + 4)
    let us := (List.range 63).map (fun i => v / 2 ^ (pos + 4 + d + i * w) % 2 ^ w)
    some (us.foldl (fun vs u => vs ++ [unresidual d u (nth 0 vs (predOf vs.length))]) [first], stop)

/-- A COMPRESSED tile of `n` sectors decoded to its 64 elements. -/
def decodeTile (pf : PlaneFmt) (bs : List Byte) : Option (List Nat) :=
  let v := natLE bs
  let step := fun (acc : Option (List Nat × Nat)) (c : Nat × Nat) =>
    match acc with
    | none => none
    | some (es, pos) =>
      match decodeComp v (bs.length * 8) c pos with
      | none => none
      | some (vs, pos) => some ((List.range 64).map (fun i => nth 0 es i + nth 0 vs i * 2 ^ c.2), pos)
  (pf.comps.foldl step (some (List.replicate 64 0, 0))).map (·.1)

/-! ## Reading -/

/-- What a fetch gives: lines from `y0` on, elements of tiles with a DBC error missing, and those tiles' indices (R249);
or a refused or failed request (R259). -/
inductive Fetch where
  | lines (y0 : Nat) (bad : List Nat) (ls : List (List (Option Nat)))
  | refused
deriving DecidableEq, Repr

/-- Elements of `size` bytes each. -/
def elems (size : Nat) (bs : List Byte) (n : Nat) : List Nat :=
  (List.range n).map (fun i => leAt bs (i * size) size)

/-- Line `y` of plane `p` of a linear surface, in 64-byte aligned requests (R257). -/
def State.fetchLinear (s : State) (master : Nat) (f : Surf) (p y : Nat) : Fetch × State :=
  let a := f.elemAddr p 0 y
  let n := (planeDims f.fmt p f.w f.h).1
  let size := (planeOf f.fmt p).size
  let lo := a / 64 * 64
  match s.unitRead master lo (roundUp (a + n * size) 64 - lo) with
  | (none, s) => (.refused, s)
  | (some bs, s) => (.lines y [] [(elems size (bs.drop (a - lo)) n).map some], s)

/-- One tile of a DBC surface, its header byte already read: its elements; `some none` on a DBC error. -/
def State.fetchTile (s : State) (master : Nat) (f : Surf) (p tx ty hdr : Nat) : Option (Option (List Nat)) × State :=
  let pf := planeOf f.fmt p
  if hdr = 0 then
    match s.unitRead master (f.slotAddr p tx ty) (pf.smax * 32) with
    | (none, s) => (none, s)
    | (some bs, s) => (some (some (elems pf.size bs 64)), s)
  else if hdr ≤ 8 then
    if pf.smax < hdr then (some none, s)
    else match s.unitRead master (f.slotAddr p tx ty) (hdr * 32) with
    | (none, s) => (none, s)
    | (some bs, s) => (some (decodeTile pf bs), s)
  else if 0x10 ≤ hdr ∧ hdr ≤ 0x1F then
    match s.unitRead master (f.paletteAddr p (hdr - 0x10)) 8 with
    | (none, s) => (none, s)
    | (some bs, s) => (some (some (List.replicate 64 (natLE bs % 2 ^ (8 * pf.size)))), s)
  else (some none, s)

/-- The tile row of plane `p` of a DBC surface that holds line `y`: its header bytes, then its tiles (R257). -/
def State.fetchDbc (s : State) (master : Nat) (f : Surf) (p y : Nat) : Fetch × State :=
  let ty := y / 4
  let tx := (f.tiles p).1
  let n := (planeDims f.fmt p f.w f.h).1
  match s.unitRead master (f.headerAddr p 0 ty) tx with
  | (none, s) => (.refused, s)
  | (some hs, s) =>
    let step := fun (acc : Option (List (Option (List Nat))) × State) (t : Nat) =>
      match acc with
      | (none, s) => (none, s)
      | (some ts, s) =>
        match s.fetchTile master f p t ty (leAt hs t 1) with
        | (none, s) => (none, s)
        | (some v, s) => (some (ts ++ [v]), s)
    match (List.range tx).foldl step (some [], s) with
    | (none, s) => (.refused, s)
    | (some ts, s) =>
      let line := fun r => (ts.flatMap (fun t => (List.range 16).map (fun i => t.map (fun v => nth 0 v (r * 16 + i))))).take n
      (.lines (ty * 4) ((ts.zipIdx.filter (fun (t, _) => t.isNone)).map (fun (_, i) => ty * tx + i))
        ((List.range 4).map line), s)

/-- Line `y` of plane `p` of a surface, with the lines that come with it. -/
def State.fetchLine (s : State) (master : Nat) (f : Surf) (p y : Nat) : Fetch × State :=
  if f.dbc then s.fetchDbc master f p y else s.fetchLinear master f p y

/-! ## Writing (R240, R241, R243, R248) -/

/-- A plane's elements as a function of column and line. -/
abbrev PlaneData := Nat → Nat → Nat

/-- Elements of a tile, with the last column and the last line replicated (R243). -/
def Surf.tileElems (f : Surf) (p : Nat) (d : PlaneData) (tx ty : Nat) : List Nat :=
  let (e, l) := planeDims f.fmt p f.w f.h
  (List.range 64).map (fun i => d (min (tx * 16 + i % 16) (e - 1)) (min (ty * 4 + i / 16) (l - 1)))

/-- The value of a single-valued tile. -/
def single (es : List Nat) : Option Nat :=
  if es.all (· == nth 0 es 0) then some (nth 0 es 0) else none

/-- The palette of a plane: the first 16 distinct values of its single-valued tiles (R248). -/
def paletteOf (tiles : List (List Nat)) : List Nat :=
  tiles.foldl (fun ps es => match single es with
    | some v => if ps.contains v || 16 ≤ ps.length then ps else ps ++ [v]
    | none => ps) []

/-- Header byte and sectors of a tile as the part codes it (R248). -/
def codeTile (pf : PlaneFmt) (pal es : List Nat) : Nat × List Byte :=
  match single es with
  | some v => if pal.contains v then (0x10 + pal.idxOf v, []) else coded
  | none => coded
where
  coded : Nat × List Byte :=
    let (v, bits) := encodeTile pf es
    let n := ceilDiv bits 256
    if n < pf.smax then (n, bytesLE (n * 32) v) else (0, (es.map (bytesLE pf.size)).flatten)

/-- What a plane stores, as (address, bytes) writes in order. -/
def Surf.planeWrites (f : Surf) (p : Nat) (d : PlaneData) : List (Nat × List Byte) :=
  let pf := planeOf f.fmt p
  let (e, l) := planeDims f.fmt p f.w f.h
  if f.dbc then
    let (tx, ty) := f.tiles p
    let ts := (List.range ty).flatMap (fun j => (List.range tx).map (fun i => (i, j)))
    let es := ts.map (fun (i, j) => f.tileElems p d i j)
    let pal := paletteOf es
    let palette := (List.range 16).map (fun k => (f.paletteAddr p k, bytesLE 8 (nth 0 pal k)))
    palette ++ (ts.zip es).flatMap (fun ((i, j), t) =>
      let (h, bs) := codeTile pf pal t
      (f.headerAddr p i j, bytesLE 1 h) :: (if bs.isEmpty then [] else [(f.slotAddr p i j, bs)]))
  else
    (List.range l).map (fun y => (f.elemAddr p 0 y, ((List.range e).map (fun x => bytesLE pf.size (d x y))).flatten))

/-- Everything a surface stores but its stamp; bytes 0x010 to 0x03F of a DBC header page are 0 (R245). -/
def Surf.writes (f : Surf) (d : Nat → PlaneData) : List (Nat × List Byte) :=
  (if f.dbc then [(f.base + 0x10, bytesLE 0x30 0)] else []) ++
  (List.range (planesOf f.fmt).length).flatMap (fun p => f.planeWrites p (d p))

/-- A list of writes by a unit: whether all were made (R577). -/
def State.writeAll (s : State) (master : Nat) (ws : List (Nat × List Byte)) : Bool × State :=
  ws.foldl (fun (ok, s) (a, bs) => if ok then s.unitWrite master a bs else (false, s)) (true, s)

/-! ## Signatures (R34) -/

/-- Luma samples at every sixteenth column and line, in raster order. -/
def thumbnail (w h : Nat) (luma : Nat → Nat → Nat) : List Nat :=
  (List.range (ceilDiv h 16)).flatMap (fun j => (List.range (ceilDiv w 16)).map (fun i => luma (i * 16) (j * 16)))

/-- CRC-32C over 10-bit samples in two bytes each (R34). -/
def signatureOf (samples : List Nat) : Nat :=
  crc32c ((samples.map (bytesLE 2)).flatten)

/-- Luma of 10-bit red, green and blue (R34). -/
def lumaOf (r g b : Nat) : Nat :=
  (218 * r + 732 * g + 74 * b + 512) / 1024

/-- 10-bit luma of an element of plane 0 (R34); 8-bit samples are shifted left by 2 bits. -/
def lumaElem (fmt e : Nat) : Nat :=
  match fmt with
  | 1 | 7 => e % 1024
  | 6 => e % 256 * 4
  | 2 | 5 => lumaOf (bitsOf e 23 16 * 4) (bitsOf e 15 8 * 4) (bitsOf e 7 0 * 4)
  | 3 => lumaOf (bitsOf e 29 20) (bitsOf e 19 10) (bitsOf e 9 0)
  | _ => 0

/-! ## One element, as the part sees its own memory -/

/-- Element (x, y) of plane `p` of a stored surface; 0 where a DBC tile has no valid code (R249). -/
def State.surfElem (s : State) (f : Surf) (p x y : Nat) : Nat :=
  let pf := planeOf f.fmt p
  if f.dbc then
    let h := natLE (s.bytes (f.headerAddr p (x / 16) (y / 4)) 1)
    let slot := f.slotAddr p (x / 16) (y / 4)
    let i := y % 4 * 16 + x % 16
    if h = 0 then natLE (s.bytes (slot + i * pf.size) pf.size)
    else if h ≤ 8 then nth 0 ((decodeTile pf (s.bytes slot (h * 32))).getD []) i
    else if 0x10 ≤ h ∧ h ≤ 0x1F then natLE (s.bytes (f.paletteAddr p (h - 0x10)) 8) % 2 ^ (8 * pf.size)
    else 0
  else natLE (s.bytes (f.elemAddr p x y) pf.size)

/-- An element with the bits outside its components zero, as the part writes it (R240). -/
def PlaneFmt.clean (pf : PlaneFmt) (e : Nat) : Nat :=
  pf.comps.foldl (fun v c => v + compOf e c * 2 ^ c.2) 0

end Sys2Proof.Machine
end

