-- ==== Sys2Proof/Machine/Areas.lean ====
section
/-! DEFINITION. Memory that rings, queues, pools, tables and direct-scan surfaces in use take, whose overlaps the spec
calls UNPREDICTABLE (R190, R234, R283, R402, R477, R517, R661, R730, R840). -/

namespace Sys2Proof.Machine

/-- Who uses memory: an ingress entry, a port's software queues, a decode or encode context, a write-back, the wall link's
queues, a check-value engine, a touch group, an audio port, a direct-scan head, the GPIO queue. -/
inductive AreaOwner where
  | entry (i : Nat)
  | ethQueue (p : Nat)
  | dec (c : Nat)
  | enc (c : Nat)
  | wb (n : Nat)
  | wlkQueue
  | cve (e : Nat)
  | touch (g : Nat)
  | sap (p : Nat)
  | scan (n : Nat)
  | gpio
deriving DecidableEq, Repr

/-- The list, or nothing. -/
def listIf {α : Type} (c : Bool) (l : List α) : List α :=
  if c then l else []

/-- Memory that an entry's rings and buffers take, as (address, length). -/
def State.entryAreas (s : State) (i : Nat) : List (Nat × Nat) :=
  let n := 2 ^ s.get (F.INGR_RING_DESC_LOG2 i)
  let pay := s.get (F.INGR_CTRL_PAYLOAD i)
  [(s.addrPair (R.INGR_DESC_BASE_LO i) (R.INGR_DESC_BASE_HI i), n * 64),
   (s.addrPair (R.INGR_DATA_BASE_LO i) (R.INGR_DATA_BASE_HI i),
    if pay = 3 ∨ pay = 5 then n * s.get (F.INGR_RING_BUF_PAGES i) * 4096 else 2 ^ s.get (F.INGR_RING_DATA_LOG2 i))]

/-- Memory of an Ethernet port's software queues in use. -/
def State.queueAreas (s : State) (p : Nat) : List (Nat × Nat) :=
  listIf (s.flag (F.INGRP_QCFG_RXQ_EN p))
    [(s.addrPair (R.INGRP_RXQ_BASE_LO p) (R.INGRP_RXQ_BASE_HI p), 2 ^ s.get (F.INGRP_QCFG_RXQ_LOG2 p) * 2048)] ++
  listIf (s.flag (F.INGRP_QCFG_TXQ_EN p))
    [(s.addrPair (R.INGRP_TXQ_BASE_LO p) (R.INGRP_TXQ_BASE_HI p), 2 ^ s.get (F.INGRP_QCFG_TXQ_LOG2 p) * 2048)]

/-- Memory of a decode context's pool and rings. -/
def State.decAreas (s : State) (c : Nat) : List (Nat × Nat) :=
  [(s.addrPair (R.DEC_POOL_BASE_LO c) (R.DEC_POOL_BASE_HI c),
    s.get (F.DEC_POOL_POOL_COUNT c) * s.get (F.DEC_POOL_BUF_PAGES c) * 4096),
   (s.addrPair (R.DEC_OUT_BASE_LO c) (R.DEC_OUT_BASE_HI c), 2 ^ s.get (F.DEC_CTRL_OUT_LOG2 c) * 64)] ++
  listIf (s.flag (F.DEC_CTRL_INPUT c))
    [(s.addrPair (R.DEC_CMD_BASE_LO c) (R.DEC_CMD_BASE_HI c), 2 ^ s.get (F.DEC_CMD_RING_DESC_LOG2 c) * 64),
     (s.addrPair (R.DEC_CMD_DATA_LO c) (R.DEC_CMD_DATA_HI c), 2 ^ s.get (F.DEC_CMD_RING_DATA_LOG2 c))]

/-- Memory of an encode context's pool and rings. -/
def State.encAreas (s : State) (c : Nat) : List (Nat × Nat) :=
  [(s.addrPair (R.ENC_REF_BASE_LO c) (R.ENC_REF_BASE_HI c),
    (s.get (F.ENC_GOP_REFS c) + 1) * s.get (F.ENC_REF_POOL_BUF_PAGES c) * 4096),
   (s.addrPair (R.ENC_OUT_DESC_LO c) (R.ENC_OUT_DESC_HI c), 2 ^ s.get (F.ENC_OUT_RING_DESC_LOG2 c) * 64),
   (s.addrPair (R.ENC_OUT_DATA_LO c) (R.ENC_OUT_DATA_HI c), 2 ^ s.get (F.ENC_OUT_RING_DATA_LOG2 c))]

/-- Memory of a write-back's rings. -/
def State.wbAreas (s : State) (n : Nat) : List (Nat × Nat) :=
  let k := 2 ^ s.get (F.COMP_WB_RING_DESC_LOG2 n)
  [(s.addrPair (R.COMP_WB_DESC_LO n) (R.COMP_WB_DESC_HI n), k * 64),
   (s.addrPair (R.COMP_WB_DATA_LO n) (R.COMP_WB_DATA_HI n), k * s.get (F.COMP_WB_RING_BUF_PAGES n) * 4096)]

/-- Memory of the wall link's software queues in use. -/
def State.wlkAreas (s : State) : List (Nat × Nat) :=
  listIf (s.flag F.WLK_QCFG_RXQ_EN)
    [(s.addrPair R.WLK_RXQ_BASE_LO R.WLK_RXQ_BASE_HI, 2 ^ s.get F.WLK_QCFG_RXQ_LOG2 * 2048)] ++
  listIf (s.flag F.WLK_QCFG_TXQ_EN)
    [(s.addrPair R.WLK_TXQ_BASE_LO R.WLK_TXQ_BASE_HI, 2 ^ s.get F.WLK_QCFG_TXQ_LOG2 * 2048)]

/-- Bytes of engine `e`'s job: LENGTH, with 0 for 2^32 (R647). -/
def State.cveLength (s : State) (e : Nat) : Nat :=
  if s.word (R.CVE_LENGTH e) = 0 then 2 ^ 32 else s.word (R.CVE_LENGTH e)

/-- Bytes of a block of the job (R647). -/
def State.cveBlock (s : State) (e : Nat) : Nat :=
  let k := s.get (F.CVE_CFG_BLOCK_LOG2 e)
  if k = 0 then s.cveLength e else 2 ^ k

/-- Blocks of the job. -/
def State.cveBlocks (s : State) (e : Nat) : Nat := ceilDiv (s.cveLength e) (s.cveBlock e)

/-- Memory of the tables of engine `e`'s job. -/
def State.cveAreas (s : State) (e : Nat) : List (Nat × Nat) :=
  listIf (s.flag (F.CVE_CFG_RES_EN e)) [(s.addrPair (R.CVE_RES_LO e) (R.CVE_RES_HI e), s.cveBlocks e * 32)] ++
  listIf (s.flag (F.CVE_CFG_CMP_EN e)) [(s.addrPair (R.CVE_EXP_LO e) (R.CVE_EXP_HI e), s.cveBlocks e * 8)]

/-- Memory of a touch group's event queue, of 16-byte records. -/
def State.touchAreas (s : State) (g : Nat) : List (Nat × Nat) :=
  [(s.addrPair (R.TCH_Q_BASE_LO g) (R.TCH_Q_BASE_HI g), 2 ^ s.get (F.TCH_Q_CFG_Q_LOG2 g) * 16)]

/-- Memory of an audio port's memory rings. -/
def State.sapAreas (s : State) (p : Nat) : List (Nat × Nat) :=
  listIf (s.get (F.SAP_ROUTE_TX_SRC p) == 0)
    [(s.addrPair (R.SAP_TX_BASE_LO p) (R.SAP_TX_BASE_HI p), 2 ^ s.get (F.SAP_TX_RING_RING_LOG2 p))] ++
  listIf (!s.flag (F.SAP_ROUTE_RX_DST p))
    [(s.addrPair (R.SAP_RX_BASE_LO p) (R.SAP_RX_BASE_HI p), 2 ^ s.get (F.SAP_RX_RING_RING_LOG2 p))]

/-- Memory of a direct-scan surface by the values in force. -/
def State.scanAreas (s : State) (n : Nat) : List (Nat × Nat) :=
  match (s.head n).dsAddr with
  | some a =>
    let f : Surf := ⟨a, s.getLive (F.HEAD_DS_FORMAT_CODE n), false, s.getLive (F.HEAD_TIMING_H_H_ACTIVE n),
                     s.getLive (F.HEAD_TIMING_V_V_ACTIVE n), s.getLive (F.HEAD_DS_FORMAT_PITCH n)⟩
    [(a, f.bytes)]
  | none => []

/-- Memory of the GPIO event queue, of 16-byte records (R830). -/
def State.gpioAreas (s : State) : List (Nat × Nat) :=
  [(s.addrPair R.MISC_GQ_BASE_LO R.MISC_GQ_BASE_HI, 2 ^ s.get F.MISC_GQ_CFG_Q_LOG2 * 16)]

/-- An owner's memory, while it is in use. -/
def State.areasOf (s : State) (o : AreaOwner) : List (Nat × Nat) :=
  match o with
  | .entry i => listIf (s.flag (F.INGR_CTRL_ENABLE i)) (s.entryAreas i)
  | .ethQueue p => s.queueAreas p
  | .dec c => listIf (s.flag (F.DEC_CTRL_ENABLE c)) (s.decAreas c)
  | .enc c => listIf (s.flag (F.ENC_CTRL_ENABLE c)) (s.encAreas c)
  | .wb n => listIf (s.flag (F.COMP_WB_CTRL_EN n)) (s.wbAreas n)
  | .wlkQueue => s.wlkAreas
  | .cve e => listIf (s.flag (F.CVE_STAT_BUSY e)) (s.cveAreas e)
  | .touch g => listIf (s.flag (F.TCH_CTRL_RUN g)) (s.touchAreas g)
  | .sap p => listIf (s.flag (F.SAP_CTRL_RUN p)) (s.sapAreas p)
  | .scan n => s.scanAreas n
  | .gpio => listIf (s.word R.MISC_GPIO_QEN != 0) s.gpioAreas

/-- Every owner. -/
def areaOwners : List AreaOwner :=
  (List.range 512).map .entry ++ (List.range 8).map .ethQueue ++ (List.range 128).map .dec ++ (List.range 64).map .enc ++
  (List.range 32).map .wb ++ [.wlkQueue] ++ (List.range 8).map .cve ++ (List.range 4).map .touch ++ (List.range 8).map .sap ++
  (List.range 32).map .scan ++ [.gpio]

/-- Memory `mine` overlaps memory in use of an owner that `p` picks. (DESIGN CHOICE, log 21.) -/
def State.areaClash (s : State) (p : AreaOwner → Bool) (mine : List (Nat × Nat)) : Bool :=
  (areaOwners.filter p).any (fun o => (s.areasOf o).any (fun b => mine.any (fun a => !disjoint a b)))

/-- Memory `mine` of an owner overlaps any other ring or buffer in use. -/
def State.inUseClash (s : State) (o : AreaOwner) (mine : List (Nat × Nat)) : Bool :=
  s.areaClash (fun p => p != o) mine

end Sys2Proof.Machine
end

