-- ==== Sys2Proof/Machine/Write.lean ====
section
/-! DEFINITION. What every software write of a register meets: reach, absence, apply, thermal cut and BIST, reserved
bits, access types, locks and the halves of 64-bit pairs (chapters 00, 02, 20, 24). -/

namespace Sys2Proof.Machine

/-- An UNPREDICTABLE outcome of a master's access, confined to a range of addresses (R18). (DESIGN CHOICE, log 8.) -/
def State.unpredictable (s : State) (master lo hi : Nat) : State :=
  { s with unpred := some (master, lo, hi) }

/-- Highest address of the internal address space: an outcome that no rule confines. (DESIGN CHOICE, log 8.) -/
def everywhere : Nat := 0x10000000000

/-! ## Which writes reach a register -/

/-- A plan names the unit behind a register, so that its apply resets the instance (R123, R125). -/
def Plan.resets (p : Plan) (k : UnitKind) (n : Nat) : Bool :=
  match k with
  | .head | .pipeHead | .attest => (p.find 0x05 n).isSome
  | .stall => (p.find 0x04 n).isSome || (p.find 0x05 n).isSome
  | .pipe | .writeBack | .compStall => (p.find 0x04 n).isSome
  | .decCore => (p.find 0x02 n).isSome
  | .encCore => (p.find 0x03 n).isSome
  | .scaler => (p.find 0x06 n).isSome
  | .src => (p.find 0x07 n).isSome
  | .snk => (p.find 0x08 n).isSome
  | .eth => (p.find 0x09 n).isSome
  | .lane => (p.find 0x0A n).isSome
  | .sap => (p.find 0x0C n).isSome
  | .touch => (p.find 0x0D n).isSome
  | .wallLink => (p.find 0x0E 0).isSome
  | .twin => (p.find 0x0F 0).isSome
  | .always | .headFused | .ingress | .decode | .encode | .checker | .timeBase | .ethTime => false

/-- The plan in force or the one that apply brings names the unit. -/
def State.inApply (s : State) (k : UnitKind) (n : Nat) : Bool :=
  match s.applying with
  | none => false
  | some p => p.resets k n || (match s.plan with | some q => q.resets k n | none => false)

/-- A register that apply rewrites in a block that it does not reset (R125): checker masks, outbound colours, interrupt
routing and hold-offs. -/
def rewritten (a : Nat) : Bool :=
  (R.CHK_MASK 0 ≤ a && (a - R.CHK_MASK 0) % 0x40 == 0 && a ≤ R.CHK_MASK 127) ||
  a == R.TAG_OUT_COLOUR 0 || a == R.TAG_OUT_COLOUR 1 ||
  (R.IRQ_CFG 0 ≤ a && a ≤ R.IRQ_CFG 511) || (R.IRQ_HOLDOFF 0 ≤ a && a ≤ R.IRQ_HOLDOFF 31)

/-- The colour-stage registers of a head, which apply keeps and leaves writable (R125). -/
def colourStage (a : Nat) : Bool :=
  R.HEAD_INFO 0 ≤ a && a < R.HEADG_MIN_TOL && 0x1800 ≤ (a - R.HEAD_INFO 0) % 0x2000 &&
  (a - R.HEAD_INFO 0) % 0x2000 < 0x1900

/-- A write is discarded because a plan is being applied (R125). -/
def State.heldByApply (s : State) (a : Nat) (k : UnitKind) (n : Nat) : Bool :=
  s.applying.isSome && (rewritten a || (s.inApply k n && !colourStage a))

/-- The bulk class is cut (R741, R745). -/
def State.bulkCut (s : State) : Bool :=
  s.flag F.THERM_STATUS_STOP_LATCH

/-- The unit is of the bulk class (R739); `fn` is the function of a lane. -/
def bulkUnit (k : UnitKind) (fn : Nat) : Bool :=
  match k with
  | .decCore | .decode | .encCore | .encode | .ingress | .eth | .ethTime | .snk | .wallLink => true
  | .lane => fn != 1
  | _ => false

/-- The unit is of the display class (R739). -/
def displayUnit (k : UnitKind) (fn : Nat) : Bool :=
  match k with
  | .pipe | .stall | .compStall | .writeBack | .scaler | .head | .pipeHead | .attest | .src => true
  | .lane => fn == 1
  | _ => false

/-- Function of lane `l` in the plan (R91). -/
def State.laneFn (s : State) (l : Nat) : Nat :=
  match s.res 0x0A l with
  | some p => p % 16
  | none => 0

/-- The unit has been cut and behaves as absent (R740). -/
def State.cut (s : State) (k : UnitKind) (n : Nat) : Bool :=
  (s.bulkCut && bulkUnit k (s.laneFn n)) || (s.get F.THERM_STATUS_DISPLAY == 2 && displayUnit k (s.laneFn n))

/-- From STOP until a re-arm, writes to display-class registers are ignored (R743). -/
def State.displayIgnores (s : State) (k : UnitKind) (n : Nat) : Bool :=
  s.get F.THERM_STATUS_DISPLAY != 0 && displayUnit k (s.laneFn n)

/-- The unit is under BIST (R537, R556). -/
def State.underTest (s : State) (k : UnitKind) (n : Nat) : Bool :=
  s.get F.TWIN_BIST_STAT_UNIT == n &&
  match s.get F.TWIN_BIST_STAT_KIND with
  | 1 => k == .decCore
  | 2 => k == .encCore
  | 3 => k == .scaler
  | 4 => k == .pipe || k == .stall || k == .compStall || k == .writeBack
  | 5 => k == .head || k == .pipeHead || k == .attest
  | 6 => k == .snk
  | 7 => k == .eth || k == .ethTime
  | _ => false

/-- The unit answers: it is present, not cut and, during apply, named by either plan. (DEDUCED, log 16.) -/
def State.answers (s : State) (k : UnitKind) (n m : Nat) : Bool :=
  (s.unitPresent k n m || s.inApply k n) && !s.cut k n

/-- What becomes of a write before its register sees it. -/
inductive Gate where
  | refused | ignored | passed
deriving DecidableEq, Repr

/-- The gate of a write by `master` to the register at `a`. (DEDUCED, log 16.) -/
def State.gate (s : State) (master : Nat) (r : RegAt) : Gate :=
  if !s.reachesCspace master r.addr true then .refused
  else if s.inReset.isSome || !s.answers r.unit r.n r.m || s.heldByApply r.addr r.unit r.n ||
      s.displayIgnores r.unit r.n || s.underTest r.unit r.n then .ignored
  else .passed

/-- Bits of a number outside a mask of 32 bits. -/
def strayBits (v mask : Nat) : Bool :=
  BitVec.ofNat 32 v &&& ~~~ BitVec.ofNat 32 mask != 0

/-- A 32-bit write through the gate: refused and recorded (R577, R579), ignored (R13, R125, R740), UNPREDICTABLE where
it sets a reserved bit (R23), or acted on. -/
def State.guarded (s : State) (r : RegAt) (w : Wr) (act : State → State) : State :=
  match s.gate w.master r with
  | .refused => s.recordRefusal w.master r.addr 4 true 5
  | .ignored => s
  | .passed => if strayBits w.data.toNat r.valid then s.unpredictable w.master 0 everywhere else act s

/-! ## Locks -/

/-- RWP bits of a place. -/
def Place.rwp (pl : Place) : Nat :=
  pl.reg.fields.foldl (fun v f => if f.acc = .rwp then v + (2 ^ (f.hi + 1 - f.lo) - 1) * 2 ^ f.lo else v) 0

/-- Mask record of a checker in a plan. -/
def Plan.maskFor (p : Plan) (i : Nat) : Option MaskRec :=
  p.masks.find? (fun m => m.checker == i)

/-- Bits that a plan fixes outside its LOCKS section (R587, R624, R399): mask fields that it does not open, LOCKED
routing and hold-offs, rectangles 6 and 7. -/
def Plan.fixedBits (p : Plan) (a : Nat) : Nat :=
  if R.CHK_MASK 0 ≤ a ∧ a ≤ R.CHK_MASK 127 ∧ (a - R.CHK_MASK 0) % 0x40 = 0 then
    match p.maskFor ((a - R.CHK_MASK 0) / 0x40) with
    | some m => (if bitOf m.opn 0 then 0 else 0x1FFE) + (if bitOf m.opn 1 then 0 else 0x1FFE0000)
    | none => 0x1FFE1FFE
  else if R.IRQ_CFG 0 ≤ a ∧ a ≤ R.IRQ_CFG 511 then
    if p.irq.any (fun r => r.type == 1 && r.index == (a - R.IRQ_CFG 0) / 4 && r.locked) then 0x800F0FFF else 0
  else if R.IRQ_HOLDOFF 0 ≤ a ∧ a ≤ R.IRQ_HOLDOFF 31 then
    if p.irq.any (fun r => r.type == 2 && r.index == (a - R.IRQ_HOLDOFF 0) / 4 && r.locked) then 0xFFFF else 0
  else 0

/-- Bits of the register at `a` that no write changes, and the values they are locked at (R109, R112, R624, R587).
(DEDUCED, log 71.) -/
def State.locked (s : State) (a : Nat) : Nat × Nat :=
  match s.plan with
  | none => (0, 0)
  | some p =>
    let fixed := p.fixedBits a
    let (m, v) := p.lockAt a
    (maskIn m 0xFFFFFFFF fixed, maskIn (s.word a) v m)

/-- A write that differs from a locked value in a locked bit (R113). (DEDUCED, log 71.) -/
def State.lockHit (s : State) (master a v : Nat) : State :=
  let (m, l) := s.locked a
  if strayBits (BitVec.ofNat 32 v ^^^ BitVec.ofNat 32 l).toNat (0xFFFFFFFF - m) then
    let s := s.inc F.PLAN_LOCK_HITS_COUNT
    if s.flag F.PLAN_LOCK_FIRST_VALID then s
    else
      let s := s.setWord R.PLAN_LOCK_FIRST ((a - cspaceBase) / 4 * 4)
      let s := s.set F.PLAN_LOCK_MASTER_MASTER master
      (s.raise F.PLAN_LOCK_FIRST_VALID).raise F.PLAN_EVENT_LOCK_HIT
  else s

/-! ## Access types -/

/-- Bits `hi` to `lo` of a 32-bit number as a mask. -/
def maskBits (hi lo : Nat) : Nat :=
  (2 ^ (hi + 1 - lo) - 1) * 2 ^ lo

/-- TRIM registers are RW on lane PHYs and touch front ends (R835). -/
def trimRW (a : Nat) : Bool :=
  blockOf a == 18 || blockOf a == 20

/-- What a write of `v` leaves in a field of a register that holds `old` (R26), where `open` are the register's RWP bits
that are not fixed. -/
def fieldAfter (a opn old v : Nat) (f : FieldSpec) : Nat :=
  let m := maskBits f.hi f.lo
  match f.acc with
  | .rw => maskIn old v m
  | .ro | .rc | .wo => old
  | .w1c => maskIn old 0 (maskIn 0 v m)
  | .w1s => maskIn old 0xFFFFFFFF (maskIn 0 v m)
  | .rwp => maskIn old v (maskIn 0 opn m)
  | .trim => if trimRW a then maskIn old v m else old

/-- RWP bits that a write may change: none before the first plan load (R114), else those not locked. (DEDUCED, log 71.) -/
def State.openBits (s : State) (a : Nat) : Nat :=
  match s.plan with
  | none => 0
  | some _ => 0xFFFFFFFF - (s.locked a).1

/-- A write of all fields of a register under their access types, with its lock hits. -/
def State.fieldWrite (s : State) (master a : Nat) (fs : List FieldSpec) (v : Nat) : State :=
  let s := s.lockHit master a v
  let opn := s.openBits a
  s.setWord a (fs.foldl (fun old f => fieldAfter a opn old v f) (s.word a))

/-- Fields of the register at `a`. -/
def fieldsAt (a : Nat) : List FieldSpec :=
  match placeOf a with
  | some pl => pl.reg.fields
  | none => []

/-- A write of the register at `a` under its access types. (DESIGN CHOICE, log 22.) -/
def State.plainWrite (s : State) (w : Wr) (a : Nat) : State :=
  s.fieldWrite w.master a (fieldsAt a) w.data.toNat

/-- A write of the low half of a writable pair is held (R25). (DEDUCED, log 15.) -/
def State.holdLow (s : State) (a : Nat) (v : W32) : State :=
  { s with loHeld := Tbl.ins a v (Tbl.del s.loHeld a) }

/-- A write of the high half of a pair: both halves change together (R25). (DEDUCED, log 15.) -/
def State.highWrite (s : State) (w : Wr) (a : Nat) : State :=
  let held := (s.loHeld.find? (fun e => e.1 == a - 4)).map (·.2)
  let s := { s with loHeld := Tbl.del s.loHeld (a - 4) }
  let s := match held with
    | some v => s.plainWrite ⟨w.master, v⟩ (a - 4)
    | none => s
  s.plainWrite w a

end Sys2Proof.Machine
end

