-- ==== Sys2Proof/Machine/CveOps.lean ====
section
/-! DEFINITION. The check-value engines (chapter 16): jobs, blocks, records and comparison. -/

namespace Sys2Proof.Machine

/-- Engine `e`'s checker (R651). -/
def cveMaster (e : Nat) : Nat := 0x50 + e

def State.cveStart (s : State) (e : Nat) : Nat := s.addrPair (R.CVE_START_LO e) (R.CVE_START_HI e)

/-- A job ends with a code (R654). -/
def State.cveEnd (s : State) (e code : Nat) : State :=
  let s := (s.drop (F.CVE_STAT_BUSY e)).set (F.CVE_STAT_CODE e) code
  if code = 0 then (s.raise (F.CVE_STAT_DONE e)).inc (F.CVE_JOBS_CNT e) else s.raise (F.CVE_STAT_FAIL e)

/-- The configuration that a GO finds wrong (R654); RES and EXP hold aligned addresses only (R660). -/
def State.cveBad (s : State) (e : Nat) : Bool :=
  let k := s.get (F.CVE_CFG_BLOCK_LOG2 e)
  (k != 0 && (k < 12 || 32 < k)) || decide (2 ^ 40 < s.cveStart e + s.cveLength e)

/-- A table in use that overlaps the job's own data range or another ring or buffer in use (R661).
(DESIGN CHOICE, log 21.) -/
def State.cveOverlap (s : State) (e : Nat) : Bool :=
  (s.cveAreas e).any (fun a => !disjoint (s.cveStart e, s.cveLength e) a) || s.inUseClash (.cve e) (s.cveAreas e)

/-- First and last address of engine `e`. -/
def State.cveUnpred (s : State) (e master : Nat) : State :=
  s.unpredictable master (R.CVE_CTRL e) (R.CVE_JOBS e)

/-- A GO (R653). (DEDUCED, log 58.) -/
def State.cveGo (s : State) (e master : Nat) : State :=
  if s.flag (F.CVE_STAT_BUSY e) then (s.set (F.CVE_STAT_CODE e) 1).raise (F.CVE_STAT_FAIL e)
  else
    let s := (s.setWord (R.CVE_DONE_BLOCKS e) 0).setWord (R.CVE_MISMATCHES e) 0
    let s := s.setPair (R.CVE_PROGRESS_LO e) (R.CVE_PROGRESS_HI e) (s.cveStart e)
    if s.cveBad e then s.cveEnd e 2
    else if s.cveOverlap e then s.cveUnpred e master
    else s.raise (F.CVE_STAT_BUSY e)

/-- A write of CTRL (R653, R655, R660, R661). -/
def State.writeCveCtrl (s : State) (e : Nat) (w : Wr) : State :=
  s.guarded (G.CVE_CTRL e) w fun s =>
    let v := w.data.toNat
    if bitsOf v 31 24 ≠ 0xA5 then s
    else match v % 16 with
    | 1 => s.cveGo e w.master
    | 2 => s.cond (s.flag (F.CVE_STAT_BUSY e)) (·.cveEnd e 7)
    | _ => s.cveUnpred e w.master

/-- A configuration register that a running job holds (R653, R656). -/
def State.cveFrozen (s : State) (e a : Nat) : Bool :=
  s.flag (F.CVE_STAT_BUSY e) && decide (R.CVE_CFG e ≤ a) && decide (a ≤ R.CVE_ALIVE e)

/-- The outcome of a block. -/
inductive BlockEnd where
  | fails (code : Nat)
  | done (len value avalue alive : Nat) (mismatch : Bool)
deriving DecidableEq, Repr

/-- Bytes of block `k`. -/
def State.cveLen (s : State) (e k : Nat) : Nat :=
  min (s.cveBlock e) (s.cveLength e - k * s.cveBlock e)

/-- The record of a block (R649). -/
def cveRecord (len value avalue alive : Nat) (last mismatch : Bool) : List Byte :=
  bytesLE 8 value ++ bytesLE 8 avalue ++ bytesLE 1 alive ++ bytesLE 1 (b2n last + 2 * b2n mismatch) ++ bytesLE 2 0 ++
  bytesLE 4 (len % 2 ^ 32) ++ bytesLE 8 0

/-- Expected value of block `k`, where one is compared (R650). -/
def State.cveExpect (s : State) (e k : Nat) : Option (Option Nat) × State :=
  if !s.flag (F.CVE_CFG_CMP_EN e) then (some none, s)
  else match s.unitRead (cveMaster e) (s.addrPair (R.CVE_EXP_LO e) (R.CVE_EXP_HI e) + k * 8) 8 with
  | (some bs, s) => (some (some (natLE bs)), s)
  | (none, s) => (none, s)

/-- The record of block `k` written, where records are on (R649): whether that failed. -/
def State.cveWrite (s : State) (e k : Nat) (bs : List Byte) : Bool × State :=
  if !s.flag (F.CVE_CFG_RES_EN e) then (false, s)
  else
    let (ok, s) := s.unitWrite (cveMaster e) (s.addrPair (R.CVE_RES_LO e) (R.CVE_RES_HI e) + k * 32) bs
    (!ok, s)

/-- The next block's accesses and values, each byte as it stands now (R648 to R650, R656). -/
def State.cveRun (s : State) (e : Nat) : BlockEnd × State :=
  let k := s.word (R.CVE_DONE_BLOCKS e)
  let len := s.cveLen e k
  let (x, s) := s.dmaRead (cveMaster e) (s.cveStart e + k * s.cveBlock e) len
  if x.refused then (.fails 3, s)
  else if x.failed then (.fails 4, s)
  else
    let poly := s.get (F.CVE_CFG_POLY e)
    let alive := s.get (F.CVE_ALIVE_ALIVE e)
    let value := checkValue poly x.data
    let avalue := checkValue poly (x.data ++ bytesLE 1 alive)
    match s.cveExpect e k with
    | (none, s) => (.fails 6, s)
    | (some want, s) =>
      let got := if s.flag (F.CVE_CFG_CMP_SEL e) then avalue else value
      let inj := want.isSome && s.injArmed 0x3B e
      let miss := match want with | some v => v != got || inj | none => false
      let last := s.cveBlocks e == k + 1
      match s.cveWrite e k (cveRecord len value avalue alive last miss) with
      | (true, s) => (.fails 5, s)
      | (false, s) => (.done len value avalue alive miss, s)

/-- A mismatch (R650): the detail is the block's index. -/
def State.cveMismatch (s : State) (e k : Nat) (inj : Bool) : State :=
  let first := s.word (R.CVE_MISMATCHES e) = 0
  let s := s.inc (F.CVE_MISMATCHES_CNT e)
  if first then
    ((s.setWord (R.CVE_FIRST_MISMATCH e) k).raise (F.CVE_STAT_MISMATCH_EV e)).detectWith inj 0x3B e k
  else s.detectWith inj 0x3B e (s.word (R.CVE_FIRST_MISMATCH e))

/-- A block is complete (R648, R654). -/
def State.cveDone (s : State) (e len value avalue alive : Nat) (miss : Bool) : State :=
  let k := s.word (R.CVE_DONE_BLOCKS e)
  let inj := s.injArmed 0x3B e && s.flag (F.CVE_CFG_CMP_EN e)
  let s := s.cond (s.flag (F.CVE_CFG_CMP_EN e)) (·.injSpend 0x3B e)
  let s := (s.set (F.CVE_ALIVE_ALIVE e) ((alive + 1) % 16)).setPair (R.CVE_VALUE_LO e) (R.CVE_VALUE_HI e) value
  let s := s.setPair (R.CVE_AVALUE_LO e) (R.CVE_AVALUE_HI e) avalue
  let next := (s.cveStart e + k * s.cveBlock e + len) % 2 ^ 40
  let s := (s.setPair (R.CVE_PROGRESS_LO e) (R.CVE_PROGRESS_HI e) next).setWord (R.CVE_DONE_BLOCKS e) (k + 1)
  let s := s.cond miss (·.cveMismatch e k inj)
  if miss && s.flag (F.CVE_CFG_STOP_ON_MISMATCH e) then s.cveEnd e 8
  else s.cond (s.cveBlocks e == k + 1) (·.cveEnd e 0)

/-- A running job of engine `e`. -/
def State.cveBusy (s : State) (e : Nat) : Bool :=
  decide (e < 8) && s.flag (F.CVE_STAT_BUSY e) && s.inReset.isNone

/-- The next block completes, or meets a fault that ends the job (CVE_BLOCK_DONE). (DEDUCED, log 58.) -/
def State.cveBlockDone (s : State) (e : Nat) : State :=
  if !s.cveBusy e then s
  else match s.cveRun e with
  | (.fails code, s) => s.cveEnd e code
  | (.done len value avalue alive miss, s) => s.cveDone e len value avalue alive miss

/-- The job ends where an access of its next block is refused or fails; else nothing has come about (CVE_ACCESS_FAULT).
(DEDUCED, log 58.) -/
def State.cveFault (s : State) (e : Nat) : State :=
  if !s.cveBusy e then s
  else match s.cveRun e with
  | (.fails code, t) => t.cveEnd e code
  | (.done .., _) => s

end Sys2Proof.Machine
end

