-- ==== Sys2Proof/Machine/LoaderOps.lean ====
section
/-! DEFINITION. The plan loader up to the start of apply: flash slots and markers, requests, the load sequence and slot
writes (chapter 02), and the sharing of the QSPI flash (R862). -/

namespace Sys2Proof.Machine

/-! ## Flash and its users -/

/-- `n` bytes of flash. (PRESUMED, log 11.) -/
def State.flashBytes (s : State) (a n : Nat) : List Byte :=
  Tbl.getAll (fun _ => 0xFF#8) s.flash a n

/-- Bytes written to flash. (PRESUMED, log 11.) -/
def State.flashStore (s : State) (a : Nat) (bs : List Byte) : State :=
  { s with flash := Tbl.setAll (fun _ => 0xFF#8) s.flash a bs }

/-- A range of flash erased. (PRESUMED, log 11.) -/
def State.flashErase (s : State) (a n : Nat) : State :=
  { s with flash := Tbl.clear (fun k => a ≤ k && k < a + n) s.flash }

/-- Code of QSPI_STAT.OWNER (R831). -/
def ownerCode : Option FlashUser → Nat
  | none => 0
  | some .bootRom => 1
  | some .planLoader => 2
  | some .security => 3

/-- A unit holds the flash. -/
def State.holdsFlash (s : State) (u : FlashUser) : Bool :=
  s.qspi.owner == some u

/-- A unit asks for the flash: it takes it if nobody holds it, else it waits (R862). -/
def State.askFlash (s : State) (u : FlashUser) : State :=
  if s.qspi.owner.isNone && s.qspi.waiting.isEmpty then { s with qspi := { s.qspi with owner := some u } }
  else if s.holdsFlash u || s.qspi.waiting.contains u then s
  else { s with qspi := { s.qspi with waiting := s.qspi.waiting ++ [u] } }

/-- A unit no longer needs the flash. -/
def State.freeFlash (s : State) (u : FlashUser) : State :=
  { s with qspi := { s.qspi with owner := if s.holdsFlash u then none else s.qspi.owner
                                 waiting := s.qspi.waiting.filter (· != u) } }

/-! ## Slots and markers (R115, R116) -/

/-- Flash offset of a slot's image area: 1 slot A, 2 slot B. -/
def slotImage (slot : Nat) : Nat :=
  0x01000000 * slot

/-- Flash offset of a slot's marker sector. -/
def slotMarker (slot : Nat) : Nat :=
  0x01000000 * slot + 0x00800000

/-- A valid commit marker. -/
structure Marker where
  generation : Nat
  size : Nat
  hash : List Byte
deriving DecidableEq, Repr

/-- The marker of a slot, if MAGIC and CRC are right. -/
def State.marker (s : State) (slot : Nat) : Option Marker :=
  let m := s.flashBytes (slotMarker slot) 64
  if leAt m 0 4 = 0x544D4350 ∧ crc32c (slice m 0 0x3C) = leAt m 0x3C 4 then
    some ⟨leAt m 4 4, leAt m 8 4, slice m 0x0C 48⟩
  else none

/-- GENERATION of a slot's marker, 0 when it is invalid (R137). -/
def State.generation (s : State) (slot : Nat) : Nat :=
  match s.marker slot with
  | some m => m.generation
  | none => 0

/-- Bytes of a marker (R116). -/
def markerBytes (generation size : Nat) (hash : List Byte) : List Byte :=
  let b := bytesLE 4 0x544D4350 ++ bytesLE 4 generation ++ bytesLE 4 size ++ hash
  b ++ bytesLE 4 (crc32c b)

/-- SLOT_INFO, GEN_A and GEN_B taken from the markers (R136, R137). -/
def State.slotInfo (s : State) : State :=
  let from' := if s.flag F.PLAN_STATUS_LOADED then s.get F.PLAN_STATUS_LOADED_FROM else 0
  let s := s.put F.PLAN_SLOT_INFO_A_MARK (s.marker 1).isSome
  let s := s.put F.PLAN_SLOT_INFO_B_MARK (s.marker 2).isSome
  let s := s.put F.PLAN_SLOT_INFO_A_WRITABLE (from' != 1)
  let s := s.put F.PLAN_SLOT_INFO_B_WRITABLE (from' != 2)
  (s.setWord R.PLAN_GEN_A (s.generation 1)).setWord R.PLAN_GEN_B (s.generation 2)

/-- Slots with a valid marker in the order of the start: higher GENERATION first, slot A on a tie (R117). -/
def State.slotOrder (s : State) : List Nat :=
  let a := (s.marker 1).isSome
  let b := (s.marker 2).isSome
  if a && b then (if s.generation 1 < s.generation 2 then [2, 1] else [1, 2])
  else if a then [1] else if b then [2] else []

/-! ## The end of an operation -/

/-- The operation writes a slot. -/
def LoadOp.isWrite : LoadOp → Bool
  | .writeA | .writeB => true
  | _ => false

/-- Address of the staging half of the plan store (R123). -/
def State.stagingBase (s : State) : Nat :=
  hbmBase + planStorePage * 4096 + (1 - s.loader.half) * 0x800000

/-- The staged image. -/
def State.staged (s : State) : List Byte :=
  s.bytes s.stagingBase s.loader.size

/-- The loader idle, with the active half and the markers' reading kept. -/
def State.loaderIdle (s : State) : State :=
  { s with loader := { half := s.loader.half, markers := s.loader.markers } }

/-- The REPLAN cause ends on every head (R127, R378). -/
def State.endReplan (s : State) : State :=
  { s with heads := s.heads.map (fun (n, h) => (n, { h with replan := false })) |>.filter (fun (_, h) => h ≠ {}) }

/-- A slot read or an image copy starts: PHASE 2, after the select of PHASE 1. -/
def State.beginCopy (s : State) (src : Nat) : State :=
  (({ s with loader := { s.loader with stage := .copy, src := src, size := 0, plan := none } }).raise
    F.PLAN_STATUS_BUSY).set F.PLAN_STATUS_PHASE 2

/-- An operation ends with a code: STATUS, the event, the ledger entry of a failed one (R117, R126, R139; the detail is
STATUS as it stands at the failure) and SLOT_INFO. At start, the next slot is tried (R117). (DEDUCED, log 43.) -/
def State.loaderEnd (s : State) (code : Nat) : State :=
  let l := s.loader
  let s := s.set F.PLAN_STATUS_CODE code
  let unit := if l.op.isWrite then l.slot else l.src
  let inj := s.injArmed 0x48 unit
  let s := s.injSpend 0x48 unit
  let s := s.cond (code != 0 || inj) (·.detectWith inj 0x48 unit (s.word R.PLAN_STATUS))
  let s := s.raise (if l.op.isWrite then F.PLAN_EVENT_WRITE_DONE else F.PLAN_EVENT_LOAD_FAIL)
  let s := (s.drop F.PLAN_STATUS_BUSY).set F.PLAN_STATUS_PHASE 0
  let s := s.slotInfo.endReplan.freeFlash .planLoader
  match l.op, l.tries with
  | .start, t :: ts =>
    if code = 0x37 then s.loaderIdle
    else { s with loader := { l with tries := ts } }.askFlash .planLoader |>.beginCopy t
  | _, _ => s.loaderIdle

/-! ## Requests (R134) -/

/-- A slot's number in a request: 1 A, 2 B, 3 memory. -/
def LoadOp.slot : LoadOp → Nat
  | .loadA | .writeA => 1
  | .loadB | .writeB => 2
  | _ => 3

/-- A load from a slot or the start's select once the flash is held: the markers are read (R116, R117). -/
def State.selectSlot (s : State) : State :=
  let s := { s with loader := { s.loader with markers := true } }.slotInfo
  match s.loader.op with
  | .start =>
    match s.slotOrder with
    | [] =>
      let s := (s.set F.PLAN_STATUS_CODE 0x10).raise F.PLAN_EVENT_LOAD_FAIL
      ((s.drop F.PLAN_STATUS_BUSY).set F.PLAN_STATUS_PHASE 0).freeFlash .planLoader |>.loaderIdle
    | t :: ts => { s with loader := { s.loader with tries := ts } }.beginCopy t
  | op => if (s.marker op.slot).isSome then s.beginCopy op.slot
          else { s with loader := { s.loader with src := op.slot } }.loaderEnd 0x10

/-- An accepted request takes the loader. -/
def State.loaderStart (s : State) (op : LoadOp) : State :=
  ({ s with loader := { half := s.loader.half, markers := s.loader.markers, op := op, stage := .queued,
                        src := op.slot, slot := op.slot, startNs := s.ns } }).raise F.PLAN_STATUS_BUSY

/-- A load or write request (R119, R121, R126, R134). -/
def State.planRequest (s : State) (op : LoadOp) : State :=
  if s.flag F.PLAN_STATUS_BUSY then s.set F.PLAN_STATUS_CODE 0x34
  else
    let s := s.loaderStart op
    if s.lifecycle = 3 then s.loaderEnd 0x33
    else match op with
    | .loadMem => s.beginCopy 3
    | .writeA | .writeB =>
      if s.flag F.PLAN_STATUS_LOADED && s.get F.PLAN_STATUS_LOADED_FROM == op.slot then s.loaderEnd 0x35
      else if !s.flag F.THERM_STATUS_WRITE_OK then s.loaderEnd 0x36
      else { s with loader := { s.loader with stage := .slotStage, src := 3 } }.set F.PLAN_STATUS_PHASE 2
    | _ =>
      let s := (s.askFlash .planLoader).set F.PLAN_STATUS_PHASE 1
      if s.holdsFlash .planLoader then s.selectSlot else s

/-- A slot write has begun on the flash and has not come to its new marker. -/
def LoadStage.writesSlot : LoadStage → Bool
  | .eraseMarker | .eraseImage | .program | .readback => true
  | _ => false

/-- A slot write stops with a code (R121, R127): at the end of the page or sector in progress where the loader holds the
flash, and at once where it waits for it and nothing is in progress. -/
def State.slotStop (s : State) (code : Nat) : State :=
  if s.holdsFlash .planLoader then { s with loader := { s.loader with stop := some code } } else s.loaderEnd code

/-- ABORT (R127): a load before apply ends; a slot write ends at the next boundary before its marker is programmed. -/
def State.planAbort (s : State) : State :=
  match s.loader.stage with
  | .idle | .apply | .marker => s
  | .eraseMarker | .eraseImage | .program | .readback => s.slotStop 0x37
  | .queued | .copy | .verify | .check | .waitSlates | .slotStage => s.loaderEnd 0x37

/-- A write of PLAN.CTRL (R134, R140). -/
def State.writePlanCtrl (s : State) (w : Wr) : State :=
  s.guarded G.PLAN_CTRL w fun s =>
    let v := w.data.toNat
    if bitsOf v 31 24 ≠ 0xA5 then s
    else match v % 16 with
    | 1 => s.planRequest .loadA
    | 2 => s.planRequest .loadB
    | 3 => s.planRequest .loadMem
    | 4 => s.planRequest .writeA
    | 5 => s.planRequest .writeB
    | 6 => s.planAbort
    | _ => s.unpredictable w.master 0 everywhere

/-! ## The load sequence -/

/-- The source address of an image (R135). -/
def State.planSource (s : State) : Nat :=
  s.addrPair R.PLAN_SRC_ADDR_LO R.PLAN_SRC_ADDR_HI

/-- `n` bytes of the source of an operation: memory through the loader's checker, or flash; none on a source fault. -/
def State.readSource (s : State) (src o n : Nat) : Option (List Byte) × State :=
  if src = 3 then
    let (x, s) := s.dmaRead 0xA (s.planSource + o) n
    (if x.refused || x.failed then none else some x.data, s)
  else (if s.qspi.present then some (s.flashBytes (slotImage src + o) n) else none, s)

/-- The copy of an image into the staging half with its checks (R122): the header and directory first, then the copy, then
what the body must hold. The code, and the state with the copy made. (DEDUCED, log 75.) -/
def State.copyImage (s : State) : Nat × State :=
  let src := s.loader.src
  match s.readSource src 0 256 with
  | (none, s) => (0x32, s)
  | (some hdr, s) =>
    let total := leAt hdr 8 4
    let marker := if src = 3 then none else (s.marker src).map (fun m => (m.size, m.hash))
    match s.headerCode hdr total marker with
    | 0 => match s.readSource src 256 (total - 256) with
      | (none, s) => (0x32, s)
      | (some rest, s) =>
        let img := hdr ++ rest
        let (_, s) := s.dmaWrite 0xA s.stagingBase img
        (imageCode img total marker, { s with loader := { s.loader with size := total } })
    | code => (code, s)

/-- The copy has ended (PLAN_COPY_DONE): PHASE 3, verify (R122, R126). -/
def State.planCopied (s : State) : State :=
  if s.loader.stage ≠ .copy then s
  else match s.copyImage with
  | (0, s) =>
    ({ s with loader := { s.loader with stage := .verify } }.set F.PLAN_STATUS_PHASE 3).freeFlash .planLoader
  | (code, s) => s.loaderEnd code

/-- The key and signature checks have ended (PLAN_VERIFY_DONE): PHASE 4, check (R122, R126). -/
def State.planVerified (s : State) : State :=
  if s.loader.stage ≠ .verify then s
  else match s.verifyCode s.staged s.loader.size with
  | 0 => { s with loader := { s.loader with stage := .check } }.set F.PLAN_STATUS_PHASE 4
  | code => s.loaderEnd code

/-- The section rules have been checked: the plan is rejected, or every head that runs, or starts while the others are waited
for, goes to its slate before apply (PLAN_CHECK_DONE, R122, R126, R128). (DEDUCED, log 43.) -/
def State.planChecked (s : State) : State :=
  if s.loader.stage ≠ .check then s
  else
    let p := readPlan s.staged s.loader.size
    match s.checkCode s.staged p with
    | 0 =>
      let s := { s with loader := { s.loader with stage := .waitSlates, plan := some p } }
      s.headList.foldl (fun s n => s.setHead n { s.head n with replan := true }) s
    | code => s.loaderEnd code

/-- The start's plan load (PLAN_LOAD_START, R117, R122, R791): HBM is ready; the loader waits for the flash. A part in RETIRED loads
no plan (R126, R762). (DEDUCED, log 43.) -/
def State.planStart (s : State) : State :=
  if s.inReset.isSome || !s.flag F.MEMC_STATUS_INIT_DONE || s.loader.markers || s.flag F.PLAN_STATUS_BUSY then s
  else
    let s := (s.loaderStart .start).set F.PLAN_STATUS_PHASE 1
    if s.lifecycle = 3 then { s with loader := { s.loader with markers := true } }.loaderEnd 0x33
    else
      let s := s.askFlash .planLoader
      if s.holdsFlash .planLoader then s.selectSlot else s

/-! ## Slot writes (R120, R121) -/

/-- The staging copy and every check of a slot write have ended; the marker sector is erased next. -/
def State.slotStaged (s : State) : State :=
  if s.loader.stage ≠ .slotStage then s
  else
    let (code, s) := s.copyImage
    let img := s.staged
    let code := if code ≠ 0 then code else s.verifyCode img s.loader.size
    let code := if code ≠ 0 then code else s.checkCode img (readPlan img s.loader.size)
    let code := if code = 0 ∧ !s.flag F.THERM_STATUS_WRITE_OK then 0x36 else code
    if code ≠ 0 then s.loaderEnd code
    else
      { s with loader := { s.loader with stage := .eraseMarker } }.set F.PLAN_STATUS_PHASE 6 |>.askFlash .planLoader

/-- Bytes of the image area that a slot write erases: the 64 KiB blocks that the image covers. -/
def State.eraseSize (s : State) : Nat :=
  ceilDiv s.loader.size 0x10000 * 0x10000

/-- A step of a slot write that holds the flash: if a stop is pending, `part` is done and the write ends with the stop's
code; else the whole step is done. `part` takes a free fraction, since the boundary at which the write stops is not
given (R121, R127). -/
def State.slotStep (s : State) (stage : LoadStage) (part : Nat → State → State) (whole : State → State) : State :=
  if s.loader.stage ≠ stage || !s.holdsFlash .planLoader then s
  else match s.loader.stop with
  | some code => (part (s.freeValue 32) s).useFree.loaderEnd code
  | none => whole s

/-- The marker sector is erased. -/
def State.markerErased (s : State) : State :=
  s.slotStep .eraseMarker
    (fun _ s => s.flashErase (slotMarker s.loader.slot) 0x1000)
    (fun s => { s.flashErase (slotMarker s.loader.slot) 0x1000 with loader := { s.loader with stage := .eraseImage } })

/-- The image area is erased. -/
def State.imageErased (s : State) : State :=
  s.slotStep .eraseImage
    (fun k s => s.flashErase (slotImage s.loader.slot) (k % (s.eraseSize / 0x1000 + 1) * 0x1000))
    (fun s => ({ s.flashErase (slotImage s.loader.slot) s.eraseSize with
      loader := { s.loader with stage := .program } }).set F.PLAN_STATUS_PHASE 7)

/-- The image is programmed. -/
def State.imageProgrammed (s : State) : State :=
  s.slotStep .program
    (fun k s => s.flashStore (slotImage s.loader.slot) (s.staged.take (k % (s.loader.size / 256 + 1) * 256)))
    (fun s => { s.flashStore (slotImage s.loader.slot) s.staged with
      loader := { s.loader with stage := .readback } })

/-- The image is read back and its hash compared. -/
def State.slotReadBack (s : State) : State :=
  s.slotStep .readback (fun _ s => s) fun s =>
    if planHash (s.flashBytes (slotImage s.loader.slot) s.loader.size) s.loader.size
        = planHash s.staged s.loader.size then
      { s with loader := { s.loader with stage := .marker } }.set F.PLAN_STATUS_PHASE 8
    else s.loaderEnd 0x38

/-- GENERATION of a new marker (R116, R120): one more than the higher valid one; what follows the last value that may be
written is free. -/
def State.nextGeneration (s : State) : Nat :=
  let g := max (s.generation 1) (s.generation 2) + 1
  if g < 0xFFFFFFFF then g else s.freeValue 32 % 0xFFFFFFFE + 1

/-- The new marker is programmed and the write ends. -/
def State.markerProgrammed (s : State) : State :=
  if s.loader.stage ≠ .marker || !s.holdsFlash .planLoader then s
  else
    let m := markerBytes s.nextGeneration s.loader.size (planHash s.staged s.loader.size)
    ((s.flashStore (slotMarker s.loader.slot) m).useFree).loaderEnd 0

/-- The step of an operation that a unit starts once it takes the flash. -/
def State.flashTaken (s : State) (u : FlashUser) : State :=
  match u with
  | .planLoader => if s.loader.stage = .queued then s.selectSlot else s
  | .bootRom | .security => s

/-- The holder writes flash and gives way at a page or sector boundary (R862). -/
def State.givesWay (s : State) : Bool :=
  match s.qspi.owner with
  | some .planLoader => [.eraseMarker, .eraseImage, .program].contains s.loader.stage
  | some .security => s.sec.cmd.isSome
  | _ => false

/-- QSPI_GRANT (R862): the longest-waiting unit takes the flash from a holder that has released it or gives way; the
latter waits again. -/
def State.grantFlash (s : State) : State :=
  match s.qspi.waiting with
  | [] => s
  | u :: us =>
    match s.qspi.owner with
    | none => ({ s with qspi := { s.qspi with owner := some u, waiting := us } }).flashTaken u
    | some h =>
      if s.givesWay then ({ s with qspi := { s.qspi with owner := some u, waiting := us ++ [h] } }).flashTaken u
      else s

/-- A write of SRC_ADDR_LO or SRC_ADDR_HI while BUSY is ignored (R135). -/
def State.planFrozen (s : State) (a : Nat) : Bool :=
  (a == R.PLAN_SRC_ADDR_LO || a == R.PLAN_SRC_ADDR_HI) && s.flag F.PLAN_STATUS_BUSY

/-- Clearing EVENT.LOCK_HIT clears LOCK_FIRST.VALID (R139). -/
def State.writePlanEvent (s : State) (w : Wr) : State :=
  (s.plainWrite w R.PLAN_EVENT).cond (bitOf w.data.toNat 3) (·.drop F.PLAN_LOCK_FIRST_VALID)

/-- What a reset leaves of a slot write on the flash (R131): a marker whose sector was being erased is gone, and of a new
marker being programmed a free part is there, which fails its CRC unless it is whole. -/
def State.flashCut (s : State) : State :=
  if !s.holdsFlash .planLoader then s
  else match s.loader.stage with
  | .eraseMarker => s.flashErase (slotMarker s.loader.slot) 0x1000
  | .marker =>
    let m := markerBytes s.nextGeneration s.loader.size (planHash s.staged s.loader.size)
    (s.flashStore (slotMarker s.loader.slot) (m.take (s.freeValue 32 % 65))).useFree
  | _ => s

end Sys2Proof.Machine
end

