-- ==== Sys2Proof/Machine/Scaler.lean ====
section
/-! DEFINITION. The scaler pool (chapter 07): ROM coefficient sets (R333), banks (R328 to R332), the polyphase and area
filters (R262, R327). -/

namespace Sys2Proof.Machine

/-! ## ROM sets (R333) -/

/-- One in the fixed-point arithmetic of the Lanczos kernels: 96 fraction bits. -/
def fixOne : Int := 2 ^ 96

/-- π with 96 fraction bits. -/
def fixPi : Int := 0x3243f6a8885a308d313198a2e

/-- sin(πp/q) / (πp/q), by its Taylor series. (DEDUCED, log 67.) -/
def fixSinc (p q : Int) : Int :=
  let y := fixPi * p / q
  let y2 := y * y / fixOne
  ((List.range 40).foldl (fun (ts : Int × Int) k =>
    let t := -(ts.1 * y2 / fixOne) / ((2 * k + 2) * (2 * k + 3) : Nat)
    (t, ts.2 + t)) (fixOne, fixOne)).2

/-- L_a(m / 64s), 0 outside the window. -/
def fixLanczos (a s : Nat) (m : Int) : Int :=
  if a * 64 * s ≤ m.natAbs then 0
  else if m = 0 then fixOne
  else fixSinc m (64 * s) * fixSinc m (64 * s * a) / fixOne

/-- Kernel of a set at d = m / 64, up to a common factor. (DEDUCED, log 67.) -/
def romKernel (set a : Nat) (m : Int) : Int :=
  let n : Int := m.natAbs
  match set with
  | 0 => fixLanczos a 1 m
  | 1 => fixLanczos a 2 m
  | 2 => fixLanczos a 4 m
  | 3 => fixLanczos a 8 m
  | 4 => if n ≤ 64 then 3 * n ^ 3 - 320 * n ^ 2 + 2 * 64 ^ 3
         else if n < 128 then -n ^ 3 + 320 * n ^ 2 - 8 * 64 ^ 2 * n + 4 * 64 ^ 3 else 0
  | 5 => max 0 (64 - n)
  | _ => if -32 < m ∧ m ≤ 32 then 1 else 0

/-- A quotient rounded, ties away from zero. (DEDUCED, log 67.) -/
def roundDiv (a b : Int) : Int :=
  let q := (2 * a.natAbs + b.natAbs) / (2 * b.natAbs)
  if (0 ≤ a) = (0 ≤ b) then q else -(q : Int)

/-- Index of the entry of largest magnitude, the lowest on a tie. -/
def peakIndex (cs : List Int) : Nat :=
  ((List.range cs.length).foldl (fun (b : Nat) t => if (nth 0 cs b).natAbs < (nth 0 cs t).natAbs then t else b) 0)

/-- Taps and centre of a direction: 0 horizontal, 1 vertical (R327). -/
def tapsOf (dir : Nat) : Nat × Nat :=
  if dir = 0 then (8, 3) else (6, 2)

/-- The taps of one phase of a ROM set. (DEDUCED, log 67.) -/
def romPhase (set dir ph : Nat) : List Int :=
  let (taps, c0) := tapsOf dir
  let ks := (List.range taps).map (fun t => romKernel set (if dir = 0 then 4 else 3) (64 * ((t : Int) - c0) - ph))
  let sum := ks.foldl (· + ·) 0
  let cs := ks.map (fun k => roundDiv (256 * k) sum)
  let i := peakIndex cs
  cs.set i (nth 0 cs i + 256 - cs.foldl (· + ·) 0)

/-- Entry `e` of a ROM set (R328). -/
def romEntry (set dir e : Nat) : Int :=
  nth 0 (romPhase set dir (e / (tapsOf dir).1)) (e % (tapsOf dir).1)

/-- Entries of a set in a direction. -/
def setSize (dir : Nat) : Nat :=
  64 * (tapsOf dir).1

/-! ## Banks (R328 to R332) -/

/-- Key of a coefficient: unit, bank, direction, entry. -/
def coefKey (k bank dir e : Nat) : Nat :=
  ((k * 2 + bank) * 2 + dir) * 512 + e

/-- What every coefficient holds after the loads of R332: set 0x0. -/
def coefDefault (key : Nat) : Int :=
  romEntry 0 (key / 512 % 2) (key % 512)

def State.coef (s : State) (k bank dir e : Nat) : Int :=
  Tbl.get coefDefault s.spCoef (coefKey k bank dir e)

def State.setCoef (s : State) (k bank dir e : Nat) (v : Int) : State :=
  { s with spCoef := Tbl.set coefDefault s.spCoef (coefKey k bank dir e) v }

def State.sp (s : State) (k : Nat) : SpRec := Tbl.get (fun _ => {}) s.spUnits k
def State.setSp (s : State) (k : Nat) (v : SpRec) : State :=
  { s with spUnits := Tbl.set (fun _ => {}) s.spUnits k v }

/-- A set of a bank replaced by a ROM set. -/
def State.loadSet (s : State) (k bank dir set : Nat) : State :=
  (List.range (setSize dir)).foldl (fun s e => s.setCoef k bank dir e (romEntry set dir e)) s

/-- The free bank (R329); none while a selection is pending. -/
def State.freeBank (s : State) (k : Nat) : Option Nat :=
  if s.flag (F.SP_STAT_PEND k) then none else some (1 - s.get (F.SP_STAT_BANK k))

/-- The bank that a write of the coefficient port reaches (R329): none also during a ROM load. -/
def State.writeBank (s : State) (k : Nat) : Option Nat :=
  if (s.sp k).load.isSome then none else s.freeBank k

/-- A write ignored and counted (R329). -/
def State.coefIgnored (s : State) (k : Nat) : State :=
  (s.inc (F.SP_COEF_IGN_CNT k)).raise (F.SP_STAT_IGN_EV k)

/-- BUSY as a check or a load runs. -/
def State.spBusy (s : State) (k : Nat) : State :=
  s.put (F.SP_STAT_BUSY k) ((s.sp k).check || (s.sp k).load.isSome)

/-- A write of SP.CTRL (R330). -/
def State.writeSpCtrl (s : State) (k : Nat) (w : Wr) : State :=
  s.guarded (G.SP_CTRL k) w fun s =>
    if s.flag (F.SP_STAT_PEND k) || (s.sp k).load.isSome then s.coefIgnored k
    else if w.data.toNat % 2 = s.get (F.SP_STAT_BANK k) then s
    else (s.setSp k { s.sp k with check := true }).spBusy k

/-- Every phase of both sets of a bank sums to 256. -/
def State.bankOk (s : State) (k bank : Nat) : Bool :=
  (List.range 2).all (fun dir => (List.range 64).all (fun ph =>
    (List.range (tapsOf dir).1).foldl (fun v t => v + s.coef k bank dir (ph * (tapsOf dir).1 + t)) 0 == 256))

/-- The check of the selected bank has ended (R330). -/
def State.bankChecked (s : State) (k : Nat) : State :=
  if !(s.sp k).check then s
  else
    let bank := 1 - s.get (F.SP_STAT_BANK k)
    let s := (s.setSp k { s.sp k with check := false }).spBusy k
    if s.bankOk k bank then
      let s := s.setSp k { s.sp k with sel := (s.sp k).sel + 1 }
      ((s.raise (F.SP_STAT_PEND k)).drop (F.SP_STAT_FREE k)).set (F.SP_CTRL_BANK_SEL k) bank
    else s.raise (F.SP_STAT_REJ_EV k)

/-- ENTRY advanced by two, wrapping after the set's last entry (R343). -/
def State.coefAdvance (s : State) (k : Nat) : State :=
  let e := s.get (F.SP_COEF_INDEX_ENTRY k) + 2
  s.set (F.SP_COEF_INDEX_ENTRY k) (if e < setSize (s.get (F.SP_COEF_INDEX_DIR k)) then e else 0)

/-- A write of COEF_DATA (R329, R343). -/
def State.writeCoefData (s : State) (k : Nat) (w : Wr) : State :=
  s.guarded (G.SP_COEF_DATA k) w fun s =>
    match s.writeBank k with
    | none => s.coefIgnored k
    | some b =>
      let dir := s.get (F.SP_COEF_INDEX_DIR k)
      let e := s.get (F.SP_COEF_INDEX_ENTRY k)
      let v := w.data.toNat
      ((s.setCoef k b dir e (signed 10 v)).setCoef k b dir (e + 1) (signed 10 (v / 65536))).coefAdvance k

/-- A read of COEF_DATA (R343): entries of the free bank. Those of a set that a ROM load is copying, and what is read while
there is no free bank, are free values. -/
def State.readCoefData (s : State) (k : Nat) : W32 × State :=
  let dir := s.get (F.SP_COEF_INDEX_DIR k)
  let e := s.get (F.SP_COEF_INDEX_ENTRY k)
  let open_ := (BitVec.ofNat 32 (s.freeValue 10 + s.freeValue 20 / 1024 * 65536), s.useFree)
  match s.freeBank k, (s.sp k).load with
  | none, _ => open_
  | some b, l =>
    if (match l with | some (_, h, v, _) => if dir = 0 then h else v | none => false) then
      (open_.1, s.useFree.coefAdvance k)
    else (BitVec.ofNat 32 (unsign 10 (s.coef k b dir e) + unsign 10 (s.coef k b dir (e + 1)) * 65536), s.coefAdvance k)

/-- A write of COEF_INDEX (R343): an entry beyond the set's last one is ignored, bit 0 reads 0. -/
def State.writeCoefIndex (s : State) (k : Nat) (w : Wr) : State :=
  let v := w.data.toNat
  let dir := bitsOf v 9 9
  if setSize dir ≤ bitsOf v 8 0 then s
  else (s.set (F.SP_COEF_INDEX_DIR k) dir).set (F.SP_COEF_INDEX_ENTRY k) (bitsOf v 8 0 / 2 * 2)

/-- A write of COEF_CMD (R332, R344, R349). -/
def State.writeCoefCmd (s : State) (k : Nat) (w : Wr) : State :=
  s.guarded (G.SP_COEF_CMD k) w fun s =>
    let v := w.data.toNat
    if bitOf v 8 && decide (7 ≤ v % 16) then s.unpredictable w.master (R.SP_INFO k) (R.SP_INFO k + 0x3FF)
    else match s.writeBank k with
    | none => s.coefIgnored k
    | some _ => if !bitOf v 8 then s else (s.setSp k { s.sp k with load := some (v % 16, bitOf v 4, bitOf v 5, false) }).spBusy k

/-- The ROM load of a unit has ended (R332). -/
def State.romLoaded (s : State) (k : Nat) : State :=
  match (s.sp k).load with
  | none => s
  | some (set, h, v, both) =>
    let banks := if both then [0, 1] else [1 - s.get (F.SP_STAT_BANK k)]
    let s := banks.foldl (fun s b => (s.cond h (·.loadSet k b 0 set)).cond v (·.loadSet k b 1 set)) s
    (s.setSp k { s.sp k with load := none }).spBusy k

/-- A unit after a reset of its block or at plan apply (R332): both banks take set 0x0, bank 0 in force. -/
def State.resetSp (s : State) (k : Nat) : State :=
  let s := s.resetRange (R.SP_INFO k) (R.SP_INFO k + 0x400)
  (s.setSp k { load := some (0, true, true, true) }).spBusy k

/-! ## The unit's filter (R327) -/

/-- One output sample of one direction: taps as (source index, coefficient). -/
def polyTaps (nIn nOut c0 taps i : Nat) (coef : Nat → Nat → Int) : List (Nat × Int) :=
  let step := nIn * 65536 / nOut
  let p : Int := (i * step + step / 2 : Nat) - 32768
  let k := p / 65536
  let ph := ((p / 1024) % 64).toNat
  (List.range taps).map (fun (t : Nat) => ((clampInt 0 ((nIn : Int) - 1) (k - c0 + t)).toNat, coef ph t))

/-- A weighted sum of 12-bit samples in units of 1/256, rounded and clamped (R262, R327). -/
def weigh (ts : List (Nat × Int)) (sample : Nat → Nat) : Nat :=
  (clampInt 0 4095 ((ts.foldl (fun v (j, c) => v + c * (sample j : Int)) 0 + 128) / 256)).toNat

/-- Source samples under output sample `i` of the area filter, with their weights (R262): each is its covered fraction in
1/256 rounded down or up, so that they sum to 256. (DEDUCED, log 36.) -/
def areaTaps (nIn nOut i : Nat) : List (Nat × Int) :=
  let ks := (List.range (ceilDiv ((i + 1) * nIn) nOut - i * nIn / nOut)).map (fun t => i * nIn / nOut + t)
  let cover := fun k => min ((i + 1) * nIn) ((k + 1) * nOut) - max (i * nIn) (k * nOut)
  let down := fun k => cover k * 256 / nIn
  let cut := ks.filter (fun k => cover k * 256 % nIn != 0)
  let up := leastRanked (Config.areaRank nIn nOut i) (256 - ks.foldl (fun v k => v + down k) 0) cut
  ks.map (fun k => (k, (down k + b2n (up.contains k) : Nat)))

/-! ## Limits -/

/-- The scaler unit inserted in front of a stall (R91, R323). -/
def State.scalerOf (s : State) (n m : Nat) : Option Nat :=
  match s.plan with
  | some p => (p.res.find? (fun r => r.kind == 6 && r.param % 32 == n && r.param / 32 % 8 == m)).map (·.index)
  | none => none

/-- Sizes that a scaler unit serves (R325). -/
def scalerOk (cw ch dw dh : Nat) : Bool :=
  cw ≤ 8 * dw && dw ≤ 16 * cw && ch ≤ 8 * dh && dh ≤ 16 * ch && cw ≤ 8192 && dw ≤ 4096

/-- V_max of R261. -/
def vMax (cw : Nat) : Nat :=
  min 4 (32768 / cw - 1)

/-- Sizes that a stall's line buffer serves (R261). -/
def areaOk (cw ch dw dh : Nat) : Bool :=
  dw ≤ cw && cw ≤ 8 * dw && dh ≤ ch && ch ≤ vMax cw * dh && cw ≤ 8192

end Sys2Proof.Machine
end

