-- ==== Sys2Proof/Machine/Colour.lean ====
section
/-! DEFINITION. Colour arithmetic of stalls and heads: widening (R266), conversion matrices (R267), blending (R265),
tables (R335, R336) and dither (R338). -/

namespace Sys2Proof.Machine

/-- A component of `b` bits repeated to `t` bits (R263, R266). -/
def widen (b t v : Nat) : Nat :=
  let k := ceilDiv t b
  ((List.range k).foldl (fun a _ => a * 2 ^ b + v) 0) / 2 ^ (k * b - t)

/-- Red, green and blue of a 30-bit register, at 12 bits (R266). -/
def rgb30 (v : Nat) : Nat × Nat × Nat :=
  (widen 10 12 (bitsOf v 29 20), widen 10 12 (bitsOf v 19 10), widen 10 12 (bitsOf v 9 0))

/-- One row of a conversion matrix: three coefficients and an offset (R267). -/
def cscRow (c0 c1 c2 off : Int) (x : Nat × Nat × Nat) : Nat :=
  (clampInt 0 4095 ((c0 * x.1 + c1 * x.2.1 + c2 * x.2.2 + 2048) / 4096 + off)).toNat

/-- Conversion by six registers in the layout of R279. -/
def cscApply (reg : Nat → Nat) (x : Nat × Nat × Nat) : Nat × Nat × Nat :=
  let lo := fun i => signed 16 (reg i % 65536)
  let hi := fun i => signed 16 (reg i / 65536)
  (cscRow (lo 0) (hi 0) (lo 1) (hi 1) x, cscRow (lo 2) (hi 2) (lo 3) (hi 3) x, cscRow (lo 4) (hi 4) (lo 5) (hi 5) x)

/-- The blend of one component (R265); `k` weighs the source, `a` the destination. -/
def blend1 (k a src dst : Nat) : Nat :=
  min 4095 ((k * src + (256 - a) * dst + 128) / 256)

/-- A blend factor of 0 to 256 from an 8-bit alpha (R264, R289). -/
def factor (a : Nat) : Nat :=
  a + a / 128

/-- A source pixel blended over a destination (R264, R265). -/
def blendPx (premult : Bool) (plane a8 : Nat) (src dst : Nat × Nat × Nat) : Nat × Nat × Nat :=
  let a := factor ((plane * a8 + 127) / 255)
  let k := if premult then factor plane else a
  (blend1 k a src.1 dst.1, blend1 k a src.2.1 dst.2.1, blend1 k a src.2.2 dst.2.2)

/-! ## Output tables (R335, R336) -/

/-- Key of a table entry's component: head, table (0 degamma, 1 gamma), bank, entry, component. -/
def lutKey (n table bank e c : Nat) : Nat :=
  ((n * 2 + table) * 2 + bank) * 4096 + e * 4 + c

/-- What an entry holds after a reset of the HEAD block (R336): 4i. -/
def lutDefault (key : Nat) : Nat :=
  key % 4096 / 4 * 4

def State.lutAt (s : State) (n table bank e c : Nat) : Nat :=
  Tbl.get lutDefault s.lut (lutKey n table bank e c)

def State.setLut (s : State) (n table bank e c v : Nat) : State :=
  { s with lut := Tbl.set lutDefault s.lut (lutKey n table bank e c) v }

/-- Select field of a table. -/
def selField (n table : Nat) : Fld :=
  if table = 0 then F.HEAD_COL_CTRL_DEGAMMA_SEL n else F.HEAD_COL_CTRL_GAMMA_SEL n

/-- A field's value in a snapshot. -/
def Snap.get (p : Snap) (f : Fld) : Nat :=
  fieldGet (Tbl.get resetWord p.vals f.addr) f.hi f.lo

/-- The table's free bank (R329, R336): none while a selection is pending, as written or in a snapshot not yet applied. -/
def State.lutFree (s : State) (n table : Nat) : Option Nat :=
  let f := selField n table
  let h := s.head n
  if s.get f ≠ s.getLive f || (h.accepted ++ h.armed.toList).any (fun p => p.get f != s.getLive f) then none
  else some (1 - s.getLive f)

/-- The bank that a write of the table port reaches (R336): none also while the tables are being reset. -/
def State.lutOpen (s : State) (n table : Nat) : Option Nat :=
  if (s.head n).lutReset then none else s.lutFree n table

/-- ENTRY of LUT_INDEX advanced by one. -/
def State.lutAdvance (s : State) (n : Nat) : State :=
  s.set (F.HEAD_LUT_INDEX_ENTRY n) ((s.get (F.HEAD_LUT_INDEX_ENTRY n) + 1) % 1024)

/-- A table write ignored and counted (R336). -/
def State.lutIgnored (s : State) (n : Nat) : State :=
  (s.inc (F.HEAD_LUT_IGN_CNT n)).raise (F.HEAD_COL_STAT_IGN_EV n)

/-- A write of LUT_DATA0 that passed the guard: held for LUT_DATA1. -/
def State.writeLutData0 (s : State) (n : Nat) (w : Wr) : State :=
  match s.lutOpen n (s.get (F.HEAD_LUT_INDEX_TABLE n)) with
  | none => s.lutIgnored n
  | some _ => s.wr (R.HEAD_LUT_DATA0 n) w.data

/-- A write of LUT_DATA1 (R336): the entry is stored and ENTRY advances. -/
def State.writeLutData1 (s : State) (n : Nat) (w : Wr) : State :=
  s.guarded (G.HEAD_LUT_DATA1 n) w fun s =>
    let t := s.get (F.HEAD_LUT_INDEX_TABLE n)
    match s.lutOpen n t with
    | none => s.lutIgnored n
    | some b =>
      let e := s.get (F.HEAD_LUT_INDEX_ENTRY n)
      let v := s.word (R.HEAD_LUT_DATA0 n)
      let s := s.setLut n t b e 0 (bitsOf v 11 0)
      let s := s.setLut n t b e 1 (bitsOf v 27 16)
      (s.setLut n t b e 2 (bitsOf w.data.toNat 11 0)).lutAdvance n

/-- A read of LUT_DATA0 or LUT_DATA1: the entry of the free bank (R336, R348); what it returns without one, and an entry
while the tables are being reset, are free. -/
def State.readLut (s : State) (n : Nat) (second : Bool) : W32 × State :=
  let t := s.get (F.HEAD_LUT_INDEX_TABLE n)
  let e := s.get (F.HEAD_LUT_INDEX_ENTRY n)
  let open_ := if second then BitVec.ofNat 32 (s.freeValue 12)
    else BitVec.ofNat 32 (s.freeValue 12 + s.freeValue 24 / 4096 * 65536)
  match s.lutFree n t with
  | none => (open_, s.useFree)
  | some b =>
    if (s.head n).lutReset then (open_, s.useFree.cond second (·.lutAdvance n))
    else if second then (BitVec.ofNat 32 (s.lutAt n t b e 2), s.lutAdvance n)
    else (BitVec.ofNat 32 (s.lutAt n t b e 0 + s.lutAt n t b e 1 * 65536), s)

/-- The tables of every head that was reset hold their reset contents (R336). -/
def State.lutsReset (s : State) : State :=
  (List.range 32).foldl (fun s n =>
    if (s.head n).lutReset then
      { s.setHead n { s.head n with lutReset := false } with
        lut := Tbl.clear (fun k => k / 16384 == n) s.lut }
    else s) s

/-- A component through a table (R335). -/
def State.lutMap (s : State) (n table c x : Nat) : Nat :=
  let b := s.getLive (selField n table)
  let e := fun i => s.lutAt n table b i c
  let i := x / 4
  if i = 1023 then e i
  else ((e i : Int) + (((e (i + 1) : Int) - e i) * (x % 4 : Nat) + 2) / 4).toNat

/-! ## Output stages (R334) -/

/-- A pixel through one table. -/
def State.lutPixel (s : State) (n table : Nat) (p : Nat × Nat × Nat) : Nat × Nat × Nat :=
  (s.lutMap n table 0 p.1, s.lutMap n table 1 p.2.1, s.lutMap n table 2 p.2.2)

/-- Steps 1 to 3 of R334. -/
def State.outStages (s : State) (n : Nat) (p : Nat × Nat × Nat) : Nat × Nat × Nat :=
  let p := if s.getLive (F.HEAD_COL_CTRL_DEGAMMA_EN n) = 1 then s.lutPixel n 0 p else p
  let p := if s.getLive (F.HEAD_COL_CTRL_MATRIX_EN n) = 1
    then cscApply (fun i => (s.live (R.HEAD_OUT_CSC n i)).toNat) p else p
  if s.getLive (F.HEAD_COL_CTRL_GAMMA_EN n) = 1 then s.lutPixel n 1 p else p

/-- The matrix B of R338, row by row. -/
def ditherB (x y : Nat) : Nat :=
  nth 0 [0, 8, 2, 10, 12, 4, 14, 6, 3, 11, 1, 9, 15, 7, 13, 5] (y % 4 * 4 + x % 4)

/-- Bits per component of DITHER.DEPTH (R347). -/
def depthBits (code : Nat) : Nat :=
  6 + 2 * code

/-- A component after dither (R338). -/
def dither1 (mode depth latch x y v : Nat) : Nat :=
  let s := 12 - depth
  let (dx, dy) := if mode = 2 then nth (0, 0) [(0, 0), (2, 2), (2, 0), (0, 2)] (latch % 4) else (0, 0)
  let t := if mode = 0 then 2 ^ (s - 1) else (2 * ditherB (x + dx) (y + dy) + 1) * 2 ^ s / 32
  min ((v + t) / 2 ^ s) (2 ^ depth - 1)

/-- A pixel as it leaves dither. -/
def State.ditherPx (s : State) (n latch x y : Nat) (p : Nat × Nat × Nat) : Nat × Nat × Nat :=
  let d := dither1 (s.getLive (F.HEAD_DITHER_MODE n)) (depthBits (s.getLive (F.HEAD_DITHER_DEPTH n))) latch x y
  (d p.1, d p.2.1, d p.2.2)

/-- Bytes of a pixel as a region CRC takes them (R371). -/
def crcPixel (depth : Nat) (p : Nat × Nat × Nat) : List Byte :=
  let k := if depth = 10 then 2 else 1
  bytesLE k p.1 ++ bytesLE k p.2.1 ++ bytesLE k p.2.2

end Sys2Proof.Machine
end

