-- ==== Sys2Proof/Machine/LinkBase.lean ====
section
/-! DEFINITION. What other units use of the wall link and the twin link: state and queueing of a frame (chapters 11 and
12). -/

namespace Sys2Proof.Machine

/-- Key of a link's record. -/
def linkIdx (l : Link) : Nat :=
  match l with
  | .wall => 0
  | .twin => 1

def State.link (s : State) (l : Link) : LinkRec := Tbl.get (fun _ => {}) s.links (linkIdx l)
def State.setLink (s : State) (l : Link) (v : LinkRec) : State :=
  { s with links := Tbl.set (fun _ => {}) s.links (linkIdx l) v }

/-- The link's state field (R514, R553). -/
def linkStateF (l : Link) : Fld :=
  match l with
  | .wall => F.WLK_STAT_STATE
  | .twin => F.TWIN_STAT_LINK

/-- The link's failure field. -/
def linkFailF (l : Link) : Fld :=
  match l with
  | .wall => F.WLK_STAT_FAIL
  | .twin => F.TWIN_STAT_FAIL

/-- The link is UP. -/
def State.linkUp (s : State) (l : Link) : Bool :=
  s.get (linkStateF l) == 5

/-- A frame waits to be sent. -/
def State.linkQueue (s : State) (l : Link) (m : LinkMsg) : State :=
  s.setLink l { s.link l with txq := (s.link l).txq ++ [m] }

/-- A message of a unit of the part: lost while the link is not UP (R511). -/
def State.linkSay (s : State) (l : Link) (m : LinkMsg) : State :=
  s.cond (s.linkUp l) (·.linkQueue l { m with since := s.ns })

end Sys2Proof.Machine
end

