-- ==== Sys2Proof/Machine/FreshOps.lean ====
section
/-! DEFINITION. The freshness supervisor (chapter 01): the judgement of one stall by one channel (R48), the vote (R42),
the registers it fills (R65 to R79), and attestation (R58 to R63, R770). -/

namespace Sys2Proof.Machine

/-! ## The judgement -/

/-- What one channel judges a stall on. `tbs` gives each time base in use as its 48-bit count and LOCKED; `takeover` marks the
first latch after taking over, and `held` is the verdict then held from the active part (R56). -/
structure JudgeIn where
  stamp : Option Stamp
  rebound : Bool
  liveClass : Bool
  motion : Bool
  budget : Nat
  freezeWin : Nat
  sigWin : Nat
  hyst : Nat
  tbs : List (Option (Nat × Bool))
  timeout : Bool
  unplug : Bool
  fault : Bool
  underrun : Bool
  aliveErr : Bool
  takeover : Bool := false
  held : Option Nat := none
deriving DecidableEq, Repr

/-- Age of a stamp in µs, and the reasons TIME and TB_UNLOCKED (R48, R77). -/
def stampAge (tbs : List (Option (Nat × Bool))) (st : Stamp) : Nat × Bool × Bool :=
  match nth none tbs st.tb with
  | none => (0xFFFFFFFF, true, false)
  | some (now, locked) =>
    let d := (now + 2 ^ 48 - st.captureTime) % 2 ^ 48
    if 2 ^ 47 ≤ d then (0, decide (1000000 < 2 ^ 48 - d), !locked)
    else (min ((d + 999) / 1000) 0xFFFFFFFE, false, !locked)

/-- Verdict of a reason vector, bit 0 for STATUS bit 16 (R49, R51): 3 LOST, 2 FROZEN, 1 AGED, 0 LIVE. -/
def rawOf (reasons : Nat) : Nat :=
  if 64 ≤ reasons then 3 else if 16 ≤ reasons then 2 else if 1 ≤ reasons then 1 else 0

/-- One channel's judgement of one stall (R48). -/
def judge (i : JudgeIn) (c : ChanStall) : ChanStall :=
  let fresh := c.fresh || i.rebound || (match i.stamp with | some st => st.sourceId != c.lastSourceId | none => false)
  let noStamp := i.stamp.isNone && i.liveClass
  let posted := fun (late degraded unlocked seqStall sigStall alive time : Bool) =>
    bitsFrom [late, degraded, unlocked, i.underrun, seqStall, sigStall, noStamp, i.timeout, i.unplug, i.fault,
              alive || i.aliveErr, time, false]
  let (reasons, c1) := match i.stamp with
    | none => (posted false false false false false false false, { c with ageUs := 0xFFFFFFFF })
    | some st =>
      let (age, time, unlocked) := stampAge i.tbs st
      let ds := (st.seq + 2 ^ 24 - c.lastSeq) % 2 ^ 24
      let advanced := ds != 0 && ds < 0x800000
      let seqCnt := if fresh || advanced then 0 else min (c.seqCnt + 1) 255
      let sigCnt := if fresh || st.signature != c.lastSig then 0 else min (c.sigCnt + 1) 255
      let alive := !fresh && advanced && (st.alive + 16 - c.lastAlive) % 16 != ds % 16
      let late := age != 0xFFFFFFFF && decide (i.budget * 100 < age)
      (posted late st.degraded unlocked (decide (i.freezeWin ≤ seqCnt)) (i.motion && decide (i.sigWin ≤ sigCnt)) alive time,
       { c with ageUs := age, seqCnt := seqCnt, sigCnt := sigCnt, lastSeq := st.seq, lastAlive := st.alive,
                lastSig := st.signature, lastSourceId := st.sourceId })
  let raw := rawOf reasons
  let (shown, hyst) :=
    if fresh || raw != 0 then (raw, 0)
    else if c.shown != 0 then (if i.hyst ≤ c.hystCnt + 1 then (0, 0) else (c.shown, c.hystCnt + 1))
    else (c.shown, c.hystCnt)
  let shown := match i.held with | some v => max shown v | none => shown
  let hyst := if i.takeover then 0 else hyst
  { c1 with raw := raw, reasons := reasons, shown := shown, hystCnt := hyst, fresh := i.stamp.isNone }

/-! ## The vote -/

/-- Result of a vote over the channels in service: the channel whose state is reported, and the one that dissents. -/
structure Vote where
  winner : Option ChanStall := none
  dissent : Option Nat := none
  short : Bool := false
deriving DecidableEq, Repr

/-- The vote of R42 over the channels in service, on the shown verdict. -/
def vote : List (Nat × ChanStall) → Vote
  | [(i0, a), (j, b), (k, c)] =>
    if a.shown = b.shown then { winner := some a, dissent := if c.shown = a.shown then none else some k }
    else if a.shown = c.shown then { winner := some a, dissent := some j }
    else if b.shown = c.shown then { winner := some b, dissent := some i0 }
    else {}
  | [(_, a), (_, b)] => if a.shown = b.shown then { winner := some a } else {}
  | _ => { short := true }

/-- Channels in service of head `n` (R43). -/
def State.chansOk (s : State) (n : Nat) : List Nat :=
  (List.range 3).filter (fun c => bitOf (s.get (F.FRESH_HSTAT_CH_OK n)) c)

/-! ## Parameters in force (R31, R44, R45, R46) -/

/-- The value inside a range that a written one acts as (R45). -/
def clampNat (lo hi v : Nat) : Nat :=
  max lo (min hi v)

/-- Stall `m` of head `n` is live-class. -/
def State.liveClass (s : State) (n m : Nat) : Bool :=
  s.get (F.FSTALL_CFG_CLASS n m) == 1

/-- Motion test, budget, windows and hysteresis in force. -/
def State.judgeParams (s : State) (n m : Nat) : Bool × Nat × Nat × Nat × Nat :=
  let p := s.fstall n m
  let live := s.liveClass n m
  let bud := clampNat 10 600000
  let win := fun v => max 2 v
  let hys := fun v => max 1 v
  let b := bud (s.getLive (F.FSTALL_BUDGET_BUDGET n m))
  let f := win (s.getLive (F.FSTALL_WINDOWS_FREEZE_WIN n m))
  let g := win (s.getLive (F.FSTALL_WINDOWS_SIG_WIN n m))
  let h := hys (s.getLive (F.FSTALL_WINDOWS_HYST n m))
  let mo := s.getLive (F.FSTALL_CFG_MOTION_EXP n m) != 0
  if live then
    (mo || bitOf p.planCfg 2, min b (bud p.planBudget), min f (win (bitsOf p.planWindows 7 0)),
     min g (win (bitsOf p.planWindows 15 8)), max h (hys (bitsOf p.planWindows 19 16)))
  else (mo, b, f, g, h)

/-- The mark of stall `m` is drawn (R30, R73). -/
def State.markOn (s : State) (n m : Nat) : Bool :=
  s.liveClass n m || s.getLive (F.FSTALL_CFG_MARK_EN n m) != 0

/-- Every time base as the supervisor samples it at the FLP (R40). -/
def State.tbSamples (s : State) : List (Option (Nat × Bool)) :=
  (List.range 8).map (fun t => if s.tbInUse t then some (s.tb48 t, s.tbLocked t) else none)

/-- Stall `m` of head `n` is judged (R47, R237). -/
def State.judged (s : State) (n m : Nat) : Bool :=
  decide (m < s.stallCount n) && bitOf (s.getLive (F.COMP_CTRL_STALL_EN n)) m

/-- Judged stalls of head `n`. -/
def State.judgedList (s : State) (n : Nat) : List Nat :=
  if s.hasPipe n then (List.range 8).filter (s.judged n) else []

/-! ## One stall at a latch -/

/-- An injected dissent or channel failure of detector `d`, unit `u`, that concerns channel `c` (R810, R816). -/
def State.injFor (s : State) (d u c : Nat) : Bool :=
  s.injArmed d u && s.get (F.FLT_INJ_CH d) == c

/-- State of channel `c` for a stall after judging, with an injected dissent (R810). (DEDUCED, log 68.) -/
def State.chanJudged (s : State) (n m : Nat) (i : JudgeIn) (c : Nat) : ChanStall :=
  let j := judge i (s.chan n m c)
  if s.injFor 0x01 (n * 8 + m) c then { j with shown := (j.shown + 1) % 4 } else j

/-- STATUS of a stall (R76). -/
def statusWord (c : ChanStall) : Nat :=
  c.reasons * 2 ^ 16 + b2n c.fresh * 2 ^ 8 + c.hystCnt % 16 * 2 ^ 4 + c.raw * 4 + c.shown

/-- Registers of a judged stall after a latch (R66, R67, R76 to R79); `old` is its shown verdict before. -/
def State.putVerdict (s : State) (n m : Nat) (c : ChanStall) (counts : Nat) : State :=
  let old := s.get (F.FSTALL_STATUS_SHOWN n m)
  let s := s.setWord (R.FSTALL_STATUS n m) (statusWord c)
  let s := s.setWord (R.FSTALL_AGE n m) c.ageUs
  let s := s.setWord (R.FSTALL_COUNTS n m) counts
  let sum := s.word (R.FRESH_SUMMARY n)
  let s := s.setWord (R.FRESH_SUMMARY n) (sum - bitsOf sum (2 * m + 1) (2 * m) * 4 ^ m + c.shown * 4 ^ m)
  let s := s.cond (old != c.shown) fun s =>
    s.set (F.FRESH_CHANGED_STALL n) (Nat.lor (s.get (F.FRESH_CHANGED_STALL n)) (2 ^ m))
  s.cond (c.shown != 0) fun s => s.inc (F.FSTALL_NONLIVE_CNT_CNT n m)

/-- The stamp copy as STAMP0 to STAMP3 (R40, R79). -/
def State.putStamp (s : State) (n m : Nat) (t : Option Stamp) : State :=
  let v := match t with | some t => t.bits | none => 0
  (List.range 4).foldl (fun s k => s.setWord (R.FSTALL_STAMP n m k) (v / 2 ^ (32 * k) % 2 ^ 32)) s

/-- Every channel of a stall set to one state. -/
def State.setChans (s : State) (n m : Nat) (f : Nat → ChanStall) : State :=
  (List.range 3).foldl (fun s c => s.setChan n m c (f c)) s

/-- A stall that has no valid stamp at a latch is in fresh state for the next one, judged or not (R50, R76). -/
def State.freshUnstamped (s : State) (n m : Nat) : State :=
  s.cond (s.fstall n m).stamp.isNone fun s =>
    (s.setChans n m (fun c => { s.chan n m c with fresh := true })).raise (F.FSTALL_STATUS_FRESH n m)

/-- The vote on one judged stall and its effects (R42): the dissenting channel, if any, is returned. With fewer than two
channels in service there is no vote, and STATUS, AGE, COUNTS and the channels' state stay as they were while STAMP0 to
STAMP3 take the stamp; on a split the ALIVE test is that of the first channel in service. (DESIGN CHOICE, log 78.) -/
def State.judgeStall (s : State) (n m : Nat) (i : JudgeIn) : Option Nat × State :=
  let u := n * 8 + m
  let injD := s.injArmed 0x01 u
  let injS := s.injArmed 0x03 u
  let ok := s.chansOk n
  let after := s.chanJudged n m i
  let v := if injS then ({ short := decide (ok.length < 2) } : Vote) else vote (ok.map (fun c => (c, after c)))
  let s := ((s.injSpend 0x01 u).injSpend 0x03 u).injSpend 0x05 u
  let s := s.putStamp n m i.stamp
  if v.short then (none, s)
  else match v.winner with
  | some w =>
    let s := s.setChans n m (fun c => if v.dissent = some c || !ok.contains c then w else { after c with shown := w.shown })
    let s := s.putVerdict n m w (w.sigCnt * 256 + w.seqCnt)
    let s := s.cond (bitOf w.reasons 10) fun s =>
      (s.inc (F.FSTALL_ALIVE_ERR_CNT_CNT n m)).detectWith i.aliveErr 0x05 u
        (match i.stamp with | some t => t.seq | none => 0)
    match v.dissent with
    | some c => (some c, s.detectWith injD 0x01 u c)
    | none => (none, s)
  | none =>
    let lost := fun c => { after c with shown := 3, hystCnt := 0 }
    let s := s.setChans n m lost
    let codes := ok.foldl (fun v c => v + (after c).shown * 4 ^ c) 0
    let s := s.putVerdict n m { raw := 3, shown := 3, reasons := 0x1000, fresh := i.stamp.isNone } (s.freeValue 16)
    let s := s.cond (bitOf (after (nth 0 ok 0)).reasons 10) fun s =>
      (s.inc (F.FSTALL_ALIVE_ERR_CNT_CNT n m)).detectWith i.aliveErr 0x05 u
        (match i.stamp with | some t => t.seq | none => 0)
    (none, s.useFree.detectWith (injS || injD) 0x03 u codes)

/-! ## Channels out of service -/

/-- CH_OK and TWO_CH after channel `c` is taken out of service (R43, R65). -/
def State.dropChannel (s : State) (n c : Nat) : State :=
  let ok := s.get (F.FRESH_HSTAT_CH_OK n)
  let s := s.set (F.FRESH_HSTAT_CH_OK n) (if bitOf ok c then ok - 2 ^ c else ok)
  s.put (F.FRESH_HSTAT_TWO_CH n) ((s.chansOk n).length == 2)

/-- Dissents of a latch counted, and a channel with three in a row declared failed (R43). -/
def State.countDissents (s : State) (n : Nat) (ds : List Nat) (inj : Bool) : State :=
  let s := s.cond (!ds.isEmpty) (·.inc (F.FRESH_DISSENT_CNT_CNT n))
  let runs := (List.range 3).map (fun c => if ds.contains c then nth 0 (s.fhead n).runs c + 1 else 0)
  let s := s.setFhead n { s.fhead n with runs := runs }
  (List.range 3).foldl (fun s c =>
    let injC := s.injFor 0x02 n c
    if (3 ≤ nth 0 runs c || injC) && (s.chansOk n).contains c then
      (s.dropChannel n c).detectWith (inj || injC) 0x02 n c
    else s) s |>.injSpend 0x02 n

/-! ## Attestation -/

/-- The judged stalls of the attested latch (R60). -/
def State.attStalls (s : State) (n : Nat) : List AttStall :=
  (s.judgedList n).map (fun m =>
    { stall := m, shown := s.get (F.FSTALL_STATUS_SHOWN n m),
      sourceId := match (s.fstall n m).stamp with | some t => t.sourceId | none => 0,
      seq := match (s.fstall n m).stamp with | some t => t.seq | none => 0,
      reasons := s.get (F.FSTALL_STATUS_REASONS n m), age := s.word (R.FSTALL_AGE n m) })

/-- The first latch after acceptance is the attested one (R59). -/
def State.attestLatch (s : State) (n : Nat) : State :=
  let f := s.fhead n
  match f.attest with
  | some a =>
    if a.latch.isSome then s
    else s.setFhead n { f with attest := some { a with latch := some {
      latchCnt := s.pair (R.FRESH_LATCH_CNT_LO n) (R.FRESH_LATCH_CNT_HI n), time := s.tb48 0,
      locked := s.tbLocked 0, stalls := s.attStalls n } } }
  | none => s

/-- A request ends with a failure (R63). -/
def State.attestRefuse (s : State) (n err : Nat) : State :=
  (s.raise (F.FRESH_ATTEST_STAT_REFUSED n)).set (F.FRESH_ATTEST_STAT_ERR n) err

/-- A REFUSED frame answers a wall-link request (R496). -/
def State.attestRefused (s : State) (n tag err : Nat) : State :=
  s.linkSay .wall { type := 7, vc := 15, tag := tag, payload := bytesLE 1 3 ++ bytesLE 1 n ++ bytesLE 1 err ++ bytesLE 1 0 }

/-- A record goes out in RECORD frames (R496). -/
def State.attestFrames (s : State) (n tag : Nat) (rec' : List Byte) : State :=
  (List.range (ceilDiv rec'.length 1016)).foldl (fun s i => s.linkSay .wall
    { type := 7, vc := 15, tag := tag, payload := bytesLE 1 2 ++ bytesLE 1 n ++ bytesLE 2 0 ++ bytesLE 2 (i * 1016) ++
        bytesLE 2 rec'.length ++ slice rec' (i * 1016) 1016 }) s

/-- A request in progress ends with a failure (R63). -/
def State.attestFail (s : State) (n err : Nat) : State :=
  match (s.fhead n).attest with
  | some a =>
    let s := ((s.setFhead n { s.fhead n with attest := none }).drop (F.FRESH_ATTEST_STAT_BUSY n)).attestRefuse n err
    match a.wall with
    | some tag => s.attestRefused n tag err
    | none => s
  | none => s

/-- Whether the part can take a request (R62, R63): the code it refuses with, or 0. -/
def State.attestCode (s : State) (n : Nat) : Nat :=
  if s.lifecycle = 0 then 3
  else if !s.flag F.SEC_STATUS_ID_OK || s.lifecycle == 3 then 4
  else if !s.hasPipe n || s.directScan n then 5
  else 0

/-- A request is taken (R58, R59). -/
def State.attestTake (s : State) (n : Nat) (a : Attest) : State :=
  (s.setFhead n { s.fhead n with attest := some a }).raise (F.FRESH_ATTEST_STAT_BUSY n)

/-- A write of ATTEST_CTRL (R58, R59, R62, R63). -/
def State.writeAttestCtrl (s : State) (n : Nat) (w : Wr) : State :=
  s.guarded (G.FRESH_ATTEST_CTRL n) w fun s =>
    if !bitOf w.data.toNat 0 then s
    else if s.flag (F.FRESH_ATTEST_STAT_BUSY n) then s.attestRefuse n 1
    else match s.attestCode n with
    | 0 =>
      s.attestTake n { nonce := s.pair (R.FRESH_ATTEST_NONCE_LO n) (R.FRESH_ATTEST_NONCE_HI n),
                       addr := s.addrPair (R.FRESH_ATTEST_ADDR_LO n) (R.FRESH_ATTEST_ADDR_HI n), acceptedNs := s.ns }
    | code => s.attestRefuse n code

/-- The part's identity hash, as ID_HASH0 to ID_HASH11 show it. -/
def idHash : List Byte :=
  Config.sha384 Config.identityKey

/-- PLAN_HASH of the plan in force; zeros without one. -/
def State.planHashBytes (s : State) : List Byte :=
  match s.plan with
  | some p => p.hash
  | none => List.replicate 48 0

/-- The signed part of an attestation record (R770). -/
def State.recordBody (s : State) (n nonce : Nat) (l : AttLatch) : List Byte :=
  bytesLE 4 0x41545346 ++ bytesLE 2 0x0100 ++ bytesLE 1 n ++ bytesLE 1 l.stalls.length ++ bytesLE 8 l.latchCnt ++
  bytesLE 8 nonce ++ bytesLE 8 (l.time % 2 ^ 48 + b2n l.locked * 2 ^ 63) ++ s.planHashBytes ++ idHash ++
  (l.stalls.map (fun t => bytesLE 1 t.stall ++ bytesLE 1 t.shown ++ bytesLE 2 t.sourceId ++ bytesLE 4 t.seq ++
    bytesLE 4 t.reasons ++ bytesLE 4 t.age)).flatten

/-- The signed record (R770). -/
def State.record (s : State) (n nonce : Nat) (l : AttLatch) : List Byte :=
  let b := s.recordBody n nonce l
  let (r, t) := Config.identitySign (Config.sha384 b)
  b ++ r ++ t

/-- The security controller has signed and writes the record through its checker (R60, R61, R72). -/
def State.attestRecord (s : State) (n : Nat) : State :=
  match (s.fhead n).attest with
  | some { nonce := nonce, addr := addr, latch := some l, wall := wall, .. } =>
    let (ok, s) := match wall with
      | some tag => (true, s.attestFrames n tag (s.record n nonce l))
      | none => s.unitWrite 0xB addr (s.record n nonce l)
    if ok then
      ((((s.setFhead n { s.fhead n with attest := none }).drop (F.FRESH_ATTEST_STAT_BUSY n)).raise
        (F.FRESH_ATTEST_STAT_DONE n)).set (F.FRESH_ATTEST_STAT_ERR n) 0)
    else s.attestFail n 2
  | _ => s

/-- A request whose latch has not come within 1 s ends (R63). -/
def State.attestTimeout (s : State) (n : Nat) : State :=
  match (s.fhead n).attest with
  | some { acceptedNs := t, latch := none, .. } =>
    if 1000000000 ≤ s.ns - t then s.attestFail n 6 else s
  | _ => s

end Sys2Proof.Machine
end

