-- ==== Sys2Proof/Machine/StallOps.lean ====
section
/-! DEFINITION. Buffers of stalls (chapter 05): rings and their followers, shadow binds, takes, retirement, validity, and
what a latch does to each stall. -/

namespace Sys2Proof.Machine

/-- Identifier of pipe or head `n`'s checker (R575). -/
def pipeMaster (n : Nat) : Nat := 0x30 + n

/-! ## Rings (R250) -/

/-- A ring as its consumers see it: descriptor base, log2 of its slots, and its indices. -/
structure Ring where
  base : Nat
  log2 : Nat
  wr : Fld
  rd : Fld
deriving DecidableEq, Repr

/-- The ring of a source kind and index (R250). -/
def State.ring (s : State) (kind i : Nat) : Ring :=
  match kind with
  | 0 => ⟨s.addrPair (R.INGR_DESC_BASE_LO i) (R.INGR_DESC_BASE_HI i), s.get (F.INGR_RING_DESC_LOG2 i),
          F.INGR_WR_IDX_IDX i, F.INGR_RD_IDX_IDX i⟩
  | 1 => ⟨s.addrPair (R.DEC_OUT_BASE_LO i) (R.DEC_OUT_BASE_HI i), s.get (F.DEC_CTRL_OUT_LOG2 i),
          F.DEC_OUT_WR_IDX_IDX i, F.DEC_OUT_RD_IDX_IDX i⟩
  | _ => ⟨s.addrPair (R.COMP_WB_DESC_LO i) (R.COMP_WB_DESC_HI i),
          max 1 (min 12 (s.get (F.COMP_WB_RING_DESC_LOG2 i))), F.COMP_WB_WR_IDX_IDX i, F.COMP_WB_RD_IDX_IDX i⟩

/-- The source exists, has the payload of stalls and may be followed by pipe `n` (R260). -/
def State.ringOk (s : State) (n kind i : Nat) : Bool :=
  match kind with
  | 0 => decide (i < 512) && (s.get (F.INGR_CTRL_PAYLOAD i) == 3 || s.get (F.INGR_CTRL_PAYLOAD i) == 5)
  | 1 => decide (i < 128)
  | 2 => decide (i < 32) && i != n && s.hasWb i
  | _ => false

/-- The buffer that a descriptor of a ring names (R250). -/
def State.ringBuf (s : State) (kind i count : Nat) (d : List Byte) : Buf :=
  let idx := leAt d 0x14 4
  match kind with
  | 0 => { addr := s.addrPair (R.INGR_DATA_BASE_LO i) (R.INGR_DATA_BASE_HI i) +
             idx * s.get (F.INGR_RING_BUF_PAGES i) * 4096, ring := some (kind, i, count),
           format := s.get (F.INGR_PICTURE_FORMAT i), width := s.get (F.INGR_PICTURE_WIDTH i),
           height := s.get (F.INGR_PICTURE_HEIGHT i) }
  | 1 => { addr := s.addrPair (R.DEC_POOL_BASE_LO i) (R.DEC_POOL_BASE_HI i) +
             leAt d 0x10 4 * s.get (F.DEC_POOL_BUF_PAGES i) * 4096, ring := some (kind, i, count),
           format := if bitOf (leAt d 0x20 4) 1 then 7 else 6, dbc := bitOf (leAt d 0x20 4) 0,
           width := leAt d 0x14 2, height := leAt d 0x16 2, srcX := leAt d 0x18 2, srcY := leAt d 0x1A 2 }
  | _ => { addr := s.addrPair (R.COMP_WB_DATA_LO i) (R.COMP_WB_DATA_HI i) +
             idx * s.get (F.COMP_WB_RING_BUF_PAGES i) * 4096, ring := some (kind, i, count),
           format := s.get (F.COMP_WB_CTRL_FORMAT i), dbc := s.flag (F.COMP_WB_CTRL_DBC i),
           width := s.getLive (F.HEAD_TIMING_H_H_ACTIVE i), height := s.getLive (F.HEAD_TIMING_V_V_ACTIVE i) }

/-- Distance of 16-bit counts. -/
def ahead (a b : Nat) : Nat :=
  (a + 65536 - b) % 65536

/-- Count of the newest published slot that has not been released (R169); none where there is none. -/
def State.newest (s : State) (r : Ring) : Option Nat :=
  let w := s.get r.wr
  if w = s.get r.rd then none else some (ahead w 1)

/-- A slot's descriptor and stamp slot read through a checker: the buffer and its stamp; none where a read is refused. -/
def State.readSlot (s : State) (master kind i count : Nat) : Option (Buf × Stamp) × State :=
  let r := s.ring kind i
  match s.unitRead master (r.base + count % 2 ^ r.log2 * 64) 64 with
  | (none, s) => (none, s)
  | (some d, s) =>
    let b := s.ringBuf kind i count d
    match s.readStamp master b.addr with
    | (none, s) => (none, s)
    | (some t, s) => (some (b, t), s)

/-! ## Stalls and what they follow -/

/-- Ring that stall `m` follows by the values in force (R250, R254). -/
def State.follows (s : State) (n m : Nat) : Option (Nat × Nat) :=
  if s.judged n m && s.getLive (F.CSTALL_CTRL_MODE n m) == 1 then
    some (s.getLive (F.CSTALL_CTRL_SRC_KIND n m), s.getLive (F.CSTALL_SRC_IDX n m))
  else none

/-- Slots that followers of a ring hold; none entries are followers without a slot (R254). -/
def State.followers (s : State) (kind i : Nat) : List (Option Nat) :=
  let stalls := (List.range 32).flatMap (fun n => (List.range 8).filterMap (fun m =>
    if s.follows n m = some (kind, i) then
      some (match (s.stall n m).buf with
        | some { ring := some (k, j, c), .. } => if k = kind ∧ j = i then some c else none
        | _ => none)
    else none))
  stalls ++ s.encs.filterMap (fun (_, e) => if e.follows = some (kind, i) then some e.held else none)

/-- Key of a ring. -/
def ringKey (kind i : Nat) : Nat := kind * 512 + i

/-- The consumer index after a slot has retired (R254): the oldest slot held, else one past the newest retired; never
backwards, and unmoved without followers. -/
def State.slotRetired (s : State) (kind i count : Nat) : State :=
  let next := (count + 1) % 65536
  let k := ringKey kind i
  let old := Tbl.get (fun _ => 0) s.ringRetired k
  let newer := old = 0 ∨ ahead next (old - 1) < 32768
  let s := { s with ringRetired := Tbl.set (fun _ => 0) s.ringRetired k (if newer then next + 1 else old) }
  let r := s.ring kind i
  let rd := s.get r.rd
  let fs := s.followers kind i
  if fs.isEmpty then s
  else
    let held := fs.filterMap id
    let goal := match held with
      | [] => Tbl.get (fun _ => 0) s.ringRetired k - 1
      | h :: t => t.foldl (fun a b => if ahead b rd < ahead a rd then b else a) h
    if ahead goal rd < 32768 then s.set r.rd goal else s

/-- Ingress entry that feeds stall `m` (R255): the entry it follows, or the input entry of the decode context that it
follows. -/
def State.entryOf (s : State) (n m : Nat) : Option Nat :=
  match s.follows n m with
  | some (0, i) => some i
  | some (1, c) => if s.get (F.DEC_CTRL_INPUT c) = 0 ∧ s.flag (F.DEC_CTRL_ENABLE c) then some (s.get (F.DEC_SRC_ENTRY c)) else none
  | _ => none

/-! ## Posting a fetch fault -/

/-- FETCH_FAULT posted to the supervisor (R40, R259, R260). -/
def State.postFetch (s : State) (n m : Nat) : State :=
  (s.setFstall n m { s.fstall n m with evFetchFault := true }).raise (F.CSTALL_STAT_FAULT_EV n m)

/-- A fetch of a stall refused or failed (R259): fallback fill to the end of the frame. -/
def State.fetchFaulted (s : State) (n m : Nat) (inj : Bool) : State :=
  let r := s.stall n m
  if r.faulted then s.postFetch n m
  else
    let s := s.setStall n m { r with faulted := true }
    ((s.inc (F.CSTALL_FETCH_FAULTS_CNT n m)).postFetch n m).detectWith inj 0x10 (n * 8 + m)
      (s.word (R.HEAD_FRAME_CNT n))

/-! ## Shadow binds (R251) -/

/-- STAMP_PEND: a bind whose reads are still out (R280). -/
def State.stampPend (s : State) (n m : Nat) : State :=
  let r := s.stall n m
  s.put (F.CSTALL_STAT_STAMP_PEND n m) ((r.binds ++ r.late.toList).any (fun b => !b.done))

/-- A shadow bind starts. -/
def State.startBind (s : State) (n m : Nat) (addr : Nat) (ring : Option (Nat × Nat)) : State :=
  let r := s.stall n m
  (s.setStall n m { r with binds := r.binds ++ [{ id := r.nextBind, addr := addr, ring := ring }]
                           nextBind := r.nextBind + 1 }).stampPend n m

/-- A write of BASE_HI (R251): it starts a bind where the written MODE is manual. -/
def State.writeBaseHi (s : State) (n m : Nat) (w : Wr) : State :=
  s.guarded (G.CSTALL_BASE_HI n m) w fun s =>
    let s := s.highWrite w (R.CSTALL_BASE_HI n m)
    if s.get (F.CSTALL_CTRL_MODE n m) = 0 then
      s.startBind n m (s.addrPair (R.CSTALL_BASE_LO n m) (R.CSTALL_BASE_HI n m)) none
    else s

/-- MODE, SRC_KIND and SRC as written. -/
def State.sourceWritten (s : State) (n m : Nat) : Nat × Nat × Nat :=
  (s.get (F.CSTALL_CTRL_MODE n m), s.get (F.CSTALL_CTRL_SRC_KIND n m), s.get (F.CSTALL_SRC_IDX n m))

/-- A bind where a write has changed MODE, SRC_KIND or SRC and leaves the stall in ring mode (R251). -/
def State.bindIfChanged (s : State) (n m : Nat) (old : Nat × Nat × Nat) : State :=
  let new := s.sourceWritten n m
  if new ≠ old ∧ new.1 = 1 then s.startBind n m 0 (some (new.2.1, new.2.2)) else s

/-- A write of STALL.CTRL (R251, R278). -/
def State.writeStallCtrl (s : State) (n m : Nat) (w : Wr) : State :=
  s.guarded (G.CSTALL_CTRL n m) w fun s =>
    (s.plainWrite w (R.CSTALL_CTRL n m)).bindIfChanged n m (s.sourceWritten n m)

/-- A write of STALL.SRC (R251). -/
def State.writeStallSrc (s : State) (n m : Nat) (w : Wr) : State :=
  s.guarded (G.CSTALL_SRC n m) w fun s =>
    (s.plainWrite w (R.CSTALL_SRC n m)).bindIfChanged n m (s.sourceWritten n m)

/-- The reads of a bind: the buffer and its stamp, or a refusal. -/
def State.bindReads (s : State) (n : Nat) (b : Bind) : Bind × State :=
  match b.ring with
  | none =>
    match s.readStamp (pipeMaster n) b.addr with
    | (none, s) => ({ b with done := true, buf := some { addr := b.addr }, refused := true }, s)
    | (some t, s) => ({ b with done := true, buf := some { addr := b.addr }, stamp := some t }, s)
  | some (k, i) =>
    if !s.ringOk n k i then ({ b with done := true }, s)
    else match s.newest (s.ring k i) with
    | none => ({ b with done := true }, s)
    | some c =>
      match s.readSlot (pipeMaster n) k i c with
      | (none, s) => ({ b with done := true, refused := true }, s)
      | (some (buf, t), s) => ({ b with done := true, buf := some buf, stamp := some t }, s)

/-- The pipe makes memory accesses: its head runs (R355) and no replan has paused it (R272). -/
def State.pipeReads (s : State) (n : Nat) : Bool :=
  s.flag (F.HEAD_STAT_RUNNING n) && !(s.pipe n).paused

/-- The reads of the oldest pending bind end (SHADOW_BIND_DONE); those of a bind that has applied already give a stamp
that is valid from the next latch (R252). -/
def State.bindDone (s : State) (n m : Nat) : State :=
  let r := s.stall n m
  if !s.pipeReads n then s
  else match r.late with
  | some b =>
    if b.done then s
    else
      let (b, s) := s.bindReads n b
      let r := s.stall n m
      ((s.setStall n m { r with late := some b }).cond b.refused (·.postFetch n m)).stampPend n m
  | none =>
    match r.binds.find? (fun b => !b.done) with
    | none => s
    | some b =>
      let (b, s) := s.bindReads n b
      let r := s.stall n m
      (s.setStall n m { r with binds := r.binds.map (fun x => if x.id = b.id then b else x) }).stampPend n m

/-! ## Takes (R253) -/

/-- Stall `m` starts a take if its ring holds a published slot newer than its own. -/
def State.takeStall (s : State) (n m : Nat) : State :=
  let r := s.stall n m
  match s.follows n m with
  | none => s
  | some (k, i) =>
    if !s.ringOk n k i then s
    else match s.newest (s.ring k i) with
    | none => s
    | some c =>
      let cur := match r.buf with
        | some { ring := some (k', i', c'), .. } => if k' = k ∧ i' = i then some c' else none
        | _ => none
      if (match cur with | some c' => ahead c c' != 0 && decide (ahead c c' < 32768) | none => true) then
        s.setStall n m { r with take := some { slot := c } }
      else s

/-- The take point of a pipe. (DESIGN CHOICE, log 22.) -/
def State.takePoint (s : State) (n : Nat) : State :=
  if !s.hasPipe n || !s.pipeReads n then s
  else (List.range 8).foldl (fun s m => s.takeStall n m) s

/-- The two reads of a take end (TAKE_READ_DONE). -/
def State.takeRead (s : State) (n m : Nat) : State :=
  let r := s.stall n m
  match r.take, s.follows n m with
  | some t, some (k, i) =>
    if t.done || !s.pipeReads n then s
    else match s.readSlot (pipeMaster n) k i t.slot with
      | (none, s) => s.setStall n m { s.stall n m with take := some { t with done := true, refused := true } }
      | (some (b, st), s) =>
        s.setStall n m { s.stall n m with take := some { t with done := true, buf := some b, stamp := some st } }
  | _, _ => s

/-! ## Validity (R260) -/

/-- The stall is invalid by the values in force. -/
def State.stallInvalid (s : State) (n m : Nat) : Bool :=
  let cw := s.getLive (F.CSTALL_CROP_SIZE_W n m)
  let ch := s.getLive (F.CSTALL_CROP_SIZE_H n m)
  let dw := s.getLive (F.CSTALL_DST_SIZE_W n m)
  let dh := s.getLive (F.CSTALL_DST_SIZE_H n m)
  let mode := s.getLive (F.CSTALL_CTRL_MODE n m)
  let fmt := s.getLive (F.CSTALL_FORMAT_CODE n m)
  let pitch := s.getLive (F.CSTALL_PITCH_PITCH n m)
  cw == 0 || ch == 0 || dw == 0 || dh == 0 || decide (1 < mode) ||
  (mode == 0 && ((planesOf fmt).isEmpty ||
    (s.getLive (F.CSTALL_FORMAT_DBC n m) == 0 && pitch != 0 &&
      (planesOf fmt).zipIdx.any (fun (f, p) =>
        decide (pitch * 256 < (planeDims fmt p (s.getLive (F.CSTALL_SRC_SIZE_W n m)) 1).1 * f.size))))) ||
  (mode == 1 && !s.ringOk n (s.getLive (F.CSTALL_CTRL_SRC_KIND n m)) (s.getLive (F.CSTALL_SRC_IDX n m))) ||
  !(if (s.scalerOf n m).isSome then scalerOk cw ch dw dh else areaOk cw ch dw dh)

/-! ## Applying and retiring buffers (R251 to R254, R273, R864) -/

/-- HAS_BUF and CUR_SLOT (R280). -/
def State.bufStat (s : State) (n m : Nat) : State :=
  let b := (s.stall n m).buf
  let s := s.put (F.CSTALL_STAT_HAS_BUF n m) b.isSome
  s.set (F.CSTALL_STAT_CUR_SLOT n m) (match b with | some { ring := some (_, _, c), .. } => c | _ => 0)

/-- The stall stops using its buffer (R273). -/
def State.retire (s : State) (n m : Nat) : State :=
  let r := s.stall n m
  match r.buf with
  | none => s
  | some b =>
    let s := (s.setStall n m { r with buf := none }).bufStat n m
    let s := match b.ring with
      | none => (s.setWord (R.CSTALL_RETIRED_LO n m) (b.addr % 2 ^ 32)).setWord (R.CSTALL_RETIRED_HI n m)
          (b.addr / 2 ^ 32 % 256)
      | some (_, _, c) => (s.setWord (R.CSTALL_RETIRED_LO n m) c).setWord (R.CSTALL_RETIRED_HI n m) 0
    let s := s.setWord (R.CSTALL_RETIRE_FRAME n m) (s.word (R.FRESH_LATCH_CNT_LO n))
    s.raise (F.CSTALL_STAT_RETIRE_EV n m)

/-- The stamp copy changed; it reaches the STAMP registers at once (R40). (DEDUCED, log 38.) -/
def State.copyStamp (s : State) (n m : Nat) (t : Option Stamp) : State :=
  (s.setFstall n m { s.fstall n m with stamp := t }).putStamp n m t

/-- A buffer applies with its stamp. -/
def State.bindBuf (s : State) (n m : Nat) (b : Buf) (t : Option Stamp) : State :=
  ((s.setStall n m { s.stall n m with buf := some b }).bufStat n m).copyStamp n m t

/-- The stall holds no buffer. -/
def State.dropBuf (s : State) (n m : Nat) : State :=
  (s.retire n m).copyStamp n m none

/-- A bind applies at the latch at which its commit applies (R251, R252). (DEDUCED, log 38.) -/
def State.applyBind (s : State) (n m : Nat) (b : Bind) : State :=
  let same := match (s.stall n m).buf, b.ring with
    | some { addr := a, ring := none, .. }, none => a == b.addr
    | _, _ => false
  let s := if same then s else s.retire n m
  let s := if b.done then
      match b.buf with
      | some buf => s.bindBuf n m buf b.stamp
      | none => s.copyStamp n m none
    else match b.ring with
      | none => (s.bindBuf n m { addr := b.addr } none).setStall n m
          { (s.bindBuf n m { addr := b.addr } none).stall n m with late := some b }
      | some _ => s.copyStamp n m none
  s.cond b.refused (·.postFetch n m)

/-- A completed take applies (R253, R275); one that is not complete is counted. (DEDUCED, log 38.) -/
def State.applyTake (s : State) (n m : Nat) (t : Take) : State :=
  if !t.done then (s.inc (F.CSTALL_TAKE_LATE_CNT n m)).raise (F.CSTALL_STAT_TAKE_LATE_EV n m)
  else match t.buf with
  | none => (s.copyStamp n m none).postFetch n m
  | some b => ((s.retire n m).bindBuf n m b t.stamp).inc (F.CSTALL_TAKES_CNT n m)

/-- What a stall's values in force say of its source: enabled, MODE, SRC_KIND, SRC. -/
structure SrcSel where
  on : Bool
  mode : Nat
  kind : Nat
  src : Nat
deriving DecidableEq, Repr

def State.srcSel (s : State) (n m : Nat) : SrcSel :=
  ⟨s.judged n m, s.getLive (F.CSTALL_CTRL_MODE n m), s.getLive (F.CSTALL_CTRL_SRC_KIND n m),
   s.getLive (F.CSTALL_SRC_IDX n m)⟩

/-- The source changed (R50): MODE, or in ring mode SRC_KIND or SRC. -/
def SrcSel.changed (a b : SrcSel) : Bool :=
  a.mode != b.mode || (b.mode == 1 && (a.kind != b.kind || a.src != b.src))

/-- A stall at a latch, after the commit's values: buffer, stamp and fresh state. `bind` is the bind that the snapshot
applies; a stall in ring mode takes no slot at the latch that enables it (R864). -/
def State.stallLatch (s : State) (n m : Nat) (old : SrcSel) (bind : Option Bind) : State :=
  let new := s.srcSel n m
  let r := s.stall n m
  let take := r.take
  let ring0 := match r.buf with | some { ring := some x, .. } => some x | _ => none
  let s := s.setStall n m { r with take := none, faulted := false, rows := [], lines := [] }
  let changed := old.changed new
  let bind := bind.filter (fun b => if new.mode = 1 then b.ring == some (new.kind, new.src) else b.ring.isNone)
  let s := match r.late with
    | some b => if b.done then (s.setStall n m { s.stall n m with late := none }).copyStamp n m b.stamp else s
    | none => s
  let s := if !new.on then (s.dropBuf n m).setStall n m { (s.dropBuf n m).stall n m with late := none }
    else if !old.on && new.mode == 1 then s.dropBuf n m
    else match bind with
    | some b => s.applyBind n m b
    | none =>
      if changed || !old.on then s.dropBuf n m
      else match take with
      | some t => s.applyTake n m t
      | none => s
  let s := s.stampPend n m
  let s := s.cond (new.on && changed) fun s => s.setFstall n m { s.fstall n m with rebound := true }
  match ring0 with
  | some (k, i, c) =>
    match (s.stall n m).buf with
    | some { ring := some x, .. } => if x = (k, i, c) then s else s.slotRetired k i c
    | _ => s.slotRetired k i c
  | none => s

/-- Validity at the latch (R260): an invalid stall posts FETCH_FAULT at every latch. (DEDUCED, log 38.) -/
def State.stallCheck (s : State) (n m : Nat) : State :=
  if !s.judged n m then s.drop (F.CSTALL_STAT_CFG_ERR n m)
  else
    let inj := s.injArmed 0x12 (n * 8 + m)
    let s := s.injSpend 0x12 (n * 8 + m)
    let bad := inj || s.stallInvalid n m
    (s.put (F.CSTALL_STAT_CFG_ERR n m) bad).cond bad fun s =>
      (s.postFetch n m).detectWith inj 0x12 (n * 8 + m) (s.word (R.HEAD_FRAME_CNT n))

end Sys2Proof.Machine
end

