-- ==== Sys2Proof/Machine/Compose.lean ====
section
/-! DEFINITION. What a stall draws (chapter 05): fetch, key, chroma, scaling, conversion and alpha of one destination row
(R256 to R267), composition of a pipe's pixels (R236), and write-back (R268 to R271). -/

namespace Sys2Proof.Machine

/-- A pixel: 8-bit alpha and three 12-bit components. -/
abbrev Px := Nat × Nat × Nat × Nat

/-! ## Geometry -/

/-- Destination rectangle clipped to the active area, as x, y, width and height (R279, R287). -/
def clipRect (hAct vAct x y w h : Nat) : Nat × Nat × Nat × Nat :=
  (x, y, min (x + w) hAct - min x hAct, min (y + h) vAct - min y vAct)

def State.hActive (s : State) (n : Nat) : Nat := s.getLive (F.HEAD_TIMING_H_H_ACTIVE n)
def State.vActive (s : State) (n : Nat) : Nat := s.getLive (F.HEAD_TIMING_V_V_ACTIVE n)

/-- Mark rectangle of a stall (R287). -/
def State.markRect (s : State) (n m : Nat) : Nat × Nat × Nat × Nat :=
  clipRect (s.hActive n) (s.vActive n) (s.getLive (F.CSTALL_DST_POS_X n m)) (s.getLive (F.CSTALL_DST_POS_Y n m))
    (s.getLive (F.CSTALL_DST_SIZE_W n m)) (s.getLive (F.CSTALL_DST_SIZE_H n m))

/-- The rectangle is empty. -/
def emptyRect (r : Nat × Nat × Nat × Nat) : Bool :=
  r.2.2.1 == 0 || r.2.2.2 == 0

/-- A pixel lies in a rectangle. -/
def inRect (r : Nat × Nat × Nat × Nat) (x y : Nat) : Bool :=
  r.1 ≤ x && x < r.1 + r.2.2.1 && r.2.1 ≤ y && y < r.2.1 + r.2.2.2

/-- Surface and source offsets of a stall's buffer in force (R250). -/
def State.stallSurf (s : State) (n m : Nat) : Option (Surf × Nat × Nat) :=
  match (s.stall n m).buf with
  | none => none
  | some b =>
    if b.ring.isSome then some (⟨b.addr, b.format, b.dbc, b.width, b.height, 0⟩, b.srcX, b.srcY)
    else some (⟨b.addr, s.getLive (F.CSTALL_FORMAT_CODE n m), s.getLive (F.CSTALL_FORMAT_DBC n m) == 1,
                s.getLive (F.CSTALL_SRC_SIZE_W n m), s.getLive (F.CSTALL_SRC_SIZE_H n m),
                s.getLive (F.CSTALL_PITCH_PITCH n m)⟩, 0, 0)

/-! ## One source pixel -/

/-- Lines held by a stall's line buffer. -/
abbrev Lines := List (Nat × List (Option Nat))

/-- Element `x` of line `y` of plane `p`, if it has been fetched whole. -/
def Lines.at (ls : Lines) (p x y : Nat) : Option Nat :=
  match ls.find? (fun e => e.1 == p * 65536 + y) with
  | some (_, es) => nth none es x
  | none => none

/-- Widths and values of red, green and blue of an RGB element, and its alpha at 8 bits (R239, R264). -/
def rgbOf (fmt e : Nat) : Nat × (Nat × Nat) × (Nat × Nat) × (Nat × Nat) :=
  match fmt with
  | 2 => (bitsOf e 31 24, (8, bitsOf e 23 16), (8, bitsOf e 15 8), (8, bitsOf e 7 0))
  | 3 => (bitsOf e 31 30 * 85, (10, bitsOf e 29 20), (10, bitsOf e 19 10), (10, bitsOf e 9 0))
  | 4 => (255, (5, bitsOf e 15 11), (6, bitsOf e 10 5), (5, bitsOf e 4 0))
  | _ => (255, (8, bitsOf e 23 16), (8, bitsOf e 15 8), (8, bitsOf e 7 0))

/-- Width of a YCbCr format's samples. -/
def yuvBits (fmt : Nat) : Nat :=
  if fmt = 6 then 8 else 10

/-- Cb and Cr of an element of plane 1. -/
def chromaOf (fmt e : Nat) : Nat × Nat :=
  if fmt = 6 then (bitsOf e 7 0, bitsOf e 15 8) else (bitsOf e 9 0, bitsOf e 25 16)

/-- An interpolated sample from its weighted sum in eighths of 12-bit units (R242). -/
def eighth (v : Nat) : Nat :=
  if v % 8 = 0 then v / 8 else v / 8 + Config.chromaRound v % 2

/-- Lines of plane 1 that interpolate the chroma of luma line `y`, with weights in quarters (R242). -/
def chromaLines (fmt h y : Nat) : List (Nat × Nat) :=
  if half420 fmt then
    let last := ceilDiv h 2 - 1
    if y % 2 = 0 then [(y / 2, 3), (y / 2 - 1, 1)] else [(y / 2, 3), (min (y / 2 + 1) last, 1)]
  else [(y, 4)]

/-- Elements of plane 1 that interpolate the chroma of column `x`, with weights in halves. -/
def chromaCols (w x : Nat) : List (Nat × Nat) :=
  if x % 2 = 0 then [(x / 2, 2)] else [(x / 2, 1), (min (x / 2 + 1) (ceilDiv w 2 - 1), 1)]

/-- A colour-key match (R263). -/
def keyMatch (key mask c0 c1 c2 : Nat) : Bool :=
  let v := c0 * 2 ^ 20 + c1 * 2 ^ 10 + c2
  BitVec.ofNat 30 v &&& BitVec.ofNat 30 mask == BitVec.ofNat 30 key &&& BitVec.ofNat 30 mask

/-- Key and alpha options of a stall in force: key (value, mask) and per-pixel alpha. -/
structure PxOpts where
  key : Option (Nat × Nat)
  ppa : Bool
deriving DecidableEq, Repr

def State.pxOpts (s : State) (n m : Nat) : PxOpts :=
  ⟨if s.getLive (F.CSTALL_CTRL_KEY_EN n m) = 1 then
      some (s.getLive (F.CSTALL_KEY_KEY n m), s.getLive (F.CSTALL_KEY_MASK_MASK n m)) else none,
   s.getLive (F.CSTALL_CTRL_PPA_EN n m) == 1⟩

/-- Alpha of a pixel after the key test (R263, R264). -/
def PxOpts.alpha (o : PxOpts) (fmt a c0 c1 c2 : Nat) : Nat :=
  if (match o.key with | some (k, msk) => keyMatch k msk c0 c1 c2 | none => false) then 0
  else if o.ppa && hasAlpha fmt then a else 255

/-- The source pixel at (x, y) of a picture after key and chroma upsampling, at 12 bits (R242, R263, R266); none outside
the picture or in a tile with a DBC error. (DEDUCED, log 36.) -/
def sourcePx (f : Surf) (ls : Lines) (o : PxOpts) (x y : Nat) : Option Px :=
  if f.w ≤ x ∨ f.h ≤ y then none
  else match ls.at 0 x y with
  | none => none
  | some e =>
    if isYuv f.fmt then
      let b := yuvBits f.fmt
      let cy := e % 2 ^ b
      let parts := (chromaLines f.fmt f.h y).flatMap (fun (j, wj) => (chromaCols f.w x).map (fun (i, wi) => (i, j, wi * wj)))
      let got := parts.map (fun (i, j, w) => (ls.at 1 i j).map (fun c => (chromaOf f.fmt c, w)))
      match ls.at 1 (x / 2) (if half420 f.fmt then y / 2 else y) with
      | none => none
      | some c =>
        if got.any (·.isNone) then none
        else
          let sum := fun (sel : Nat × Nat → Nat) =>
            eighth (got.foldl (fun v g => match g with | some (c, w) => v + sel c * 2 ^ (12 - b) * w | none => v) 0)
          let k := 2 ^ (10 - b)
          some (o.alpha f.fmt 255 (cy * k) ((chromaOf f.fmt c).1 * k) ((chromaOf f.fmt c).2 * k),
                cy * 2 ^ (12 - b), sum (·.1), sum (·.2))
    else
      let (a, r, g, b) := rgbOf f.fmt e
      some (o.alpha f.fmt a (widen r.1 10 r.2) (widen g.1 10 g.2) (widen b.1 10 b.2),
            widen r.1 12 r.2, widen g.1 12 g.2, widen b.1 12 b.2)

/-! ## One destination row -/

/-- Taps of one direction of a stall, in crop samples: a scaler unit's or the area filter's. -/
def State.tapsAt (s : State) (unit : Option Nat) (dir nIn nOut i : Nat) : List (Nat × Int) :=
  match unit with
  | some k =>
    let (taps, c0) := tapsOf dir
    polyTaps nIn nOut c0 taps i (fun ph t => s.coef k (s.get (F.SP_STAT_BANK k)) dir (ph * taps + t))
  | none => areaTaps nIn nOut i

/-- One output pixel from its row and column taps. A scaler unit filters horizontally, then vertically, and rounds after
each pass (R327); R262 does not say in what order a stall's area filter works nor where it rounds, and the model takes
the same. (DESIGN CHOICE, log 82.) -/
def filterPx (scaled : Bool) (px : Nat → Nat → Option Px) (cols rows : List (Nat × Int)) : Option Px :=
  let need := rows.flatMap (fun (j, wj) => cols.filterMap (fun (i, wi) =>
    if wi = 0 ∨ wj = 0 then none else some (px i j)))
  if need.any (·.isNone) then none
  else
    let at' := fun (sel : Px → Nat) => weigh rows (fun j => weigh cols (fun i => ((px i j).map sel).getD 0))
    let a := if scaled then min 255 ((at' (fun p => widen 8 12 p.1) + 8) / 16) else at' (·.1)
    some (a, at' (·.2.1), at' (·.2.2.1), at' (·.2.2.2))

/-- Source lines of a picture that destination row `j` of a stall needs, as (plane, line). -/
def neededLines (f : Surf) (oy : Nat) (rows : List (Nat × Int)) : List (Nat × Nat) :=
  let ys := (rows.map (fun (j, _) => oy + j)).filter (· < f.h)
  let p1 := if (planesOf f.fmt).length = 2 then ys.flatMap (fun y => (chromaLines f.fmt f.h y).map (fun (j, _) => (1, j))) else []
  (ys.map (fun y => (0, y)) ++ p1).eraseDups

/-- Lines of a fetch added to a line buffer. -/
def Lines.addAll (ls : Lines) (p y0 : Nat) (new : List (List (Option Nat))) : Lines :=
  ls ++ (new.zipIdx.map (fun (l, i) => (p * 65536 + y0 + i, l)))

/-- Tiles of a fetch with a DBC error (R249). -/
def State.dbcErrors (s : State) (n m : Nat) (inj : Bool) (bad : List Nat) : State :=
  bad.foldl (fun s t =>
    (((s.inc (F.CSTALL_DBC_ERRS_CNT n m)).raise (F.CSTALL_STAT_DBC_EV n m)).postFetch n m).detectWith inj 0x11
      (n * 8 + m) t) s

/-- Lines fetched into a stall's line buffer until one is refused (R257, R259): whether all came. -/
def State.fetchLines (s : State) (n m : Nat) (f : Surf) (need : List (Nat × Nat)) : Bool × State :=
  need.foldl (fun (ok, s) (p, y) =>
    if !ok || ((s.stall n m).lines.any (fun e => e.1 == p * 65536 + y)) then (ok, s)
    else
      let dbcInj := f.dbc && s.injArmed 0x11 (n * 8 + m)
      let s := s.cond f.dbc (·.injSpend 0x11 (n * 8 + m))
      match s.fetchLine (pipeMaster n) f p y with
      | (.refused, s) => (false, s)
      | (.lines y0 bad ls, s) =>
        let bad := if dbcInj ∧ bad.isEmpty then [y / 4 * (f.tiles p).1] else bad
        let ls := if dbcInj then ls.map (fun l => List.replicate (min 16 l.length) none ++ l.drop 16) else ls
        let r := s.stall n m
        (true, (s.setStall n m { r with lines := Lines.addAll r.lines p y0 ls }).dbcErrors n m dbcInj bad)) (true, s)

/-- The stall fetches in the frame being composed. -/
def State.fetching (s : State) (n m : Nat) : Bool :=
  s.judged n m && s.flag (F.HEAD_STAT_RUNNING n) && !(s.pipe n).paused && s.get (F.HEAD_PSR_STAT_STATE n) != 2 &&
  !s.flag (F.CSTALL_STAT_CFG_ERR n m) && (s.stall n m).buf.isSome && !(s.stall n m).faulted

/-- Head line `y` of a stall fetched, decoded and composed (STALL_FETCH_RETURN, R256, R257). (DEDUCED, log 36.) -/
def State.fetchRow (s : State) (n m y : Nat) : State :=
  let rect := s.markRect n m
  if !s.fetching n m || !inRect rect rect.1 y || (s.stall n m).rows.any (fun l => l.y == y) then s
  else match s.stallSurf n m with
  | none => s
  | some (f, sx, sy) =>
    let inj := s.injArmed 0x10 (n * 8 + m)
    let s := s.injSpend 0x10 (n * 8 + m)
    if inj then s.fetchFaulted n m true
    else
      let unit := s.scalerOf n m
      let cw := s.getLive (F.CSTALL_CROP_SIZE_W n m)
      let ch := s.getLive (F.CSTALL_CROP_SIZE_H n m)
      let ox := sx + s.getLive (F.CSTALL_CROP_POS_X n m)
      let oy := sy + s.getLive (F.CSTALL_CROP_POS_Y n m)
      let rows := s.tapsAt unit 1 ch (s.getLive (F.CSTALL_DST_SIZE_H n m)) (y - rect.2.1)
      match s.fetchLines n m f (neededLines f oy rows) with
      | (false, s) => s.fetchFaulted n m false
      | (true, s) =>
        let o := s.pxOpts n m
        let ls := (s.stall n m).lines
        let px := fun i j => sourcePx f ls o (ox + i) (oy + j)
        let row := (List.range rect.2.2.1).map (fun i =>
          (filterPx unit.isSome px (s.tapsAt unit 0 cw (s.getLive (F.CSTALL_DST_SIZE_W n m)) i) rows).map (fun (a, c) =>
            (a, cscApply (fun k => (s.live (R.CSTALL_CSC n m k)).toNat) c)))
        s.setStall n m { s.stall n m with rows := (s.stall n m).rows ++ [{ y := y, x := rect.1, px := row }] }

/-- A fetch of a stall is refused or fails (STALL_FETCH_FAULT, R259). (DESIGN CHOICE, log 42.) -/
def State.fetchFails (s : State) (n m : Nat) : State :=
  if s.fetching n m then s.fetchFaulted n m false else s

/-! ## Composition (R236) -/

/-- One stall over a pixel of its pipe; none where its row has not been fetched. -/
def State.overStall (s : State) (n x y m : Nat) (d : Nat × Nat × Nat) : Option (Nat × Nat × Nat) :=
  let r := s.stall n m
  let fill := rgb30 (s.getLive (F.CSTALL_FALLBACK_RGB n m))
  if !inRect (s.markRect n m) x y then some d
  else if s.flag (F.CSTALL_STAT_CFG_ERR n m) || r.buf.isNone then some fill
  else match r.rows.find? (fun l => l.y == y) with
  | some l =>
    match nth none l.px (x - l.x) with
    | none => some fill
    | some (a, c) => some (blendPx (s.getLive (F.CSTALL_CTRL_PREMULT n m) == 1)
        (s.getLive (F.CSTALL_ALPHA_PLANE_ALPHA n m)) a c d)
  | none => if r.faulted then some fill else none

/-- A pixel of the composed picture, awning apart; none where a stall's row has not been fetched. -/
def State.composed (s : State) (n x y : Nat) : Option (Nat × Nat × Nat) :=
  (s.judgedList n).foldl (fun p m => match p with | some d => s.overStall n x y m d | none => none)
    (some (rgb30 (s.getLive (F.COMP_BG_RGB n))))

/-- A pixel of the composed picture, free where a row has not been fetched. (DESIGN CHOICE, log 42.) -/
def State.composedOr (s : State) (n x y : Nat) : Nat × Nat × Nat :=
  (s.composed n x y).getD (s.freeValue 12, s.freeValue 24 / 4096, s.freeValue 36 / 2 ^ 24)

/-! ## Write-back -/

/-- Contributing stalls of a latch (R38). -/
def State.contributing (s : State) (n : Nat) : List Nat :=
  (s.judgedList n).filter (fun m => !emptyRect (s.markRect n m))

/-- The stamp of a frame written back (R38), its SIGNATURE still to come. -/
def State.wbStamp (s : State) (n : Nat) : Stamp :=
  let live := (s.contributing n).filter (s.liveClass n)
  let best := live.foldl (fun (b : Option (Nat × Stamp)) m =>
    let age := s.word (R.FSTALL_AGE n m)
    match (s.fstall n m).stamp with
    | some t => if age = 0xFFFFFFFF then b
                else match b with
                | some (a, _) => if a < age then some (age, t) else b
                | none => some (age, t)
    | none => b) none
  let p := s.pipe n
  { sourceId := s.get (F.COMP_WB_IDENT_SOURCE_ID n), tb := match best with | some (_, t) => t.tb | none => 0,
    captureTime := match best with | some (_, t) => t.captureTime | none => s.tb48 0, seq := p.seq, alive := p.alive,
    degraded := live.any (fun m => s.get (F.FSTALL_STATUS_SHOWN n m) != 0), overrun := false, arrivalTimed := false,
    concealed := false, signature := 0 }

/-- A write-back frame dropped (R271). -/
def State.wbDrop (s : State) (n seq : Nat) (inj : Bool) : State :=
  ((s.inc (F.COMP_WB_DROPS_CNT n)).raise (F.COMP_WB_STAT_DROP_EV n)).detectWith inj 0x13 n seq

/-- Write-back at a latch (R269, R270, R282): EN takes effect, a slot is claimed or the frame dropped. (DEDUCED, log 38.) -/
def State.wbLatch (s : State) (n : Nat) : State :=
  if !s.hasWb n then s
  else
    let en := s.flag (F.COMP_WB_CTRL_EN n)
    let p := s.pipe n
    let s := if en && p.wbPend then
        let s := (((s.set (F.COMP_WB_WR_IDX_IDX n) 0).set (F.COMP_WB_RD_IDX_IDX n) 0).set (F.COMP_WB_FRAMES_CNT n) 0).set
          (F.COMP_WB_DROPS_CNT n) 0
        { s.setPipe n { p with seq := 0, alive := 0 } with
          ringRetired := Tbl.del s.ringRetired (ringKey 2 n) }
      else s
    let p := { s.pipe n with wbPend := false }
    let s := (s.setPipe n p).put (F.COMP_WB_STAT_ACTIVE n) en
    if !en then s
    else
      let t := s.wbStamp n
      let s := s.setPipe n { p with seq := (p.seq + 1) % 2 ^ 24, alive := (p.alive + 1) % 16 }
      let inj := s.injArmed 0x13 n
      let s := s.injSpend 0x13 n
      let r := s.ring 2 n
      let wr := s.get r.wr
      if inj || ahead wr (s.get r.rd) = 2 ^ r.log2 then s.wbDrop n t.seq inj
      else
        let arr := if s.tbInUse t.tb then s.tb48 t.tb else 0
        s.setPipe n { s.pipe n with wb := some { slot := wr, stamp := t, arrival := arr } }

/-- A 12-bit component rounded to `b` bits. (PRESUMED, log 37.) -/
def roundTo (b v : Nat) : Nat :=
  min ((v + 2 ^ (11 - b)) / 2 ^ (12 - b)) (2 ^ b - 1)

/-- A written-back RGB pixel (R269). R269 does not state its alpha: it is opaque, 0xFF or 0b11. (PRESUMED, log 37;
DESIGN CHOICE, log 82.) -/
def wbRgb (fmt : Nat) (p : Nat × Nat × Nat) : Nat :=
  if fmt = 2 then 0xFF * 2 ^ 24 + roundTo 8 p.1 * 2 ^ 16 + roundTo 8 p.2.1 * 2 ^ 8 + roundTo 8 p.2.2
  else 3 * 2 ^ 30 + roundTo 10 p.1 * 2 ^ 20 + roundTo 10 p.2.1 * 2 ^ 10 + roundTo 10 p.2.2

/-- Elements of a written-back frame (R269): plane, column, line. (PRESUMED, log 37.) -/
def State.wbPlane (s : State) (n fmt p x y : Nat) : Nat :=
  let yuv := fun x y => cscApply (fun k => s.word (R.COMP_WB_CSC n k)) (s.composedOr n x y)
  let b := yuvBits fmt
  if !isYuv fmt then wbRgb fmt (s.composedOr n x y)
  else if p = 0 then roundTo b (yuv x y).1
  else
    let v1 := min (2 * y + 1) (s.vActive n - 1)
    let four := [yuv (2 * x) (2 * y), yuv (2 * x + 1) (2 * y), yuv (2 * x) v1, yuv (2 * x + 1) v1]
    let mean := fun (sel : Nat × Nat × Nat → Nat) => (four.foldl (fun a q => a + sel q) 0 + 2) / 4
    roundTo b (mean (·.2.1)) + roundTo b (mean (·.2.2)) * (if fmt = 6 then 2 ^ 8 else 2 ^ 16)

/-- The frame written back becomes visible, or is dropped where a write is refused (WB_PUBLISH, R270, R271). -/
def State.wbPublish (s : State) (n : Nat) : State :=
  match (s.pipe n).wb with
  | none => s
  | some f =>
    let r := s.ring 2 n
    let fmt := s.get (F.COMP_WB_CTRL_FORMAT n)
    let k := f.slot % 2 ^ r.log2
    let base := s.addrPair (R.COMP_WB_DATA_LO n) (R.COMP_WB_DATA_HI n) + k * s.get (F.COMP_WB_RING_BUF_PAGES n) * 4096
    let surf : Surf := ⟨base, fmt, s.flag (F.COMP_WB_CTRL_DBC n), s.hActive n, s.vActive n, 0⟩
    let data := s.wbPlane n fmt
    let t := { f.stamp with
      signature := signatureOf (thumbnail surf.w surf.h (fun x y => lumaElem fmt (data 0 x y))) }
    let s := s.setPipe n { s.pipe n with wb := none }
    let desc : Desc := { stamp := t, dataLen := k, arrival := f.arrival }
    let (ok, s') := s.writeAll (pipeMaster n)
      (surf.writes data ++ [(base, t.bytes), (r.base + k * 64, desc.bytes)])
    let s := s'.useFree
    if ok then (s.bump r.wr).inc (F.COMP_WB_FRAMES_CNT n) else s.wbDrop n t.seq false

/-- A write of WB_CTRL (R281, R282, R283). -/
def State.writeWbCtrl (s : State) (n : Nat) (w : Wr) : State :=
  s.guarded (G.COMP_WB_CTRL n) w fun s =>
    let v := w.data.toNat
    let log2 := s.get (F.COMP_WB_RING_DESC_LOG2 n)
    let rise := bitOf v 31 && !s.flag (F.COMP_WB_CTRL_EN n)
    if rise && !(1 ≤ log2 && log2 ≤ 12) then
      ((s.plainWrite ⟨w.master, BitVec.ofNat 32 (v % 2 ^ 31)⟩ (R.COMP_WB_CTRL n))).raise (F.COMP_WB_STAT_CFG_REJ n)
    else if bitOf v 31 && (!(([2, 3, 6, 7] : List Nat).contains (v % 16)) || (rise && s.inUseClash (.wb n) (s.wbAreas n))) then
      s.unpredictable w.master (R.COMP_INFO n) (R.COMP_INFO n + 0x3FFF)
    else (s.plainWrite w (R.COMP_WB_CTRL n)).cond rise (fun s => s.setPipe n { s.pipe n with wbPend := true })

end Sys2Proof.Machine
end

