-- ==== Sys2Proof/Machine/AwningOps.lean ====
section
/-! DEFINITION. The awning (chapter 06): glyph sets and bundles, the elements of a frame, candidates and picks, the vote on
a pixel, and installs. -/

namespace Sys2Proof.Machine

/-! ## Glyph sets (R302 to R305) -/

/-- First byte of bundle region `k`. -/
def regionBase (k : Nat) : Nat :=
  awnBase + k * 0x10000

/-- A little-endian number of a bundle's header. -/
def State.bundleNum (s : State) (k o n : Nat) : Nat :=
  natLE (s.bytes (regionBase k + o) n)

/-- Width and height of a glyph cell: of the bundle in a region, or of the ROM set. -/
def State.cellSize (s : State) (region : Option Nat) : Nat × Nat :=
  match region with
  | some k => (s.bundleNum k 0xA 1, s.bundleNum k 0xB 1)
  | none => (8, 16)

/-- Width and height of an indicator frame. -/
def State.indSize (s : State) (region : Option Nat) : Nat × Nat :=
  match region with
  | some k => (s.bundleNum k 0x18 1, s.bundleNum k 0x19 1)
  | none => (16, 16)

/-- A bit of a bitmap whose rows are whole bytes, bit 7 leftmost (R303). -/
def bitmapAt (bs : List Byte) (w x y : Nat) : Bool :=
  bitOf (nth 0 bs (y * ceilDiv w 8 + x / 8)).toNat (7 - x % 8)

/-- Bitmap of a character (its code) or of an indicator frame (0x100 and the frame) that an awning has fetched. -/
def AwnRec.bitmap (a : AwnRec) (key : Nat) : List Byte :=
  ((a.glyphs.find? (fun g => g.1 == key)).map (·.2)).getD []

/-- Where the store holds a bitmap of a region, and its length (R303). -/
def State.bitmapPlace (s : State) (k key : Nat) : Nat × Nat :=
  if key < 0x100 then
    let n := (s.cellSize (some k)).2 * ceilDiv (s.cellSize (some k)).1 8
    (regionBase k + s.bundleNum k 0x10 4 + (key - 0x20) * n, n)
  else
    let n := (s.indSize (some k)).2 * ceilDiv (s.indSize (some k)).1 8
    (regionBase k + s.bundleNum k 0x14 4 + (key - 0x100) * n, n)

/-- A pixel of a character's glyph; characters outside the set show as spaces. -/
def State.glyphAt (s : State) (a : AwnRec) (c x y : Nat) : Bool :=
  if c < 0x20 ∨ 0x7E < c then false
  else match a.region with
  | some k => bitmapAt (a.bitmap c) (s.cellSize (some k)).1 x y
  | none => Config.romGlyph c y x

/-- A pixel of an indicator frame. -/
def State.indAt (s : State) (a : AwnRec) (frame x y : Nat) : Bool :=
  match a.region with
  | some k => bitmapAt (a.bitmap (0x100 + frame)) (s.indSize (some k)).1 x y
  | none => Config.romGlyph (0x100 + frame) y x

/-- Identifier of the awning engine's checker (R575). -/
def awnMaster : Nat := 0xC

/-- A bitmap read through the awning engine's checker, access by access (R286); a refused or failed access gives the
pattern of R561 and R577, and that is drawn. -/
def State.readBitmap (s : State) (place : Nat × Nat) : List Byte × State :=
  (pieces (place.2 + 1) place.1 place.2).foldl (fun (bs, s) (b, k) =>
    let (x, s) := s.readOne awnMaster b k
    (bs ++ x.data, s)) ([], s)

/-- Bitmaps that an element is drawn with. -/
def Elem.bitmaps (e : Elem) : List Nat :=
  match e.kind with
  | .text cs => cs.filter (fun c => 0x20 ≤ c && c ≤ 0x7E)
  | .indicator f => [0x100 + f]
  | _ => []

/-- The bitmaps of a frame's elements fetched from the bundle in force, each once in the frame (R286). How often the engine
reads a bitmap is not stated. (DESIGN CHOICE, log 83.) -/
def State.fetchBitmaps (s : State) (n : Nat) (es : List Elem) : State :=
  match (s.awn n).region with
  | none => s
  | some k =>
    (es.flatMap Elem.bitmaps).eraseDups.foldl (fun s key =>
      if (s.awn n).glyphs.any (fun g => g.1 == key) then s
      else
        let (bs, s) := s.readBitmap (s.bitmapPlace k key)
        s.setAwn n { s.awn n with glyphs := (s.awn n).glyphs ++ [(key, bs)] }) s

/-! ## Texts (R292 to R295) -/

/-- Codes of characters. -/
def codes (cs : List Char) : List Nat :=
  cs.map Char.toNat

/-- Decimal digits of a number. -/
def digits (v : Nat) : List Nat :=
  (Nat.digits 10 v).reverse.map (· + 48) |> fun l => if l.isEmpty then [48] else l

/-- A number in tenths, with its unit. -/
def tenths (t : Nat) (unit : List Nat) : List Nat :=
  digits (t / 10) ++ [46, 48 + t % 10] ++ unit

/-- Readout text of an age and a reason vector, bit 0 for STATUS bit 16 (R292). -/
def readout (age reasons : Nat) : List Nat :=
  let part := if age = 0xFFFFFFFF then codes ['-', '-', '.', '-', 'm', 's']
    else if age ≤ 999900 then tenths (ceilDiv age 100) (codes ['m', 's'])
    else if age ≤ 99900000 then tenths (ceilDiv age 100000) (codes ['s'])
    else digits (ceilDiv age 1000000) ++ codes ['s']
  let why := [('B', 0), ('D', 1), ('T', 2), ('U', 3)].filterMap (fun (c, i) =>
    if bitOf reasons i then some c.toNat else none)
  if why.isEmpty then part else part ++ [32] ++ why

/-- Code of a LOST stall (R293). -/
def lostText (reasons : Nat) : List Nat :=
  if bitOf reasons 12 then codes ['V', 'O', 'T', 'E']
  else if bitOf reasons 11 then codes ['T', 'I', 'M', 'E']
  else if bitOf reasons 10 then codes ['A', 'L', 'I', 'V', 'E']
  else if bitOf reasons 9 then codes ['F', 'E', 'T', 'C', 'H']
  else if bitOf reasons 8 then codes ['U', 'N', 'P', 'L', 'U', 'G']
  else if bitOf reasons 7 then codes ['T', 'I', 'M', 'E', 'O', 'U', 'T']
  else if bitOf reasons 6 then codes ['N', 'O', 'S', 'T', 'A', 'M', 'P']
  else []

/-- Code of a missed deadline (R294). -/
def noverd : List Nat :=
  codes ['N', 'O', 'V', 'E', 'R', 'D']

/-- Two decimal digits. -/
def two (v : Nat) : List Nat :=
  [48 + v / 10 % 10, 48 + v % 10]

/-- The clock's text at a latch (R295). -/
def State.clockText (s : State) (n : Nat) : List Nat :=
  let t := s.get (F.AWN_LAYOUT_CLOCK_TB n)
  if s.tbLocked t then
    let sec : Int := (s.tbNs t / 1000000000 : Nat) + signed 32 (s.live (R.AWN_CLOCK_OFS n)).toNat
    let d := (sec % 86400).toNat
    two (d / 3600) ++ [58] ++ two (d / 60 % 60) ++ [58] ++ two (d % 60)
  else codes ['-', '-', ':', '-', '-', ':', '-', '-']

/-! ## The elements of a frame (R288 to R296) -/

/-- White, for the clock and the indicator. -/
def white : Nat := 0xFFFFFFFF

/-- Size of a text box: cells and a backing of 2 pixels (R290). -/
def State.boxSize (s : State) (region : Option Nat) (k : ElemKind) : Nat × Nat :=
  match k with
  | .text cs => (cs.length * (s.cellSize region).1 + 4, (s.cellSize region).2 + 4)
  | .indicator _ => ((s.indSize region).1 + 4, (s.indSize region).2 + 4)
  | _ => (0, 0)

/-- The mark of one stall with a shown verdict (R288). -/
def State.markElems (s : State) (n m shown : Nat) (lost : List Nat) : List Elem :=
  let r := s.markRect n m
  let bw := s.get (F.AWN_LAYOUT_BORDER_W n)
  let amber := s.word (R.AWN_AMBER n)
  if emptyRect r then []
  else match shown with
  | 1 =>
    { code := none, kind := .border bw, clip := r, argb := amber } ::
    (if bitOf (s.get (F.AWN_LAYOUT_ELEMENTS n)) 0 then
      [{ code := some (0x10 + m),
         kind := .text (readout (s.word (R.FSTALL_AGE n m)) (s.get (F.FSTALL_STATUS_REASONS n m))), clip := r,
         boxX := r.1 + bw, boxY := r.2.1 + bw, argb := amber }] else [])
  | 2 => [{ code := none, kind := .hatch (s.get (F.AWN_LAYOUT_HATCH_PITCH n)), clip := r, argb := s.word (R.AWN_HATCH n) }]
  | 3 =>
    let (w, h) := s.boxSize (s.awn n).region (.text lost)
    [{ code := some m, kind := .fill, clip := r, argb := s.word (R.AWN_SLATE n) },
     { code := none, kind := .text lost, clip := r, boxX := r.1 + ((r.2.2.1 : Int) - w) / 2,
       boxY := r.2.1 + ((r.2.2.2 : Int) - h) / 2, argb := amber }]
  | _ => []

/-- The clock and the live indicator (R295, R296). -/
def State.overlayElems (s : State) (n : Nat) : List Elem :=
  let e := s.get (F.AWN_LAYOUT_ELEMENTS n)
  let clip := (0, 0, s.hActive n, s.vActive n)
  (if bitOf e 1 then
    [{ code := some 0x20, kind := .text (s.clockText n), clip := clip, boxX := s.getLive (F.AWN_CLOCK_POS_X n),
       boxY := s.getLive (F.AWN_CLOCK_POS_Y n), argb := white }] else []) ++
  (if bitOf e 2 then
    [{ code := some 0x21, kind := .indicator (s.word (R.FRESH_LATCH_CNT_LO n) % 4), clip := clip,
       boxX := s.getLive (F.AWN_IND_POS_X n), boxY := s.getLive (F.AWN_IND_POS_Y n), argb := white }] else [])

/-- Judged stalls of a head whose mark is drawn and whose shown verdict is `v`. -/
def State.marked (s : State) (n v : Nat) : List Nat :=
  (s.judgedList n).filter (fun m => s.markOn n m && s.get (F.FSTALL_STATUS_SHOWN n m) == v)

/-- The elements of the frame after a latch, in the order of R291. -/
def State.awningElems (s : State) (n : Nat) : List Elem :=
  ([1, 2, 3].flatMap (fun v => (s.marked n v).flatMap (fun m =>
    s.markElems n m v (lostText (s.get (F.FSTALL_STATUS_REASONS n m)))))) ++ s.overlayElems n

/-- The elements of a frame whose verdicts missed the deadline (R294). (DEDUCED, log 39.) -/
def State.lateElems (s : State) (n : Nat) : List Elem :=
  ((s.judgedList n).filter (s.liveClass n)).flatMap (fun m => s.markElems n m 3 noverd) ++ s.overlayElems n

/-- A colour's red, green and blue at 12 bits. -/
def rgb8 (argb : Nat) : Nat × Nat × Nat :=
  (widen 8 12 (bitsOf argb 23 16), widen 8 12 (bitsOf argb 15 8), widen 8 12 (bitsOf argb 7 0))

/-- What an element contributes to a pixel: colour and blend factor of 0 to 256. -/
def State.elemAt (s : State) (a : AwnRec) (e : Elem) (x y : Nat) : Option ((Nat × Nat × Nat) × Nat) :=
  if !inRect e.clip x y then none
  else
    let (cx, cy, cw, ch) := e.clip
    let tint := some (rgb8 e.argb, factor (bitsOf e.argb 31 24))
    let boxed := fun (glyph : Nat → Nat → Bool) (k : ElemKind) =>
      let (w, h) := s.boxSize a.region k
      let bx := (x : Int) - e.boxX
      let byy := (y : Int) - e.boxY
      if 0 ≤ bx ∧ bx < w ∧ 0 ≤ byy ∧ byy < h then
        let inner := 2 ≤ bx ∧ bx < (w : Int) - 2 ∧ 2 ≤ byy ∧ byy < (h : Int) - 2
        if inner ∧ glyph (bx - 2).toNat (byy - 2).toNat then some (rgb8 e.argb, 256) else some ((0, 0, 0), 256)
      else none
    match e.kind with
    | .border bw => if min (min (x - cx) (cx + cw - 1 - x)) (min (y - cy) (cy + ch - 1 - y)) < bw then tint else none
    | .hatch p => if (x + y) % p < max 1 (p / 4) then tint else none
    | .fill => some (rgb8 e.argb, 256)
    | .text cs =>
      let w := (s.cellSize a.region).1
      boxed (fun gx gy => s.glyphAt a (nth 32 cs (gx / w)) (gx % w) gy) (.text cs)
    | .indicator f => boxed (fun gx gy => s.indAt a f gx gy) (.indicator f)

/-- The awning over a composed pixel (R284, R291, R298). -/
def State.awningOver (s : State) (n x y : Nat) (p : Nat × Nat × Nat) : Nat × Nat × Nat :=
  let a := s.awn n
  if a.splits.contains (x, y) then rgb8 (s.word (R.AWN_SLATE n))
  else a.elems.foldl (fun d e => match s.elemAt a e x y with
    | none => d
    | some (c, k) => (blend1 k k c.1 d.1, blend1 k k c.2.1 d.2.1, blend1 k k c.2.2 d.2.2)) p

/-! ## Candidates and picks (R311, R312) -/

/-- Rectangle of an element: the mark rectangle of a fill, else its text box clipped (R311). -/
def State.elemRect (s : State) (region : Option Nat) (e : Elem) : Nat × Nat × Nat × Nat :=
  match e.kind with
  | .fill => e.clip
  | k =>
    let (w, h) := s.boxSize region k
    let (cx, cy, cw, ch) := e.clip
    let x0 := max (cx : Int) e.boxX
    let y0 := max (cy : Int) e.boxY
    let x1 := min ((cx + cw : Nat) : Int) (e.boxX + w)
    let y1 := min ((cy + ch : Nat) : Int) (e.boxY + h)
    (x0.toNat, y0.toNat, (x1 - x0).toNat, (y1 - y0).toNat)

/-- Pixels of a rectangle in raster order. -/
def rectPixels (r : Nat × Nat × Nat × Nat) : List (Nat × Nat) :=
  (List.range r.2.2.2).flatMap (fun j => (List.range r.2.2.1).map (fun i => (r.1 + i, r.2.1 + j)))

/-- The final awning contribution to a pixel is opaque (R311). -/
def State.opaqueAt (s : State) (n x y : Nat) : Bool :=
  let a := s.awn n
  match (a.elems.filterMap (fun e => s.elemAt a e x y)).getLast? with
  | some (_, k) => k == 256
  | none => false

/-- Candidates of a latch with their rectangles, in ascending code (R311). -/
def State.candidates (s : State) (n : Nat) : List (Nat × (Nat × Nat × Nat × Nat)) :=
  let a := s.awn n
  let cs := a.elems.filterMap (fun e => match e.code with
    | none => none
    | some c =>
      let r := s.elemRect a.region e
      if !emptyRect r && (rectPixels r).all (fun (x, y) => s.opaqueAt n x y) then some (c, r) else none)
  cs.mergeSort (fun p q => p.1 ≤ q.1)

/-- Up to two picks of sorted codes, new ones first, then by rotation after the last rotated pick; the new last rotated
pick (R312). -/
def pickTwo (cands old : List Nat) (last : Nat) : List Nat × Nat :=
  let fresh := (cands.filter (fun c => !old.contains c)).take 2
  let rest := cands.filter (fun c => !fresh.contains c)
  let turn := rest.filter (last < ·) ++ rest.filter (· ≤ last)
  let more := turn.take (2 - fresh.length)
  (fresh ++ more, more.getLast?.getD last)

/-- Rectangle of the element that a rectangle checks in this frame. -/
def State.pickRect (s : State) (n r : Nat) : Option (Nat × (Nat × Nat × Nat × Nat)) :=
  match (s.awn n).picks[r - 6]? with
  | none => none
  | some c => ((s.awn n).elems.find? (fun e => e.code == some c)).map (fun e => (c, s.elemRect (s.awn n).region e))

/-- The picks of a latch (R312, R316). -/
def State.pick (s : State) (n : Nat) : State :=
  let a := s.awn n
  let cs := (s.candidates n).map (·.1)
  let (ps, last) := pickTwo cs a.cands a.lastPick
  let s := s.setAwn n { a with cands := cs, lastPick := last, picks := ps }
  (s.set (F.AWN_LAST_CHECK_R6 n) (ps[0]?.getD 0xFF)).set (F.AWN_LAST_CHECK_R7 n) (ps[1]?.getD 0xFF)

/-! ## Bundles in force (R305, R307) -/

/-- Region that holds an installed bundle. -/
def State.regionOf (s : State) (id : Nat) : Option Nat :=
  (List.range 5).find? (fun k => s.get (F.AWNG_REGION_BUNDLE_ID k) == id &&
    (match s.install with | some i => !(i.verified && i.old == some k) | none => true))

/-- An install whose heads have all drawn a frame from the new region ends (R307). -/
def State.installDone (s : State) : State :=
  match s.install with
  | some i =>
    if i.verified && i.waiting.isEmpty then
      let s := match i.old with | some k => s.setWord (R.AWNG_REGION k) 0 | none => s
      (({ s with install := none }.drop F.AWNG_BUNDLE_STAT_BUSY).raise F.AWNG_BUNDLE_STAT_DONE).set
        F.AWNG_BUNDLE_STAT_CODE 0
    else s
  | none => s

/-- The bundle in force for a head from a latch (R305, R307). (DEDUCED, log 45.) -/
def State.bundleLatch (s : State) (n : Nat) : State :=
  let id := s.get (F.AWN_BUNDLE_BUNDLE_ID n)
  let region := if id = 0 then none else s.regionOf id
  let old := (s.awn n).region
  let s := s.setAwn n { s.awn n with region := region }
  let s := s.set (F.AWN_STAT_BUNDLE_VER n) (match region with | some k => s.get (F.AWNG_REGION_VERSION k) | none => 0)
  let s := s.put (F.AWN_STAT_ROM_SET n) region.isNone
  let s := s.cond (region.isSome && region != old) (·.raise (F.AWN_EVT_BUNDLE_EV n))
  match s.install with
  | some i =>
    if !i.verified then s
    else if i.taken.contains n then
      ({ s with install := some { i with waiting := i.waiting.filter (· != n) } }).installDone
    else { s with install := some { i with taken := n :: i.taken } }
  | none => s

/-! ## Installs (R306, R308) -/

/-- An install ends with a code. -/
def State.installFail (s : State) (code : Nat) : State :=
  (s.raise F.AWNG_BUNDLE_STAT_FAIL).set F.AWNG_BUNDLE_STAT_CODE code

/-- Heads whose AWNING record names a bundle. -/
def State.namers (s : State) (id : Nat) : List AwnPlan :=
  match s.plan with
  | some p => p.awn.filter (fun a => a.bundleId == id)
  | none => []

/-- First failing check of a bundle image (R302, R303, R304, R308). -/
def State.bundleCode (s : State) (img : List Byte) : Nat :=
  let total := leAt img 0xC 4
  let sig := img.drop (total - 256)
  let cw := leAt img 0xA 1
  let ch := leAt img 0xB 1
  let iw := leAt img 0x18 1
  let ih := leAt img 0x19 1
  let g := (leAt img 0x10 4, 95 * ch * ceilDiv cw 8)
  let i := (leAt img 0x14 4, 4 * ih * ceilDiv iw 8)
  let id := leAt img 6 2
  let hash := Config.sha384 (img.take (total - 256))
  let pub := slice sig 8 97
  if leAt img 0 4 ≠ 0x41574E42 ∨ leAt img 4 2 ≠ 0x0100 ∨ leAt sig 0 4 ≠ 0x47495350 then 3
  else if !(total % 64 == 0 && total ≤ 0x10000 && 8 ≤ cw && cw ≤ 32 && 16 ≤ ch && ch ≤ 64 && 8 ≤ iw && iw ≤ 64 && 8 ≤ ih &&
      ih ≤ 64 && g.1 % 64 == 0 && i.1 % 64 == 0 && 64 ≤ g.1 && 64 ≤ i.1 && g.1 + g.2 ≤ total - 256 &&
      i.1 + i.2 ≤ total - 256 && disjoint g i && id != 0) then 4
  else if !s.keyInSlot (leAt sig 4 1) pub then 5
  else if !Config.ecdsaVerify pub hash (slice sig 0x70 48) (slice sig 0xA0 48) then 6
  else if (s.namers id).isEmpty then 7
  else if (s.namers id).any (fun a => leAt img 8 2 < a.minVer) ||
      (match s.regionOf id with | some k => leAt img 8 2 < s.get (F.AWNG_REGION_VERSION k) | none => false) then 8
  else 0

/-- A write of BUNDLE_CTRL (R306 step 1, R308, R319, R322): the copy into the staging region, hashed as it is written.
(DEDUCED, log 45.) -/
def State.writeBundleCtrl (s : State) (w : Wr) : State :=
  s.guarded G.AWNG_BUNDLE_CTRL w fun s =>
    let v := w.data.toNat
    if bitsOf v 31 24 ≠ 0xA5 then s
    else if v % 16 ≠ 1 then s.unpredictable w.master 0 everywhere
    else if s.flag F.AWNG_BUNDLE_STAT_BUSY || s.flag F.PLAN_STATUS_BUSY then s.installFail 1
    else if s.plan.isNone then s.installFail 2
    else
      let region := ((List.range 5).find? (fun k => s.word (R.AWNG_REGION k) == 0)).getD 0
      let src := s.addrPair R.AWNG_BUNDLE_SRC_LO R.AWNG_BUNDLE_SRC_HI
      let s := s.raise F.AWNG_BUNDLE_STAT_BUSY
      match s.unitRead 0xB src 64 with
      | (none, s) => { s with install := some { region := region, code := 9 } }
      | (some hdr, s) =>
        let total := leAt hdr 0xC 4
        if total < 320 ∨ 0x10000 < total then
          { s with install := some { region := region,
                                     code := if leAt hdr 0 4 ≠ 0x41574E42 ∨ leAt hdr 4 2 ≠ 0x0100 then 3 else 4 } }
        else match s.unitRead 0xB (src + 64) (total - 64) with
        | (none, s) => { s with install := some { region := region, code := 9 } }
        | (some rest, s) =>
          let img := hdr ++ rest
          let (_, s) := s.unitWrite 0xB (regionBase region) img
          { s with install := some { region := region, bundleId := leAt img 6 2, version := leAt img 8 2 } }

/-- The checks of an install have ended (BUNDLE_VERIFY_DONE, R306 steps 2 and 3). (DEDUCED, log 45.) -/
def State.bundleVerified (s : State) : State :=
  match s.install with
  | none => s
  | some i =>
    if i.verified then s
    else
      let img := s.bytes (regionBase i.region) (min 0x10000 (s.bundleNum i.region 0xC 4))
      let code := if i.code ≠ 0 then i.code else s.bundleCode img
      if code ≠ 0 then ({ s with install := none }.drop F.AWNG_BUNDLE_STAT_BUSY).installFail code
      else
        let old := s.regionOf i.bundleId
        let s := s.setWord (R.AWNG_REGION i.region) (i.bundleId + i.version * 2 ^ 16)
        let heads := (s.namers i.bundleId).map (·.head) |>.filter (fun n => s.flag (F.HEAD_STAT_RUNNING n))
        ({ s with install := some { i with verified := true, waiting := heads, old := old } }).installDone

/-! ## The channels (R298, R299) -/

/-- Channels of an awning in service. -/
def State.awnOk (s : State) (n : Nat) : List Nat :=
  (List.range 3).filter (fun c => bitOf (s.get (F.AWN_STAT_CH_OK n)) c)

/-- A head fault (R375, R376): bit 20 + k of FAULT_CAUSE with its ledger entry. -/
def State.headFault (s : State) (n k : Nat) (det unit detail : Nat) (inj : Bool) : State :=
  let s := s.set (F.HEAD_STAT_FAULT_CAUSE n) (Nat.lor (s.get (F.HEAD_STAT_FAULT_CAUSE n)) (2 ^ k))
  ((s.raise (F.HEAD_STAT_FAULT n)).raise (F.HEAD_EVT_FAULT_EV n)).detectWith inj det unit detail

/-- Channel `c` dissents in the frame (R298). -/
def State.awnDissent (s : State) (n c : Nat) (inj : Bool) : State :=
  let a := s.awn n
  if a.dissents.contains c then s
  else
    let s := s.cond a.dissents.isEmpty (·.inc (F.AWN_DISSENT_CNT_CNT n))
    ((s.setAwn n { a with dissents := a.dissents ++ [c] }).raise (F.AWN_EVT_DISSENT_EV n)).detectWith inj 0x06 n c

/-- Three channels disagree on a pixel. (DEDUCED, log 68.) -/
def State.awnSplit (s : State) (n line : Nat) (inj : Bool) : State :=
  (s.raise (F.AWN_EVT_SPLIT_EV n)).detectWith inj 0x08 n line

/-- The vote on one pixel whose three results the channels give (AWNING_PIXEL_SPLIT, R298). -/
def State.pixelVote (s : State) (n x y : Nat) (px : List Nat) : State :=
  if !s.hasPipe n || !s.flag (F.HEAD_STAT_RUNNING n) || s.flag (F.HEAD_STAT_SLATE n) then s
  else
    let split := fun (s : State) => s.setAwn n { s.awn n with splits := (s.awn n).splits ++ [(x, y)] }
    match (s.awnOk n).map (fun c => (c, nth 0 px c)) with
    | [(i, a), (j, b), (k, c)] =>
      if a = b then (if c = a then s else s.awnDissent n k false)
      else if a = c then s.awnDissent n j false
      else if b = c then s.awnDissent n i false
      else (split s).awnSplit n y false
    | [(_, a), (_, b)] => if a = b then s else (split s).headFault n 3 0x08 n y false
    | _ => s

/-- CH_OK and TWO_CH after channel `c` is taken out of service (R299, R317). -/
def State.awnDrop (s : State) (n c : Nat) : State :=
  let ok := s.get (F.AWN_STAT_CH_OK n)
  let s := (s.set (F.AWN_STAT_CH_OK n) (if bitOf ok c then ok - 2 ^ c else ok)).raise (F.AWN_EVT_CHFAIL_EV n)
  s.put (F.AWN_STAT_TWO_CH n) ((s.awnOk n).length == 2)

/-- Dissents of the frame that ends counted; a channel with three frames in a row is declared failed (R299).
(DEDUCED, log 41.) -/
def State.awnFrameEnd (s : State) (n : Nat) : State :=
  let a := s.awn n
  let runs := (List.range 3).map (fun c => if a.dissents.contains c then nth 0 a.runs c + 1 else 0)
  let s := s.setAwn n { a with runs := runs, dissents := [], splits := [] }
  (List.range 3).foldl (fun s c =>
    let inj := s.injFor 0x07 n c
    if (3 ≤ nth 0 runs c || inj) && (s.awnOk n).contains c then
      (s.awnDrop n c).detectWith inj 0x07 n c
    else s) s |>.injSpend 0x07 n

/-- Injected faults of the awning's channels in the frame that starts (R810). -/
def State.awnInjected (s : State) (n : Nat) : State :=
  let s := (List.range 3).foldl (fun s c =>
    s.cond (s.injFor 0x06 n c && (s.awnOk n).length == 3) (·.awnDissent n c true)) s
  let s := s.injSpend 0x06 n
  let split := s.injArmed 0x08 n
  let s := s.injSpend 0x08 n
  s.cond split fun s =>
    if (s.awnOk n).length == 2 then s.headFault n 3 0x08 n 0 true else s.awnSplit n 0 true

end Sys2Proof.Machine
end

