-- ==== Sys2Proof/Machine/HeadOps.lean ====
section
/-! DEFINITION. Scan-out heads (chapter 08): timing limits, run and halt, commits and snapshots, direct scan, underrun, the
slate, what a head sends, region CRCs, tolerance. -/

namespace Sys2Proof.Machine

/-! ## Timing (R351, R352) -/

/-- The timing of a head: active, total, front porch and sync of both directions. -/
structure Timing where
  hAct : Nat
  hTot : Nat
  hFp : Nat
  hSync : Nat
  vAct : Nat
  vTot : Nat
  vFp : Nat
  vSync : Nat
deriving DecidableEq, Repr

/-- Timing that a reading of fields gives. -/
def timingOf (get : Fld → Nat) (n : Nat) : Timing :=
  ⟨get (F.HEAD_TIMING_H_H_ACTIVE n), get (F.HEAD_TIMING_H_H_TOTAL n), get (F.HEAD_TIMING_HSYNC_H_FP n),
   get (F.HEAD_TIMING_HSYNC_H_SYNC n), get (F.HEAD_TIMING_V_V_ACTIVE n), get (F.HEAD_TIMING_V_V_TOTAL n),
   get (F.HEAD_TIMING_VSYNC_V_FP n), get (F.HEAD_TIMING_VSYNC_V_SYNC n)⟩

/-- The timing in force. -/
def State.timing (s : State) (n : Nat) : Timing :=
  timingOf s.getLive n

/-- Lowest code of REJ_CAUSE among the limits that a timing breaks at a pixel clock in kHz (R352, R361, R394); 0 none. -/
def rejCause (t : Timing) (khz : Nat) : Nat :=
  if khz < 25000 ∨ 600000 < khz then 6
  else if !(320 ≤ t.hAct && t.hAct ≤ 4096 && t.hAct % 2 == 0 && 8 ≤ t.hFp && 8 ≤ t.hSync && t.hSync ≤ 1023 &&
      t.hAct + t.hFp + t.hSync + 8 ≤ t.hTot && t.hTot ≤ 8192) then 1
  else if !(200 ≤ t.vAct && t.vAct ≤ 4096 && 1 ≤ t.vFp && 1 ≤ t.vSync && t.vSync ≤ 63 &&
      t.vAct + t.vFp + t.vSync + 1 ≤ t.vTot && t.vTot ≤ 8192) then 2
  else if 8847360 < t.hAct * t.vAct then 3
  else if (t.vTot - t.vAct) * t.hTot * 1000 < 30 * khz then 4
  else if !(4100 * khz ≤ t.hTot * t.vTot * 1000 && t.hTot * t.vTot * 1000 ≤ 50000 * khz) then 5
  else 0

/-- Frame period in ns, rounded down (R352); 0 while PIXCLK is 0. -/
def State.periodNs (s : State) (n : Nat) : Nat :=
  (s.timing n).hTot * (s.timing n).vTot * 1000000 / s.get (F.HEAD_PIXCLK_KHZ n)

/-- Vertical blanking in ns, rounded down. -/
def State.blankNs (s : State) (n : Nat) : Nat :=
  ((s.timing n).vTot - (s.timing n).vAct) * (s.timing n).hTot * 1000000 / s.get (F.HEAD_PIXCLK_KHZ n)

/-! ## Run and halt (R353 to R355) -/

/-- An event that a write of a head raises. -/
def State.cfgRej (s : State) (n : Nat) : State :=
  s.raise (F.HEAD_EVT_CFG_REJ_EV n)

/-- A write of PIXCLK (R353): ignored while the generator runs or out of range; else the PLL locks anew, unless every bit is
locked. A write that differs from a locked bit is counted in any case (R112, R113). -/
def State.writePixclk (s : State) (n : Nat) (w : Wr) : State :=
  s.guarded (G.HEAD_PIXCLK n) w fun s =>
    let khz := bitsOf w.data.toNat 19 0
    if s.flag (F.HEAD_STAT_RUNNING n) || khz < 25000 || 600000 < khz then
      (s.lockHit w.master (R.HEAD_PIXCLK n) w.data.toNat).cfgRej n
    else if s.openBits (R.HEAD_PIXCLK n) % 2 ^ 20 = 0 then s.plainWrite w (R.HEAD_PIXCLK n)
    else
      let s := (s.plainWrite w (R.HEAD_PIXCLK n)).drop (F.HEAD_STAT_PLL_LOCK n)
      s.setHead n { s.head n with pllPend := true }

/-- The pixel PLL locks (R353). -/
def State.pllLocks (s : State) (n : Nat) : State :=
  if (s.head n).pllPend then
    (s.setHead n { s.head n with pllPend := false }).raise (F.HEAD_STAT_PLL_LOCK n)
  else s

/-- Fewer than two channels in service in FRESH or AWN (R375, R377). -/
def State.shortfall (s : State) (n : Nat) : Bool :=
  decide ((s.chansOk n).length < 2) || (s.hasPipe n && decide ((s.awnOk n).length < 2))

/-- A fault clear requested (R377). -/
def State.faultClear (s : State) (n : Nat) : State :=
  if s.shortfall n then s.cfgRej n
  else (s.set (F.HEAD_STAT_FAULT_CAUSE n) 0).drop (F.HEAD_STAT_FAULT n)

/-- A write of HEAD.CTRL (R354, R355, R377, R393): run, software slate and fault clear. A head that no plan in force names
does not answer, so its RUN stays 0. -/
def State.writeHeadCtrl (s : State) (n : Nat) (w : Wr) : State :=
  s.guarded (G.HEAD_CTRL n) w fun s =>
    (s.plainWrite w (R.HEAD_CTRL n)).cond (bitOf w.data.toNat 4) (·.faultClear n)

/-- The head answers and its generator runs. -/
def State.headLive (s : State) (n : Nat) : Bool :=
  s.flag (F.HEAD_STAT_RUNNING n) && s.answers .head n 0 && s.inReset.isNone

/-- By how many ppm a pixel clock may run fast: 2 of its PLL (R353), and 100 more where the standby of an in-step pair brings
a head back to the active part's FLPs (R532). -/
def State.fastPpm (s : State) : Nat :=
  match s.plan with
  | some p => if p.twin.mode = 1 ∧ s.get F.TWIN_STAT_ROLE = 3 then 102 else 2
  | none => 2

/-- Shortest time in ns between two FLPs: H_TOTAL × V_TOTAL pixel clocks at their fastest (R351, R353, R532). A frame may last
longer: the whole lines by which a standby extends one (R532) are in the times of HEAD_LATCH. (DEDUCED, log 54.) -/
def State.shortNs (s : State) (n : Nat) : Nat :=
  (s.timing n).hTot * (s.timing n).vTot * (1000000 - s.fastPpm) / s.get (F.HEAD_PIXCLK_KHZ n)

/-- The frame that started at the last FLP is not over, so that no FLP can come (R351). -/
def State.frameOn (s : State) (n : Nat) : Bool :=
  match (s.head n).flp with
  | some t => decide (s.ns < t + s.shortNs n)
  | none => false

/-- Every timing that the generator would run with, in force or from a snapshot, meets R352 at PIXCLK. Timing that a plan
presets, or a PIXCLK written after a commit was accepted, may break it: the generator then does not start. (DESIGN CHOICE,
log 77.) -/
def State.timingMeets (s : State) (n : Nat) : Bool :=
  let h := s.head n
  let ts := (match h.armed with | some a => timingOf a.get n | none => s.timing n) ::
    h.accepted.map (fun a => timingOf a.get n)
  ts.all (fun t => rejCause t (s.get (F.HEAD_PIXCLK_KHZ n)) == 0)

/-- The generator starts at an FLP (HEAD_START, R352, R354); the latch of that FLP follows as HEAD_LATCH. -/
def State.headStarts (s : State) (n : Nat) : State :=
  if s.flag (F.HEAD_CTRL_RUN n) && s.flag (F.HEAD_STAT_PLL_LOCK n) && !s.flag (F.HEAD_STAT_RUNNING n) &&
      s.answers .head n 0 && s.named 0x05 n && s.timingMeets n && s.applying.isNone && s.inReset.isNone then
    (s.setHead n { s.head n with scan := false, flp := none }).raise (F.HEAD_STAT_RUNNING n)
  else s

/-! ## The slate (R378 to R380) -/

/-- Rank of the highest slate cause present, in the coding of SLATE_CAUSE (R378, R394). -/
def State.slateCause (s : State) (n : Nat) : Nat :=
  if s.get F.THERM_STATUS_DISPLAY ≠ 0 then 6
  else if s.flag F.CLKRST_STAT_FORCED then 5
  else if s.flag (F.HEAD_STAT_FAULT n) then 4
  else if (s.head n).replan then 3
  else if (s.head n).handover then 2
  else if s.flag (F.HEAD_CTRL_SLATE_REQ n) then 1
  else 0

/-- Text of a slate cause, of at most 8 characters (R375, R378). -/
def State.slateText (s : State) (n : Nat) : List Nat :=
  match s.slateCause n with
  | 6 => codes ['T', 'H', 'E', 'R', 'M', 'A', 'L']
  | 5 => codes ['F', 'O', 'R', 'C', 'E', 'D']
  | 4 =>
    codes ['F', 'L', 'T', '-'] ++
      (let c := s.get (F.HEAD_STAT_FAULT_CAUSE n)
       if bitOf c 3 then codes ['A', 'W', 'N'] else if bitOf c 2 then codes ['F', 'S', 'V']
       else if bitOf c 1 then codes ['R', 'G', 'N'] else codes ['C', 'R', 'C'])
  | 3 => codes ['R', 'E', 'P', 'L', 'A', 'N']
  | 2 => codes ['H', 'A', 'N', 'D', 'O', 'V', 'E', 'R']
  | 1 => (bytesLE 4 (s.word (R.HEAD_SLATE_TEXT0 n)) ++ bytesLE 4 (s.word (R.HEAD_SLATE_TEXT1 n))).map BitVec.toNat
  | _ => []

/-- A pixel of the slate at 12 bits (R379). -/
def State.slatePx (s : State) (n x y : Nat) : Nat × Nat × Nat :=
  let k := max 1 (s.hActive n / 512)
  let bx : Int := ((s.hActive n : Int) - 64 * k) / 2
  let byy : Int := ((s.vActive n : Int) - 16 * k) / 2
  let dx := (x : Int) - bx
  let dy := (y : Int) - byy
  let text := s.slateText n
  if 0 ≤ dx ∧ dx < 64 * k ∧ 0 ≤ dy ∧ dy < 16 * k ∧
      (let gx := dx.toNat / k
       let c := nth 32 text (gx / 8)
       0x20 ≤ c ∧ c ≤ 0x7E ∧ Config.romGlyph c (dy.toNat / k) (gx % 8)) then (4095, 4095, 4095)
  else if -4 * (k : Int) ≤ dx ∧ dx < 68 * k ∧ -4 * (k : Int) ≤ dy ∧ dy < 20 * k then (0, 0, 0)
  else if (x + 4096 - y) % 64 < 4 then (2048, 2048, 2048)
  else (1024, 1152, 1280)

/-! ## Direct scan (R386 to R389) -/

/-- The surface of a direct-scan head by the values in force (R386, R398). -/
def State.dsSurf (s : State) (n : Nat) : Surf :=
  ⟨(s.live (R.HEAD_DS_BASE_LO n)).toNat + (s.live (R.HEAD_DS_BASE_HI n)).toNat % 256 * 2 ^ 32,
   s.getLive (F.HEAD_DS_FORMAT_CODE n), false, s.hActive n, s.vActive n, s.getLive (F.HEAD_DS_FORMAT_PITCH n)⟩

/-- A direct-scan fetch refused or failed (R388): once per frame. -/
def State.dsFaulted (s : State) (n : Nat) (inj : Bool) : State :=
  if (s.head n).dsFault then s
  else
    let s := s.setHead n { s.head n with dsFault := true }
    ((s.inc (F.HEAD_DS_FAULTS_CNT n)).raise (F.HEAD_EVT_DS_FAULT_EV n)).detectWith inj 0x0C n (s.word (R.HEAD_FRAME_CNT n))

/-- A line of a direct-scan surface as pixels at 12 bits, alpha ignored. -/
def dsLine (fmt : Nat) (es : List (Option Nat)) : List (Option Px) :=
  es.map (fun e => e.map (fun v =>
    let (_, r, g, b) := rgbOf fmt v
    (255, widen r.1 12 r.2, widen g.1 12 g.2, widen b.1 12 b.2)))

/-- The lines of a frame fetched through the head's checker until one is refused (R388). -/
def State.dsFetch (s : State) (n : Nat) : State :=
  let f := s.dsSurf n
  (List.range (s.vActive n)).foldl (fun s y =>
    if (s.head n).dsFault then s
    else match s.fetchLine (pipeMaster n) f 0 y with
    | (.refused, s) => s.dsFaulted n false
    | (.lines y0 _ ls, s) =>
      let h := s.head n
      s.setHead n { h with dsRows := h.dsRows ++ ls.zipIdx.map (fun (l, i) => { y := y0 + i, x := 0, px := dsLine f.fmt l }) })
    s

/-- The surface that a direct-scan head stops using retires (R389). -/
def State.dsRetire (s : State) (n : Nat) : State :=
  match (s.head n).dsAddr with
  | none => s
  | some a =>
    let s := s.setHead n { s.head n with dsAddr := none }
    (s.setWord (R.HEAD_DS_RETIRED_LO n) (a % 2 ^ 32)).setWord (R.HEAD_DS_RETIRED_HI n) (a / 2 ^ 32 % 256)

/-- The direct-scan surface at a latch: another one applies, and the frame is fetched unless the head does not show it. -/
def State.dsLatch (s : State) (n : Nat) (fetch : Bool) : State :=
  if !s.directScan n then s
  else
    let a := (s.dsSurf n).base
    let s := if (s.head n).dsAddr = some a then s else s.dsRetire n
    let inj := s.injArmed 0x0C n
    let s := s.injSpend 0x0C n
    let s := s.setHead n { s.head n with dsAddr := some a, dsRows := [], dsFault := false }
    if inj then s.dsFaulted n true else if fetch then s.dsFetch n else s

/-- A direct-scan fetch fails from line `y` on (DS_FETCH_FAULT, R388); none runs in Panel Self Refresh (R383). -/
def State.dsFails (s : State) (n y : Nat) : State :=
  if !s.headLive n || !s.directScan n || (s.head n).dsFault || !(s.head n).scan || s.get (F.HEAD_PSR_STAT_STATE n) == 2 then s
  else
    let h := s.head n
    (s.setHead n { h with dsRows := h.dsRows.filter (fun l => l.y < y) }).dsFaulted n false

/-- A pixel of a direct-scan head; free where no fetch has given it and none has failed. -/
def State.dsPx (s : State) (n x y : Nat) : Nat × Nat × Nat :=
  let h := s.head n
  match h.dsRows.find? (fun l => l.y == y) with
  | some l => match nth none l.px x with
    | some (_, c) => c
    | none => rgb30 (s.getLive (F.HEAD_DS_FALLBACK_RGB n))
  | none =>
    if h.dsFault then rgb30 (s.getLive (F.HEAD_DS_FALLBACK_RGB n))
    else (s.freeValue 12, s.freeValue 24 / 4096, s.freeValue 36 / 2 ^ 24)

/-! ## What a head sends (R334, R338, R366) -/

/-- A pixel as it leaves dither, underruns apart. -/
def State.outPx (s : State) (n x y : Nat) : Nat × Nat × Nat :=
  let px := if s.flag (F.HEAD_STAT_SLATE n) then s.slatePx n x y
    else if s.directScan n then s.outStages n (s.dsPx n x y)
    else s.outStages n (s.awningOver n x y (s.composedOr n x y))
  s.ditherPx n (s.word (R.HEAD_FRAME_CNT n)) x y px

/-- The last active pixel sent before the frame (R366): free where the head has sent none. -/
def State.sentBefore (s : State) (n : Nat) : Nat × Nat × Nat :=
  (s.head n).lastPx.getD (s.freeValue 12, s.freeValue 24 / 4096, s.freeValue 36 / 2 ^ 24)

/-- The pixel sent at a position in raster order: where it is repeated, the last one sent before it (R366). -/
def State.sentAt (s : State) (n : Nat) : Nat → Nat → Nat × Nat × Nat
  | 0, _ => s.sentBefore n
  | fuel + 1, i =>
    let w := max 1 (s.hActive n)
    if (s.head n).under.contains (i / w, i % w) then
      if i = 0 then s.sentBefore n else s.sentAt n fuel (i - 1)
    else s.outPx n (i % w) (i / w)

/-- The pixel sent at (x, y). -/
def State.sentPx (s : State) (n x y : Nat) : Nat × Nat × Nat :=
  s.sentAt n ((s.head n).under.length + 1) (y * s.hActive n + x)

/-! ## Region CRCs (R370 to R374) -/

/-- A rectangle by the values in force, or as the awning placed it. -/
def State.rgnRect (s : State) (n r : Nat) : Nat × Nat × Nat × Nat :=
  if 6 ≤ r then
    if s.flag (F.HEAD_STAT_SLATE n) then (0, 0, 0, 0)
    else match s.pickRect n r with | some (_, q) => q | none => (0, 0, 0, 0)
  else clipRect (s.hActive n) (s.vActive n) (s.getLive (F.RGN_POS_X n r)) (s.getLive (F.RGN_POS_Y n r))
    (s.getLive (F.RGN_SIZE_W n r)) (s.getLive (F.RGN_SIZE_H n r))

/-- The rectangle's MODE in force; 0b100 for the awning rectangles of a head with a pipe (R399). -/
def State.rgnMode (s : State) (n r : Nat) : Nat :=
  if 6 ≤ r then (if s.hasPipe n then 4 else 0) else s.getLive (F.RGN_CFG_MODE n r)

/-- CRC-32C over a rectangle's pixels (R371); 0 where it is empty. (DESIGN CHOICE, log 42.) -/
def State.rectCrc (s : State) (n r : Nat) (px : Nat → Nat → Nat × Nat × Nat) : Nat :=
  let q := s.rgnRect n r
  if emptyRect q then 0
  else crc32c ((rectPixels q).flatMap (fun (x, y) =>
    crcPixel (depthBits (s.getLive (F.HEAD_DITHER_DEPTH n))) (px x y)))

/-- CRC of a rectangle of the frame that is scanned, over the pixels sent. -/
def State.rgnCrc (s : State) (n r : Nat) : Nat :=
  s.rectCrc n r (s.sentPx n)

/-- The rectangle holds a repeated pixel. -/
def State.rgnRepeats (s : State) (n r : Nat) : Bool :=
  (s.head n).under.any (fun (y, x) => inRect (s.rgnRect n r) x y)

/-- The channels of the awning disagree three ways on a pixel of the rectangle, so that no expected value is agreed
(R298, R313). -/
def State.rgnSplit (s : State) (n r : Nat) : Bool :=
  (s.awn n).splits.any (fun (x, y) => inRect (s.rgnRect n r) x y)

/-- The expected CRC of an awning rectangle (R313, R373): the channels' own pixels, which no underrun repeats; free where they
agree on no value. -/
def State.rgnExpect (s : State) (n r : Nat) : Nat :=
  if s.rgnSplit n r then s.freeValue 32 else s.rectCrc n r (s.outPx n)

/-- The comparison at a rectangle's last pixel (R372 to R374); `fault` is what a fault of the head's own path does to its
CRC. -/
def State.rgnCompare (s : State) (n r fault : Nat) : State :=
  let h := s.head n
  let mode := s.rgnMode n r
  let q := s.rgnRect n r
  if mode = 0 ∨ 4 < mode ∨ emptyRect q ∨ h.rgn.any (fun e => e.1 == r) then s
  else
    let crc := Nat.xor (s.rgnCrc n r) (fault % 2 ^ 32)
    let s := s.setHead n { h with rgn := h.rgn ++ [(r, crc)] }
    if mode = 1 then s
    else if s.rgnRepeats n r || s.flag (F.HEAD_STAT_SLATE n) then s.inc (F.RGN_SKIPS_CNT n r)
    else if mode = 4 then
      let s := s.cond (6 ≤ r) (·.inc (F.AWN_CHECKS_CNT n))
      if fault % 2 ^ 32 = 0 && !s.rgnSplit n r then s
      else s.headFault n 0 0x09 n
        (match s.pickRect n r with | some (c, _) => c | none => 0xFF) false
    else
      let inj := mode == 3 && s.injArmed 0x0A (n * 8 + r)
      let s := s.cond (mode == 3) (·.injSpend 0x0A (n * 8 + r))
      if crc = s.getLive (F.RGN_EXPECT_CRC n r) && !inj then s
      else if mode = 3 then (s.inc (F.RGN_MISMATCHES_CNT n r)).headFault n 1 0x0A (n * 8 + r) crc inj
      else (s.inc (F.RGN_MISMATCHES_CNT n r)).raise (F.HEAD_EVT_RGN_EV n)

/-- No region CRC is computed: nothing is scanned, or no active video is sent (R383). -/
def State.rgnOff (s : State) (n : Nat) : Bool :=
  !(s.head n).scan || s.get (F.HEAD_PSR_STAT_STATE n) == 2

/-- The comparison of one rectangle as a command (RGN_COMPARE). -/
def State.rgnEvent (s : State) (n r fault : Nat) : State :=
  if !s.headLive n || s.rgnOff n || 7 < r then s else s.rgnCompare n r fault

/-- An awning rectangle's registers at the FLP that ends a frame (R373). -/
def State.rgnPlaced (s : State) (n r : Nat) : State :=
  let q := s.rgnRect n r
  let expect := if emptyRect q then 0 else s.rgnExpect n r
  let s := s.setWord (R.RGN_POS n r) (q.1 + q.2.1 * 2 ^ 16)
  let s := s.setWord (R.RGN_SIZE n r) (q.2.2.1 + q.2.2.2 * 2 ^ 16)
  s.setWord (R.RGN_EXPECT n r) expect

/-- RESULT and RESULT_FRAME of every rectangle at the FLP that ends a frame, with the comparisons still to be made and the
injected mismatch of an awning rectangle (R373, R810). (DEDUCED, log 41.) -/
def State.rgnEnd (s : State) (n : Nat) : State :=
  if s.rgnOff n then s
  else
    let s := (List.range 8).foldl (fun s r => s.rgnCompare n r 0) s
    let s := (List.range 8).foldl (fun s r =>
      if s.rgnMode n r = 0 then s
      else
        let crc := match (s.head n).rgn.find? (fun e => e.1 == r) with | some (_, c) => c | none => 0
        let s := s.setWord (R.RGN_RESULT n r) crc
        let s := s.setWord (R.RGN_RESULT_FRAME n r) (s.word (R.HEAD_FRAME_CNT n))
        s.cond (6 ≤ r) (·.rgnPlaced n r)) s
    if s.hasPipe n && !s.flag (F.HEAD_STAT_SLATE n) && s.injArmed 0x09 n then
      (s.injSpend 0x09 n).headFault n 0 0x09 n (s.get (F.AWN_LAST_CHECK_R6 n)) true
    else s

/-! ## The latency buffer (R364, R365) -/

/-- Pixels that the latency buffer holds (R364). -/
def latencyPixels : Nat := 65536

/-- Active pixels of the frame whose clocks have passed. -/
def State.scanPos (s : State) (n : Nat) : Nat :=
  let t := s.timing n
  let clocks := (s.ns - (s.head n).lastLatchNs) * s.get (F.HEAD_PIXCLK_KHZ n) / 1000000
  let active := clocks - (t.vTot - t.vAct) * t.hTot
  min (t.vAct * t.hAct) (active / t.hTot * t.hAct + min t.hAct (active % t.hTot))

/-- The pipe has composed line `y`: no stall's row of it is still to come. -/
def State.lineReady (s : State) (n y : Nat) : Bool :=
  (s.judgedList n).all (fun m =>
    let q := s.markRect n m
    emptyRect q || decide (y < q.2.1 ∨ q.2.1 + q.2.2.2 ≤ y) || s.flag (F.CSTALL_STAT_CFG_ERR n m) ||
    (s.stall n m).buf.isNone || (s.stall n m).faulted || (s.stall n m).rows.any (fun l => l.y == y))

/-- First active pixel of the frame, in raster order, that the buffer has not been given: what the pipe has composed, up to
the buffer's 65,536 pixels ahead of the scan (R364). No command says how far a direct-scan fetch has come: there it is a free
value within the same limit. (DESIGN CHOICE, log 74.) -/
def State.bufferEnd (s : State) (n : Nat) : Nat :=
  let w := s.hActive n
  let top := min (s.vActive n * w) (s.scanPos n + latencyPixels)
  if s.directScan n then s.scanPos n + s.freeValue 17 % (top - s.scanPos n + 1)
  else min top (((List.range (s.vActive n)).find? (fun y => !s.lineReady n y)).getD (s.vActive n) * w)

/-- Time in ns at which the scan reaches active pixel `i`; the one after the frame's last is the first of the next frame. -/
def State.pixelNs (s : State) (n i : Nat) : Nat :=
  let t := s.timing n
  let clocks := if t.vAct * t.hAct ≤ i then (t.vTot + (t.vTot - t.vAct)) * t.hTot
    else ((t.vTot - t.vAct) + i / t.hAct) * t.hTot + i % t.hAct
  (s.head n).lastLatchNs + clocks * 1000000 / s.get (F.HEAD_PIXCLK_KHZ n)

/-! ## Underrun (R366 to R369) -/

/-- The buffer holds active pixel `i` of the frame. Of a direct-scan fetch no command says it: there the underrun does. -/
def State.holdsPixel (s : State) (n i : Nat) : Bool :=
  !s.directScan n && decide (i < s.bufferEnd n)

/-- An active pixel that the buffer does not hold at its clock is repeated (HEAD_UNDERRUN). -/
def State.underrun (s : State) (n line pixel : Nat) : State :=
  let h := s.head n
  if !s.headLive n || s.rgnOff n || s.flag (F.HEAD_STAT_SLATE n) || s.vActive n ≤ line || s.hActive n ≤ pixel ||
      s.holdsPixel n (line * s.hActive n + pixel) || h.under.contains (line, pixel) then s
  else
    let newLine := !h.under.any (fun e => e.1 == line)
    let s := (s.setHead n { h with under := h.under ++ [(line, pixel)] }).inc (F.HEAD_UNDERRUN_PIX_CNT n)
    s.cond newLine fun s =>
      let s := s.inc (F.HEAD_UNDERRUN_CNT_CNT n)
      let s := s.setWord (R.HEAD_UNDERRUN_LAST n) (s.word (R.HEAD_FRAME_CNT n) % 2 ^ 16 * 2 ^ 16 + line)
      (s.raise (F.HEAD_EVT_UNDERRUN_EV n)).detect 0x0B n (s.word (R.HEAD_UNDERRUN_LAST n))

/-- UNDERRUN posted to the live-class stalls whose rows hold a line with a repeated pixel (R368). -/
def State.postUnderrun (s : State) (n : Nat) (lines : List Nat) : State :=
  (s.judgedList n).foldl (fun s m =>
    let r := s.markRect n m
    if s.liveClass n m && !emptyRect r && lines.any (fun y => r.2.1 ≤ y && y < r.2.1 + r.2.2.2) then
      s.setFstall n m { s.fstall n m with evUnderrun := true }
    else s) s

/-- Underrun at the FLP that ends a frame: an injected one covers every active line, with a free count of pixels (R810),
and the posts are made. The answer is whether the frame underran. (DEDUCED, log 41.) -/
def State.underrunEnd (s : State) (n : Nat) : Bool × State :=
  if s.rgnOff n || s.flag (F.HEAD_STAT_SLATE n) then (false, s)
  else
    let inj := s.injArmed 0x0B n
    let s := s.injSpend 0x0B n
    let v := s.vActive n
    let s := s.cond inj fun s =>
      let s := (s.add (F.HEAD_UNDERRUN_CNT_CNT n) v).add (F.HEAD_UNDERRUN_PIX_CNT n) (s.freeValue 32 % (v * s.hActive n + 1))
      let s := s.useFree.setWord (R.HEAD_UNDERRUN_LAST n) (s.word (R.HEAD_FRAME_CNT n) % 2 ^ 16 * 2 ^ 16 + (v - 1))
      (s.raise (F.HEAD_EVT_UNDERRUN_EV n)).detectWith true 0x0B n (s.word (R.HEAD_UNDERRUN_LAST n))
    let lines := if inj then List.range v else (s.head n).under.map (·.1)
    (!lines.isEmpty, s.postUnderrun n lines)

/-! ## Commits (R356 to R362) -/

/-- A register belongs to the commit set of head `n` (R356). -/
def inCommitSet (n a : Nat) : Bool :=
  match placeOf a with
  | some p => p.reg.shadowed && p.n == n && ([2, 3, 7, 9] : List Nat).contains (blockOf a)
  | none => false

/-- Scaler-pool units inserted in pipe `n`. -/
def State.spOf (s : State) (n : Nat) : List Nat :=
  match s.plan with
  | some p => (p.res.filter (fun r => r.kind == 6 && r.param % 32 == n)).map (·.index)
  | none => []

/-- The snapshot of the commit set (R357). -/
def State.snapshot (s : State) (n tag : Nat) : Snap :=
  { vals := s.regs.filter (fun e => inCommitSet n e.1), tag := tag,
    binds := (List.range 8).filterMap (fun m => (s.stall n m).binds.getLast?.map (fun b => (m, b.id))),
    banks := (s.spOf n).filterMap (fun k => if s.flag (F.SP_STAT_PEND k) then some (k, (s.sp k).sel) else none) }

/-- The direct-scan surface as written is another than the one bound, and overlaps a ring or buffer in use (R402). -/
def State.dsOverlaps (s : State) (n : Nat) : Bool :=
  let a := s.addrPair (R.HEAD_DS_BASE_LO n) (R.HEAD_DS_BASE_HI n)
  let f : Surf := ⟨a, s.get (F.HEAD_DS_FORMAT_CODE n), false, s.get (F.HEAD_TIMING_H_H_ACTIVE n),
                   s.get (F.HEAD_TIMING_V_V_ACTIVE n), s.get (F.HEAD_DS_FORMAT_PITCH n)⟩
  (s.head n).dsAddr != some a && s.inUseClash (.scan n) [(a, f.bytes)]

/-- A commit accepted or refused (R357, R361, R402): COMMIT_FRAME is written at acceptance. (DEDUCED, log 40.) -/
def State.commit (s : State) (n tag master : Nat) : State :=
  let s := s.setWord (R.HEAD_COMMIT_FRAME n) (s.word (R.HEAD_FRAME_CNT n))
  let fmt := s.get (F.HEAD_DS_FORMAT_CODE n)
  match rejCause (timingOf s.get n) (s.get (F.HEAD_PIXCLK_KHZ n)) with
  | 0 =>
    if s.directScan n && (!(2 ≤ fmt && fmt ≤ 5) || s.dsOverlaps n) then s.unpredictable master (R.HEAD_INFO n) (R.HEAD_INFO n + 0x1FFF)
    else s.setHead n { s.head n with accepted := (s.head n).accepted ++ [s.snapshot n tag] }
  | c => (s.set (F.HEAD_STAT_REJ_CAUSE n) c).raise (F.HEAD_EVT_COMMIT_REJ_EV n)

/-- A write of COMMIT. -/
def State.writeCommit (s : State) (n : Nat) (w : Wr) : State :=
  s.guarded (G.HEAD_COMMIT n) w (·.commit n (bitsOf w.data.toNat 15 0) w.master)

/-- The oldest snapshot handed over is armed (SNAPSHOT_ARM, R358, R359). -/
def State.armSnapshot (s : State) (n : Nat) : State :=
  let h := s.head n
  match h.accepted with
  | [] => s
  | a :: rest =>
    let s := s.cond h.armed.isSome (·.inc (F.HEAD_COMMIT_MERGED_CNT n))
    (s.setHead n { h with accepted := rest, armed := some a }).raise (F.HEAD_STAT_ARMED n)

/-- The bank selection numbered `sel`, if it is still the pending one, applies (R331). -/
def State.swapBank (s : State) (k sel : Nat) : State :=
  if !s.flag (F.SP_STAT_PEND k) || (s.sp k).sel != sel then s
  else
    let s := ((s.set (F.SP_STAT_BANK k) (1 - s.get (F.SP_STAT_BANK k))).drop (F.SP_STAT_PEND k)).raise (F.SP_STAT_FREE k)
    (s.inc (F.SP_SWAPS_CNT k)).raise (F.SP_STAT_SWAP_EV k)

/-- The armed snapshot applies at a latch (R360, R331); the binds that it applies. -/
def State.applySnapshot (s : State) (n : Nat) : List (Nat × Nat) × State :=
  let h := s.head n
  match h.armed with
  | none => ([], s)
  | some a =>
    let live := a.vals.foldl (fun t e => Tbl.set resetWord t e.1 e.2) (Tbl.clear (inCommitSet n) s.inForce)
    let s := { s with inForce := live }
    let s := (s.setHead n { h with armed := none }).drop (F.HEAD_STAT_ARMED n)
    let s := s.setWord (R.HEAD_APPLIED_FRAME n) (s.word (R.HEAD_FRAME_CNT n))
    let s := (s.setWord (R.HEAD_APPLIED_TAG n) a.tag).raise (F.HEAD_EVT_APPLIED_EV n)
    (a.binds, a.banks.foldl (fun s (k, b) => s.swapBank k b) s)

/-- Binds up to the one a snapshot names leave the queue; the named one is answered (R251). -/
def State.takeBind (s : State) (n m : Nat) (binds : List (Nat × Nat)) : Option Bind × State :=
  match binds.find? (fun e => e.1 == m) with
  | none => (none, s)
  | some (_, id) =>
    let r := s.stall n m
    (r.binds.find? (fun b => b.id == id), s.setStall n m { r with binds := r.binds.filter (fun b => id < b.id) })

/-! ## Tolerance (R365, R398) -/

/-- The latency tolerance now (R365): the time until the scan reaches the first active pixel that the buffer does not hold,
less 2 µs, or the fixed values. (DESIGN CHOICE, log 74.) -/
def State.tolNow (s : State) (n : Nat) : Nat :=
  if !s.headLive n then 0xFFFF
  else if s.flag (F.HEAD_STAT_SLATE n) && (s.head n).replan then 0xFFFF
  else if s.get (F.HEAD_PSR_STAT_STATE n) = 2 then
    min 0xFFFF (((s.head n).lastLatchNs + s.periodNs n + s.blankNs n - s.ns - 2000) / 1000)
  else min 0xFFFF ((s.pixelNs n (s.bufferEnd n) - s.ns - 2000) / 1000)

/-- TOL updated, and TOL_MIN with it. (DESIGN CHOICE, log 2.) -/
def State.tolUpdate (s : State) (n : Nat) : State :=
  let v := s.tolNow n
  (s.set (F.HEAD_TOL_US n) v).set (F.HEAD_TOL_MIN_US n) (min v (s.get (F.HEAD_TOL_MIN_US n))) |>.useFree

/-- MIN_TOL (R365, R401). -/
def State.minTol (s : State) : Nat :=
  (s.headList.filter s.headLive).foldl (fun v n => min v (s.get (F.HEAD_TOL_US n))) 0xFFFF

/-- A read of TOL_MIN that is answered: it restarts from the current TOL (R398). -/
def State.tolMinRead (s : State) (n : Nat) : W32 × State :=
  (s.rd (R.HEAD_TOL_MIN n), s.set (F.HEAD_TOL_MIN_US n) (s.get (F.HEAD_TOL_US n)))

/-- The last active pixel of the frame that ends is kept (R366); none is sent in Panel Self Refresh (R383). -/
def State.keepPixel (s : State) (n : Nat) : State :=
  if s.rgnOff n then s
  else s.setHead n { s.head n with lastPx := some (s.sentPx n (s.hActive n - 1) (s.vActive n - 1)) }

/-- The generator halts at an FLP at which RUN is 0; that FLP is no latch (HEAD_HALT, R355, R389). -/
def State.headHalts (s : State) (n : Nat) : State :=
  if !s.headLive n || s.flag (F.HEAD_CTRL_RUN n) then s
  else
    let s := (s.rgnEnd n).keepPixel n
    let s := (s.drop (F.HEAD_STAT_RUNNING n)).drop (F.HEAD_STAT_SLATE n)
    let s := s.cond (s.get (F.HEAD_PSR_STAT_STATE n) == 2) (·.raise (F.HEAD_EVT_PSR_EV n))
    let s := (s.set (F.HEAD_PSR_STAT_STATE n) 0).set (F.HEAD_PSR_STAT_HOLD_CNT n) 0
    let s := s.setHead n { s.head n with scan := false, flp := none, under := [], rgn := [], psrRun := 0, psrDue := false }
    (s.dsRetire n).tolUpdate n

end Sys2Proof.Machine
end

