-- ==== Sys2Proof/Machine/TimeOps.lean ====
section
/-! DEFINITION. Time bases (chapter 14): operations, rate, holdover, the servo of package Q, and the timestamp queues of the
Ethernet ports. -/

namespace Sys2Proof.Machine

/-! ## Setting, stepping and LOCKED (R598 to R601) -/

/-- Units of a time base's count in one nanosecond, and in one turn of its seconds (R592). -/
def tbUnit : Nat := 2 ^ 48
def tbWrap : Nat := 2 ^ 48 * 1000000000 * 2 ^ 48

/-- A time base moved by a signed count of ns; the seconds wrap (R598). -/
def tbStepped (count : Nat) (ns : Int) : Nat :=
  (((count : Int) + ns * (tbUnit : Nat)) % (tbWrap : Nat)).toNat

/-- A SET or STEP is applied (R598). -/
def State.tbMove (s : State) (t count : Nat) : State :=
  ((s.setTb t { s.tb t with count := count }).inc (F.TB_STEPS_CNT t)).raise (F.TB_EVT_STEP_EV t)

/-- A SET or STEP is refused (R599). -/
def State.tbRefuse (s : State) (t op : Nat) (inj : Bool) : State :=
  ((s.inc (F.TB_STEP_REFUSED_CNT t)).raise (F.TB_EVT_REFUSED_EV t)).detectWith inj 0x38 t op

/-- A SET or STEP as software asks for it: refused while LOCKED, or by injection. -/
def State.tbAsk (s : State) (t op count : Nat) : State :=
  let inj := s.injArmed 0x38 t
  let s := s.injSpend 0x38 t
  if s.tbLocked t || inj then s.tbRefuse t op inj else s.tbMove t count

/-- LOCKED set or cleared; each change raises LOCK_EV and a lock dates LOCK_SINCE (R600, R601). -/
def State.tbPutLocked (s : State) (t : Nat) (on : Bool) : State :=
  if s.tbLocked t == on then s
  else
    let s := (s.put (F.TB_STAT_LOCKED t) on).raise (F.TB_EVT_LOCK_EV t)
    s.cond on fun s => s.setTb t { s.tb t with lockSince := s.tb48 t }

/-- A write of TB.CTRL (R598, R613, R620). -/
def State.writeTbCtrl (s : State) (t : Nat) (w : Wr) : State :=
  s.guarded (G.TB_CTRL t) w fun s =>
    let v := w.data.toNat
    if bitsOf v 31 24 ≠ 0xA5 then s
    else match v % 16 with
    | 1 =>
      let sec := s.word (R.TB_SET_SEC_LO t) + s.word (R.TB_SET_SEC_HI t) % 65536 * 2 ^ 32
      s.tbAsk t 1 ((sec * 1000000000 + min 999999999 (s.get (F.TB_SET_NS_NS t))) * tbUnit)
    | 2 => s.tbAsk t 2 (tbStepped (s.tb t).count (signed 64 (s.pair (R.TB_STEP_LO t) (R.TB_STEP_HI t))))
    | 3 => s.tbPutLocked t true
    | 4 => s.tbPutLocked t false
    | _ => s.unpredictable w.master 0 everywhere

/-! ## Rate and holdover (R593, R602) -/

/-- The limit of RATE: 2^38. -/
def rateMax : Int := 2 ^ 38

/-- RATE set, held to its limits (R593). -/
def State.putRate (s : State) (t : Nat) (r : Int) : State :=
  s.setPair (R.TB_RATE_LO t) (R.TB_RATE_HI t) (unsign 64 (clampInt (-rateMax) rateMax r))

/-- A write that feeds the holdover check. -/
def State.tbFed (s : State) (t : Nat) : State :=
  s.setTb t { s.tb t with fedNs := s.ns }

/-- The servo of package Q drives RATE (R604). -/
def State.servoOn (s : State) (t : Nat) : Bool :=
  s.pkgQ && s.flag (F.TB_SERVO_EN t)

/-- A write of RATE_HI (R25, R593, R604). -/
def State.writeRateHi (s : State) (t : Nat) (w : Wr) : State :=
  s.guarded (G.TB_RATE_HI t) w fun s =>
    if s.servoOn t then s.raise (F.TB_EVT_CFG_REJ_EV t)
    else
      let s := s.highWrite w (R.TB_RATE_HI t)
      (s.putRate t (s.tbRate t)).tbFed t

/-- LIMIT ms have passed at a check without a feeding write (HOLDOVER_EXPIRY, R602). -/
def State.holdoverCheck (s : State) (t : Nat) : State :=
  let limit := s.get (F.TB_HOLD_LIMIT t)
  if !s.tbInUse t || !s.tbLocked t || limit == 0 || s.inReset.isSome then s
  else
    let inj := s.injArmed 0x39 t
    let s := s.injSpend 0x39 t
    if inj || limit * 1000000 ≤ s.ns - (s.tb t).fedNs then
      let s := ((s.tbPutLocked t false).raise (F.TB_EVT_HOLDOVER_EV t)).inc (F.TB_HOLDOVERS_CNT t)
      s.detectWith inj 0x39 t (s.word (R.TB_LAST_OFFSET t))
    else s

/-! ## The servo (R603, R604) -/

/-- The OFFSET_IN interval in ns, from LOG_INTERVAL held to −7 to 4 (R615). -/
def servoDt (field : Nat) : Int :=
  match clampInt (-7) 4 (signed 4 field) with
  | .ofNat k => 1000000000 * 2 ^ k
  | .negSucc k => 1000000000 / 2 ^ (k + 1)

/-- One run of the servo on a measured offset. (DEDUCED, log 66.) -/
def State.servo (s : State) (t : Nat) (off : Int) : State :=
  let p := (off * 2 ^ 48).tdiv (servoDt (s.get (F.TB_SERVO_LOG_INTERVAL t)))
  let beyond := s.get (F.TB_STEP_THRESH_NS t) < off.natAbs
  if beyond && !s.tbLocked t then
    let s := s.tbMove t (tbStepped (s.tb t).count (-off))
    s.setTb t { s.tb t with integ := 0 }
  else
    let s := s.cond beyond (·.raise (F.TB_EVT_OFFSET_ALARM_EV t))
    let gain := fun (k : Nat) => ((k : Int) * p).tdiv 256
    let integ := clampInt (-rateMax) rateMax ((s.tb t).integ + gain (s.get (F.TB_SERVO_KI t)))
    (s.setTb t { s.tb t with integ := integ }).putRate t (-(gain (s.get (F.TB_SERVO_KP t))) - integ)

/-- A write of OFFSET_IN (R603, R604). -/
def State.writeOffsetIn (s : State) (t : Nat) (w : Wr) : State :=
  s.guarded (G.TB_OFFSET_IN t) w fun s =>
    let s := (s.plainWrite w (R.TB_OFFSET_IN t)).tbFed t
    let s := s.wr (R.TB_LAST_OFFSET t) w.data
    s.cond (s.servoOn t) (·.servo t (signed 32 w.data.toNat))

/-- A write of SERVO (R603, R604): setting EN clears the integrator; package P ignores it. -/
def State.writeServo (s : State) (t : Nat) (w : Wr) : State :=
  s.guarded (G.TB_SERVO t) w fun s =>
    if !s.pkgQ then s
    else
      let rise := bitOf w.data.toNat 31 && !s.flag (F.TB_SERVO_EN t)
      let s := s.plainWrite w (R.TB_SERVO t)
      let s := s.put (F.TB_STAT_SERVO_ON t) (bitOf w.data.toNat 31)
      s.cond rise fun s => s.setTb t { s.tb t with integ := 0 }

/-! ## Reading (R597) -/

/-- A read of NOW_NS that is answered: the nanoseconds, with the other NOW values latched.
(DEDUCED, log 15; DEDUCED, log 66.) -/
def State.readNow (s : State) (t : Nat) : W32 × State :=
  (BitVec.ofNat 32 (s.tbNs t % 1000000000), s.setTb t { s.tb t with latched := (s.tb t).count })

/-- NOW_SEC_LO, NOW_SEC_HI or NOW_FRAC as last latched: `k` 0, 1 or 2. -/
def State.nowLatched (s : State) (t k : Nat) : Nat :=
  let c := (s.tb t).latched
  let sec := c / tbUnit / 1000000000
  match k with
  | 0 => sec % 2 ^ 32
  | 1 => sec / 2 ^ 32 % 65536
  | _ => c / 2 ^ 32 % 65536

/-- A time base out of use, or after a reset of the TIME block: zero, RATE 0, not LOCKED (R595, R596). -/
def State.resetTb (s : State) (t : Nat) : State :=
  { s.resetRange (R.TB_CTRL t) (R.TB_CTRL t + 0x100) with tbs := Tbl.del s.tbs t }

/-! ## PTP timestamps (R605 to R609) -/

def State.tsqs (s : State) (p : Nat) : TsQueues := Tbl.get (fun _ => {}) s.tsq p
def State.setTsqs (s : State) (p : Nat) (v : TsQueues) : State :=
  { s with tsq := Tbl.set (fun _ => {}) s.tsq p v }

/-- A timestamp on a time base in units of 2^-16 ns, with a port's adjustment in 1/16 ns (R606). The event is taken at
the part's balls, where the fixed corrections refer to. -/
def State.tsValue (s : State) (t : Nat) (adj : Nat) : Nat :=
  (((s.tb t).count / 2 ^ 32 : Nat) + signed 16 adj * 4096).toNat

/-- The message of a frame that is a PTP event message (R607): its bytes from the PTP header on. `l3` is the offset of the
network header. -/
def ptpPart (bs : List Byte) (l2 ip4 ip6 : Bool) : Option (List Byte) :=
  let tagged := beAt bs 12 2 == 0x8100
  let o := if tagged then 18 else 14
  let ty := beAt bs (o - 2) 2
  if ty = 0x88F7 then (if l2 then some (bs.drop o) else none)
  else if ty = 0x0800 ∧ beAt bs o 1 / 16 = 4 ∧ beAt bs (o + 9) 1 = 17 ∧ beAt bs (o + 6) 2 % 8192 = 0 then
    let u := o + beAt bs o 1 % 16 * 4
    if ip4 && beAt bs (u + 2) 2 == 319 then some (bs.drop (u + 8)) else none
  else if ty = 0x86DD ∧ beAt bs (o + 6) 1 = 17 then
    if ip6 && beAt bs (o + 42) 2 == 319 then some (bs.drop (o + 48)) else none
  else none

/-- The identifier of a PTP event message that port `p` timestamps (R607, R608). -/
def State.ptpId (s : State) (p : Nat) (bs : List Byte) : Option Nat :=
  if !s.flag (F.TPORT_PTP_CFG_EN p) then none
  else match ptpPart bs (s.flag (F.TPORT_PTP_CFG_L2 p)) (s.flag (F.TPORT_PTP_CFG_IPV4 p)) (s.flag (F.TPORT_PTP_CFG_IPV6 p)) with
  | none => none
  | some m =>
    if 34 ≤ m.length ∧ beAt m 0 1 % 16 ≤ 3 ∧ beAt m 1 1 % 16 = 2 ∧
        (s.flag (F.TPORT_PTP_CFG_DOMAIN_ANY p) ∨ beAt m 4 1 = s.get (F.TPORT_PTP_CFG_DOMAIN p)) then
      some (beAt m 0 1 % 16 * 4096 + beAt m 30 2 % 4096)
    else none

/-- A timestamp enters a queue of port `p`, or is lost at a full one (R608, R609). -/
def State.tsPush (s : State) (p : Nat) (tx : Bool) (id : Nat) : State :=
  let q := s.tsqs p
  let t := s.get (F.TPORT_PTP_CFG_TB p)
  let e : TsEntry := ⟨id, s.tsValue t (s.word (if tx then R.TPORT_TX_ADJ p else R.TPORT_RX_ADJ p))⟩
  if 16 ≤ (if tx then q.tx else q.rx).length then
    if tx then (s.raise (F.TPORT_TXTS_STAT_OVF p)).inc (F.TPORT_TXTS_DROPS_CNT p)
    else (s.raise (F.TPORT_RXTS_STAT_OVF p)).inc (F.TPORT_RXTS_DROPS_CNT p)
  else if tx then (s.setTsqs p { q with tx := q.tx ++ [e] }).raise (F.TPORT_EVT_TX_TS_EV p)
  else (s.setTsqs p { q with rx := q.rx ++ [e] }).raise (F.TPORT_EVT_RX_TS_EV p)

/-- A frame of a port's software queue is timestamped if it is a PTP event message.
(DESIGN CHOICE, log 23; DEDUCED, log 66.) -/
def State.ptpStamp (s : State) (p : Nat) (tx : Bool) (bs : List Byte) : State :=
  match s.ptpId p bs with
  | some id => s.tsPush p tx id
  | none => s

/-- A write of TXTS_POP or RXTS_POP (R608). -/
def State.writeTsPop (s : State) (p : Nat) (tx : Bool) (w : Wr) : State :=
  s.guarded (if tx then G.TPORT_TXTS_POP p else G.TPORT_RXTS_POP p) w fun s =>
    if !bitOf w.data.toNat 0 then s
    else
      let q := s.tsqs p
      s.setTsqs p (if tx then { q with tx := q.tx.drop 1 } else { q with rx := q.rx.drop 1 })

/-- A write of PTP_CFG is ignored where it names a time base that is absent or unused (R611). -/
def State.writePtpCfg (s : State) (p : Nat) (w : Wr) : State :=
  if s.tbInUse (bitsOf w.data.toNat 11 8) then s.plainWrite w (R.TPORT_PTP_CFG p)
  else s.raise (F.TPORT_EVT_CFG_REJ_EV p)

end Sys2Proof.Machine
end

