-- ==== Sys2Proof/Machine/IngressOps.lean ====
section
/-! DEFINITION. Stream ingress (chapter 03): packets and their classification, frames in assembly, stamps and rings,
silence, and the software queues of the Ethernet ports. -/

namespace Sys2Proof.Machine

/-- Identifier of the ingress checker (R575). -/
def ingrMaster : Nat := 0xD

/-! ## Frames on Ethernet (R143, R150) -/

/-- A UDP packet as the classifier sees it. -/
structure UdpPkt where
  vlan : Option Nat
  v6 : Bool
  dst : Nat
  src4 : Option Nat
  port : Nat
  payload : List Byte
deriving DecidableEq, Repr

/-- What a frame turns out to be: a UDP packet, one with a bad checksum, or anything else. -/
inductive Parsed where
  | udp (p : UdpPkt)
  | bad
  | other
deriving DecidableEq, Repr

/-- Sum of 16-bit big-endian words, an odd last byte padded with zero. -/
def sum16 : List Byte → Nat
  | [] => 0
  | [a] => a.toNat * 256
  | a :: b :: t => a.toNat * 256 + b.toNat + sum16 t

/-- The ones' complement sum of 16-bit words. -/
def onesSum (v : Nat) : Nat :=
  let f := fun v => v % 65536 + v / 65536
  f (f (f (f v)))

/-- A UDP datagram with its addresses: the checksum tested where it is non-zero. -/
def parseDatagram (vlan : Option Nat) (v6 : Bool) (addrs udp : List Byte) : Parsed :=
  let len := beAt udp 4 2
  if len < 8 ∨ udp.length < len then .other
  else
    let body := udp.take len
    if beAt udp 6 2 ≠ 0 ∧ onesSum (sum16 addrs + 17 + len + sum16 body) ≠ 0xFFFF then .bad
    else .udp { vlan := vlan, v6 := v6, dst := natBE (addrs.drop (addrs.length / 2)),
                src4 := if v6 then none else some (natBE (addrs.take 4)), port := beAt udp 2 2, payload := body.drop 8 }

/-- An Ethernet II frame (R150): IPv4 with options skipped and no fragments, IPv6 without extension headers. -/
def parseFrame (bs : List Byte) : Parsed :=
  let tagged := beAt bs 12 2 == 0x8100
  let vlan := if tagged then some (beAt bs 14 2 % 4096) else none
  let o := if tagged then 18 else 14
  let ip := bs.drop o
  let ty := beAt bs (o - 2) 2
  if ty = 0x0800 ∧ beAt ip 0 1 / 16 = 4 then
    let hl := beAt ip 0 1 % 16 * 4
    let len := beAt ip 2 2
    if hl < 20 ∨ len < hl ∨ ip.length < len ∨ beAt ip 9 1 ≠ 17 ∨ beAt ip 6 2 % 16384 ≠ 0 then .other
    else parseDatagram vlan false (slice ip 12 8) ((ip.take len).drop hl)
  else if ty = 0x86DD ∧ beAt ip 0 1 / 16 = 6 then
    if beAt ip 6 1 ≠ 17 ∨ ip.length < 40 + beAt ip 4 2 then .other
    else parseDatagram vlan true (slice ip 8 32) (slice ip 40 (beAt ip 4 2))
  else .other

/-- An RTP packet (R152). -/
structure Rtp where
  pt : Nat
  marker : Bool
  seq : Nat
  ts : Nat
  ssrc : Nat
  payload : List Byte
deriving DecidableEq, Repr

/-- The RTP packet of a UDP payload: version 2, CSRC list and extension skipped, padding removed; none for RTCP.
(PRESUMED, log 46.) -/
def parseRtp (bs : List Byte) : Option Rtp :=
  let b0 := beAt bs 0 1
  let b1 := beAt bs 1 1
  let o1 := 12 + b0 % 16 * 4
  let o := if bitOf b0 4 then o1 + 4 + beAt bs (o1 + 2) 2 * 4 else o1
  let pad := if bitOf b0 5 then beAt bs (bs.length - 1) 1 else 0
  if bs.length < 12 ∨ b0 / 64 ≠ 2 ∨ (200 ≤ b1 ∧ b1 ≤ 204) ∨ bs.length < o + pad then none
  else some { pt := b1 % 128, marker := bitOf b1 7, seq := beAt bs 2 2, ts := beAt bs 4 4, ssrc := beAt bs 8 4,
              payload := slice bs o (bs.length - o - pad) }

/-- Entry `i` matches a packet of port `p` (R143). -/
def State.entryMatches (s : State) (p : Nat) (u : UdpPkt) (r : Rtp) (i : Nat) : Bool :=
  let dst := (List.range 4).foldl (fun v k => v * 2 ^ 32 + s.word (R.INGR_DST_ADDR i k)) 0
  s.flag (F.INGR_CTRL_ENABLE i) && s.get (F.INGR_CTRL_KIND i) == 1 && s.get (F.INGR_MATCH_UNIT i) == p &&
  s.flag (F.INGR_CTRL_IPV6 i) == u.v6 && u.dst == (if u.v6 then dst else s.word (R.INGR_DST_ADDR i 0)) &&
  u.port == s.get (F.INGR_UDP_PORT i) && r.pt == s.get (F.INGR_MATCH_PT i) &&
  (!s.flag (F.INGR_CTRL_VLAN_MATCH i) || u.vlan == some (s.get (F.INGR_MATCH_VLAN_ID i))) &&
  (!s.flag (F.INGR_CTRL_SRC_MATCH i) ||
    (u.src4 == some (s.word (R.INGR_SRC_ADDR i)) && s.word (R.INGR_SRC_ADDR i) != 0)) &&
  (!s.flag (F.INGR_CTRL_SSRC_MATCH i) || r.ssrc == s.word (R.INGR_SSRC i))

/-- The entry that receives a packet: the lowest that matches (R143). -/
def State.entryFor (s : State) (p : Nat) (u : UdpPkt) (r : Rtp) : Option Nat :=
  (List.range 512).find? (s.entryMatches p u r)

/-! ## Silence (R147, R172 to R175) -/

/-- TIMEOUT posted to every stall bound to the entry (R174). -/
def State.postTimeout (s : State) (i : Nat) : State :=
  s.headList.foldl (fun s n => (List.range 8).foldl (fun s m =>
    s.cond (s.entryOf n m == some i) fun s => s.setFstall n m { s.fstall n m with evTimeout := true }) s) s

/-- An accepted arrival (R172, R175). -/
def State.arrives (s : State) (i : Nat) : State :=
  let s := s.setStream i { s.stream i with lastNs := s.ns }
  if s.flag (F.INGR_STAT_SILENT i) then
    ((s.drop (F.INGR_STAT_SILENT i)).raise (F.INGR_STAT_RESUME_EV i)).raise (F.INGR_STAT_ACTIVE i)
  else s

/-! ## Stamps and publication (R158, R159, R163 to R171) -/

/-- Media clock rate of an entry. -/
def clkRate (code : Nat) : Nat :=
  match code with
  | 0 => 90000
  | 1 => 48000
  | _ => 96000

/-- The mapping of R159: capture time and MEDIA_AHEAD. -/
def mediaTime (rate now rtpTs ofs : Nat) : Nat × Bool :=
  let cnt := now * rate / 1000000000
  let t := (rtpTs + 2 ^ 32 - ofs) % 2 ^ 32
  let d := (cnt % 2 ^ 32 + 2 ^ 32 - t) % 2 ^ 32
  let full : Int := if 2 ^ 31 ≤ d then (cnt : Int) + ((2 ^ 32 - d : Nat) : Int) else (cnt : Int) - d
  ((full * 1000000000 / rate % (2 ^ 48 : Nat)).toNat, decide (2 ^ 31 ≤ d))

/-- CAPTURE_TIME of a frame of an Ethernet entry, ARRIVAL_TIMED and MEDIA_AHEAD (R158). (DESIGN CHOICE, log 23.) -/
def State.captureTime (s : State) (i rtpTs arrival : Nat) : Nat × Bool × Bool :=
  if s.flag (F.INGR_CTRL_CAP_MODE i) then
    ((((arrival : Int) - (s.get (F.INGR_ARR_OFFSET_US i) * 1000 : Nat)) % (2 ^ 48 : Nat)).toNat, true, false)
  else
    let (t, ahead) := mediaTime (clkRate (s.get (F.INGR_TIMING_CLK_RATE i))) arrival rtpTs (s.word (R.INGR_TS_OFFSET i))
    (t, false, ahead)

/-- The stamp of a closed frame with the entry's identity and counters, which advance (R163). -/
def State.makeStamp (s : State) (i : Nat) (base : Stamp) : Stamp × State :=
  let r := s.stream i
  let t := { base with sourceId := s.get (F.INGR_IDENT_SOURCE_ID i), tb := s.get (F.INGR_IDENT_TB i),
                       seq := r.seq, alive := r.alive }
  let s := s.setStream i { r with seq := (r.seq + 1) % 2 ^ 24, alive := (r.alive + 1) % 16 }
  let s := (s.inc (F.INGR_FRAMES_CNT i)).set (F.INGR_LAST_SEQ i) t.seq
  (t, s.set (F.INGR_LAST_ALIVE i) t.alive)

/-- A stamped frame dropped (R170). -/
def State.ingrDrop (s : State) (i seq : Nat) (inj : Bool) : State :=
  ((s.inc (F.INGR_DROPS_CNT i)).raise (F.INGR_STAT_DROP_EV i)).detectWith inj 0x18 i seq

/-- Slots of the descriptor ring are all in use (R169). -/
def State.ringFull (s : State) (i : Nat) : Bool :=
  ahead (s.get (F.INGR_WR_IDX_IDX i)) (s.get (F.INGR_RD_IDX_IDX i)) == 2 ^ s.get (F.INGR_RING_DESC_LOG2 i)

/-- WR_IDX as a frame of a video entry finds it when it starts, which chooses its buffer (R168): none where the ring is
full. -/
def State.chooseBuf (s : State) (i : Nat) : Option Nat :=
  if s.ringFull i then none else some (s.get (F.INGR_WR_IDX_IDX i))

/-- The buffer that a frame which started at WR_IDX `w` still writes (R168, R170): none once another frame that started
with it has published that slot, so that no buffer of a held slot is written. (DESIGN CHOICE, log 79.) -/
def State.ownBuf (s : State) (i : Nat) (w : Option Nat) : Option Nat :=
  match w with
  | some w => if s.get (F.INGR_WR_IDX_IDX i) = w ∧ !s.ringFull i then some (w % 2 ^ s.get (F.INGR_RING_DESC_LOG2 i)) else none
  | none => none

/-- The surface of buffer `k` of a video entry (R168). -/
def State.ingrSurf (s : State) (i k : Nat) : Surf :=
  ⟨s.addrPair (R.INGR_DATA_BASE_LO i) (R.INGR_DATA_BASE_HI i) + k * s.get (F.INGR_RING_BUF_PAGES i) * 4096,
   s.get (F.INGR_PICTURE_FORMAT i), false, s.get (F.INGR_PICTURE_WIDTH i), s.get (F.INGR_PICTURE_HEIGHT i), 0⟩

/-- Frames of the data ring that the consumer has not released (R167). -/
def State.dataHeld (s : State) (i : Nat) : List (Nat × Nat × Nat) :=
  let rd := s.get (F.INGR_RD_IDX_IDX i)
  let n := ahead (s.get (F.INGR_WR_IDX_IDX i)) rd
  (s.stream i).data.filter (fun e => ahead e.1 rd < n)

/-- Offset in the data ring for `len` bytes (R156, R167); none where space is short. -/
def State.dataPlace (s : State) (i len : Nat) : Option Nat :=
  let size := 2 ^ s.get (F.INGR_RING_DATA_LOG2 i)
  let o := (s.stream i).nextOff
  let o := if o + len ≤ size then o else 0
  if o + len ≤ size ∧ (s.dataHeld i).all (fun e => o + len ≤ e.2.1 ∨ e.2.1 + e.2.2 ≤ o) then some o else none

/-- When each frame that a ring holds became complete in it, as (WR_IDX after it, time): one more at write count `wr`. -/
def readyTimes (ts : List (Nat × Nat)) (rd wr now : Nat) : List (Nat × Nat) :=
  ts.filter (fun e => 0 < ahead e.1 rd ∧ ahead e.1 rd ≤ ahead wr rd) ++ [((wr + 1) % 65536, now)]

/-- The descriptor of a frame written and WR_IDX advanced (R165, R166). -/
def State.putDesc (s : State) (i : Nat) (d : Desc) : State :=
  let r := s.ring 0 i
  let wr := s.get r.wr
  let (ok, s) := s.unitWrite ingrMaster (r.base + wr % 2 ^ r.log2 * 64) d.bytes
  if ok then
    let times := readyTimes (s.stream i).times (s.get r.rd) wr s.ns
    (s.setStream i { s.stream i with disc := false, times := times }).bump r.wr
  else s.ingrDrop i d.stamp.seq false

/-- Flags of a descriptor (R166). -/
def descFlags (partial' disc ahead' marker : Bool) : Nat :=
  bitsFrom [partial', disc, ahead', marker]

/-- A frame with its stamp and data goes to its data ring, or is dropped (R167, R170, R171). -/
def State.publishData (s : State) (i : Nat) (d : Desc) (data : List Byte) : State :=
  let inj := s.injArmed 0x18 i
  let s := s.injSpend 0x18 i
  match (if inj || s.ringFull i then none else s.dataPlace i data.length) with
  | none => s.ingrDrop i d.stamp.seq inj
  | some o =>
    let (ok, s) := s.unitWrite ingrMaster (s.addrPair (R.INGR_DATA_BASE_LO i) (R.INGR_DATA_BASE_HI i) + o) data
    if !ok then s.ingrDrop i d.stamp.seq false
    else
      let r := s.stream i
      let s := s.setStream i { r with data := s.dataHeld i ++ [(s.get (F.INGR_WR_IDX_IDX i), o, data.length)]
                                      nextOff := o + data.length }
      s.putDesc i { d with dataOffset := o, dataLen := data.length }

/-- A frame that started at WR_IDX `w` is stamped in its buffer and published, or dropped (R168, R170, R171). -/
def State.publishBuf (s : State) (i : Nat) (d : Desc) (w : Option Nat) (refused : Bool) : State :=
  let inj := s.injArmed 0x18 i
  let s := s.injSpend 0x18 i
  match (if inj || refused then none else s.ownBuf i w) with
  | none => s.ingrDrop i d.stamp.seq inj
  | some k =>
    let (ok, s) := s.unitWrite ingrMaster (s.ingrSurf i k).base d.stamp.bytes
    if ok then s.putDesc i { d with dataLen := k } else s.ingrDrop i d.stamp.seq false

/-- SIGNATURE of a stored picture (R34, R164), from the samples its buffer holds. -/
def State.signatureAt (s : State) (f : Surf) : Nat :=
  signatureOf (thumbnail f.w f.h (fun x y => lumaElem f.fmt (natLE (s.bytes (f.elemAddr 0 x y) (planeOf f.fmt 0).size))))

/-! ## Access units (R155, R156) -/

/-- Annex B start code. -/
def startCode : List Byte := [0#8, 0#8, 0#8, 1#8]

/-- NAL units of an aggregation packet, each with its start code. -/
def splitNals : Nat → List Byte → List Byte
  | 0, _ => []
  | fuel + 1, bs =>
    let n := beAt bs 0 2
    if bs.length < 3 ∨ n = 0 then [] else startCode ++ slice bs 2 n ++ splitNals fuel (bs.drop (2 + n))

/-- Bytes that an RFC 6184 payload adds to its access unit. -/
def depack264 (p : List Byte) : List Byte :=
  let b0 := beAt p 0 1
  match b0 % 32 with
  | 0 => []
  | 24 => splitNals p.length (p.drop 1)
  | 28 =>
    let b1 := beAt p 1 1
    if bitOf b1 7 then startCode ++ [BitVec.ofNat 8 (b0 / 32 * 32 + b1 % 32)] ++ p.drop 2 else p.drop 2
  | t => if t < 24 then startCode ++ p else []

/-- Bytes that an RFC 7798 payload adds to its access unit. (DEDUCED, log 47.) -/
def depack265 (p : List Byte) : List Byte :=
  let b0 := beAt p 0 1
  match b0 / 2 % 64 with
  | 48 => splitNals p.length (p.drop 2)
  | 49 =>
    let b2 := beAt p 2 1
    if bitOf b2 7 then startCode ++ [BitVec.ofNat 8 (b0 / 128 * 128 + b2 % 64 * 2 + b0 % 2)] ++ slice p 1 1 ++ p.drop 3
    else p.drop 3
  | t => if t < 48 then startCode ++ p else []

/-! ## Lines of ST 2110-20 (R157) -/

/-- A segment of a line: row, first pixel, bytes. -/
structure Srd where
  row : Nat
  x : Nat
  data : List Byte
deriving DecidableEq, Repr

/-- Row headers of a payload after its extended sequence number: length, row, offset. -/
def srdHeads : Nat → List Byte → List (Nat × Nat × Nat)
  | 0, _ => []
  | fuel + 1, bs =>
    let h := (beAt bs 0 2, beAt bs 2 2 % 32768, beAt bs 4 2 % 32768)
    if bs.length < 6 then [] else if bitOf (beAt bs 4 2) 15 then h :: srdHeads fuel (bs.drop 6) else [h]

/-- The segments of a payload. -/
def srdSegments (p : List Byte) : List Srd :=
  let hs := srdHeads p.length (p.drop 2)
  (hs.foldl (fun (acc : List Srd × List Byte) h =>
    (acc.1 ++ [⟨h.2.1, h.2.2, acc.2.take h.1⟩], acc.2.drop h.1)) ([], p.drop (2 + 6 * hs.length))).1

/-- Samples of `b` bits of a segment, in order. -/
def samplesOf (b : Nat) (data : List Byte) : List Nat :=
  let v := natBE data
  let n := data.length * 8 / b
  (List.range n).map (fun k => v / 2 ^ (data.length * 8 - (k + 1) * b) % 2 ^ b)

/-- Elements of plane `p` that a segment gives, in order (R157). -/
def segElems (fmt p : Nat) (depth8 : Bool) (data : List Byte) : List Nat :=
  if fmt = 1 then
    let sm := (samplesOf (if depth8 then 8 else 10) data).map (fun v => if depth8 then v * 4 else v)
    let g := List.range (sm.length / 4)
    if p = 0 then g.flatMap (fun k => [nth 0 sm (4 * k + 1), nth 0 sm (4 * k + 3)])
    else g.map (fun k => nth 0 sm (4 * k) + nth 0 sm (4 * k + 2) * 2 ^ 16)
  else
    let b := if fmt = 2 then 8 else 10
    let sm := samplesOf b data
    (List.range (sm.length / 3)).map (fun k =>
      (if fmt = 2 then 0xFF else 3) * 2 ^ (3 * b) + nth 0 sm (3 * k) * 2 ^ (2 * b) + nth 0 sm (3 * k + 1) * 2 ^ b +
        nth 0 sm (3 * k + 2))

/-- The writes of a payload's segments into a buffer, cut to the picture. -/
def segWrites (f : Surf) (depth8 : Bool) (p : List Byte) : List (Nat × List Byte) :=
  (srdSegments p).flatMap (fun g =>
    (List.range (planesOf f.fmt).length).filterMap (fun pl =>
      let x := if pl = 0 then g.x else g.x / 2
      let es := (segElems f.fmt pl depth8 g.data).take ((planeDims f.fmt pl f.w f.h).1 - x)
      if f.h ≤ g.row ∨ es.isEmpty then none
      else some (f.elemAddr pl x g.row, es.flatMap (fun e => bytesLE (planeOf f.fmt pl).size e))))

/-! ## The reorder window and frames in assembly (R153, R154, R162) -/

/-- A 16-bit sequence number taken as the nearest to extended number `h`. -/
def seqExt (h : Int) (v : Nat) : Int :=
  h + signed 16 (((v : Int) - h) % 65536).toNat

/-- Least of a list of numbers. -/
def minInt : List Int → Option Int
  | [] => none
  | a :: t => some (t.foldl min a)

/-- Lowest and highest number received of a frame. -/
def FrameAsm.lo (f : FrameAsm) : Int := (minInt (f.pkts.map (·.seq))).getD 0
def FrameAsm.hi (f : FrameAsm) : Int := (f.pkts.map (·.seq)).foldl max f.lo

/-- First number of a frame: the one after a marker or an adjacent packet, or the stream's first; else the lowest
received, until a lower packet settles it. (DEDUCED, log 47.) -/
def refreshFirst (seen : List (Int × Bool)) (start : Option Int) (f : FrameAsm) : FrameAsm :=
  let low := f.lo
  let kept := if f.known ∧ f.first ≤ low then f else { f with first := low, known := false }
  let below := (seen.filter (fun e => e.1 < low)).foldl (fun (b : Option (Int × Bool)) e =>
    match b with
    | some x => if x.1 < e.1 then some e else b
    | none => some e) none
  match below with
  | some (p, m) =>
    if p + 1 = low ∨ m then { f with first := p + 1, known := true }
    else if p < kept.first then kept else { f with first := low, known := false }
  | none => if start = some low then { f with first := low, known := true } else kept

/-- Numbers known to lie in the reorder window of frame `f` (R153): the window's, and where other frames begin. -/
def StreamRec.marks (r : StreamRec) (f : FrameAsm) : List Int :=
  (r.frames.filter (·.epoch == f.epoch)).map FrameAsm.lo ++
    (if f.epoch = r.epoch then r.seen.map (·.1) ++ r.closed.map (·.2) else [])

/-- Last number of a frame: its marker's, else the one before the next packet received of a later frame. -/
def StreamRec.last (r : StreamRec) (f : FrameAsm) : Int :=
  match f.pkts.find? (·.marker) with
  | some p => p.seq
  | none =>
    match minInt ((r.marks f).filter (fun q => f.hi < q)) with
    | some q => q - 1
    | none => f.hi

/-- Numbers of a frame that have not arrived (R153). (DEDUCED, log 47.) -/
def StreamRec.missing (r : StreamRec) (f : FrameAsm) : Nat :=
  (r.last f - f.first + 1).toNat - f.pkts.length

/-- Every packet from the frame's first number to its marker has arrived (R162). -/
def StreamRec.complete (r : StreamRec) (f : FrameAsm) : Bool :=
  f.known && f.pkts.any (·.marker) && r.missing f == 0

/-- The reorder window reset by a new SSRC (R154). The frames in assembly stay, each in the window it began in, and take
no packet of the new SSRC. (DESIGN CHOICE, log 80.) -/
def State.ssrcCheck (s : State) (i ssrc : Nat) : State :=
  let r := s.stream i
  if s.flag (F.INGR_CTRL_SSRC_MATCH i) then s
  else match r.ssrc with
  | none => s.setStream i { r with ssrc := some ssrc }
  | some old =>
    if old = ssrc then s
    else
      (s.setStream i { r with ssrc := some ssrc, epoch := r.epoch + 1, highest := none, seen := [], start := none,
                              closed := [], disc := true }).raise (F.INGR_STAT_SSRC_EV i)

/-- The extended number of a packet of the current reorder window (R153). -/
def StreamRec.ext (r : StreamRec) (seq : Nat) : Int :=
  match r.highest with
  | some h => seqExt h seq
  | none => seq

/-- A packet is a duplicate, older than the window, or of a frame that has closed (R153). R153 names the last case for a
packet inside the window; one ahead of the highest number is dropped in the same way, and is no accepted arrival.
(DEDUCED, log 47; DESIGN CHOICE, log 80.) -/
def StreamRec.late (r : StreamRec) (seq ts : Nat) : Bool :=
  let q := r.ext seq
  r.closed.any (·.1 == ts) || r.seen.any (·.1 == q) ||
  (match r.highest with | some h => decide (q < h - 64) | none => false)

/-- The frame in assembly of a timestamp in the current window. -/
def StreamRec.frameOf (r : StreamRec) (ts : Nat) : Option FrameAsm :=
  r.frames.find? (fun f => f.rtpTs == ts && f.epoch == r.epoch)

/-- Arrival of a packet at port `p` on time base `t` in ns, with the port's correction (R158, R605, R606). -/
def State.arrivalNs (s : State) (p t : Nat) : Nat :=
  s.tsValue t (s.word (R.TPORT_RX_ADJ p)) / 65536

/-- A packet of an entry's stream (R153, R154, R162, R168). (DEDUCED, log 47.) -/
def State.streamPacket (s : State) (i : Nat) (p : Rtp) : State :=
  let s := s.ssrcCheck i p.ssrc
  if (s.stream i).late p.seq p.ts then s.inc (F.INGR_LATE_CNT i)
  else
    let s := s.arrives i
    let r := s.stream i
    let pay := s.get (F.INGR_CTRL_PAYLOAD i)
    let q := r.ext p.seq
    let highest := match r.highest with | some h => max h q | none => q
    let seen := (r.seen ++ [(q, p.marker)]).filter (fun e => highest - 128 < e.1)
    let start := match r.highest with | none => some q | some _ => r.start
    let pkt : AsmPkt := ⟨q, p.marker, if pay = 3 then [] else p.payload⟩
    let arr := s.arrivalNs (s.get (F.INGR_MATCH_UNIT i)) (s.get (F.INGR_IDENT_TB i))
    let new : FrameAsm := { rtpTs := p.ts, epoch := r.epoch, arrival := arr, lastNs := s.ns,
                            buf := if pay = 3 then s.chooseBuf i else none }
    let old := r.frameOf p.ts
    let f := old.getD new
    let f := { f with pkts := f.pkts ++ [pkt], lastNs := s.ns }
    let (ok, s) := match s.ownBuf i f.buf with
      | some k => if f.refused then (true, s)
                  else s.writeAll ingrMaster (segWrites (s.ingrSurf i k) (Config.streamDepth8 i) p.payload)
      | none => (true, s)
    let f := { f with refused := f.refused || !ok }
    let same := fun g : FrameAsm => g.rtpTs == p.ts && g.epoch == r.epoch
    let frames := if old.isSome then r.frames.map (fun g => if same g then f else g) else r.frames ++ [f]
    let frames := frames.map (fun g => if g.epoch = r.epoch then refreshFirst seen start g else g)
    s.setStream i { s.stream i with highest := some highest, seen := seen, start := start, frames := frames }

/-- Bytes of a compressed or audio frame (R156). -/
def FrameAsm.data (f : FrameAsm) (payload : Nat) : List Byte :=
  let ps := f.pkts.mergeSort (fun a b => a.seq ≤ b.seq)
  ps.flatMap (fun p => match payload with
    | 1 => depack264 p.payload
    | 2 => depack265 p.payload
    | _ => p.payload)

/-- A frame of an Ethernet entry closes: stamp, descriptor, publication (R162 to R166). -/
def State.closeFrame (s : State) (i : Nat) (f : FrameAsm) : State :=
  let r := s.stream i
  let lost := r.missing f
  let pay := s.get (F.INGR_CTRL_PAYLOAD i)
  let (cap, timed, ahd) := s.captureTime i f.rtpTs f.arrival
  let s := (s.setStream i { r with frames := r.frames.filter (fun g => !(g.rtpTs == f.rtpTs && g.epoch == f.epoch)),
                                   closed := if f.epoch = r.epoch then ((f.rtpTs, f.first) :: r.closed).take 66
                                             else r.closed }).add (F.INGR_LOST_PKTS_CNT i) lost
  let sig := match s.ownBuf i f.buf with | some k => s.signatureAt (s.ingrSurf i k) | none => 0
  let (t, s) := s.makeStamp i
    { sourceId := 0, tb := 0, captureTime := cap, seq := 0, alive := 0, degraded := pay == 3 && lost != 0,
      overrun := false, arrivalTimed := timed, concealed := false, signature := if pay = 3 then sig else 0 }
  let d : Desc := { stamp := t, rtpTs := f.rtpTs, pkts := f.pkts.length % 65536, lost := lost % 65536,
                    arrival := f.arrival % 2 ^ 48,
                    flags := descFlags (lost != 0) (s.stream i).disc ahd (f.pkts.any (·.marker)),
                    rtpSeq := (f.first % 65536).toNat + (r.last f % 65536).toNat * 65536 }
  if pay = 3 then s.publishBuf i d f.buf f.refused else s.publishData i d (f.data pay)

/-- The oldest complete frame of an entry closes (FRAME_CLOSE); of an audio entry every packet is a frame. -/
def State.frameClose (s : State) (i : Nat) : State :=
  if !s.flag (F.INGR_CTRL_ENABLE i) || s.get (F.INGR_CTRL_KIND i) != 1 || s.inReset.isSome || s.cut .ingress 0 then s
  else match (s.stream i).frames.find? (fun f =>
      s.get (F.INGR_CTRL_PAYLOAD i) == 4 || (s.stream i).complete f) with
  | some f => s.closeFrame i f
  | none => s

/-- A packet of a later RTP timestamp than frame `f`'s has arrived (R162). For a frame of an earlier reorder window every
packet of the new SSRC counts as one. (DESIGN CHOICE, log 80.) -/
def StreamRec.overtaken (r : StreamRec) (f : FrameAsm) : Bool :=
  let after := fun t : Nat => decide (0 < signed 32 ((t + 2 ^ 32 - f.rtpTs) % 2 ^ 32))
  f.epoch != r.epoch || r.frames.any (fun g => after g.rtpTs) || r.closed.any (fun e => after e.1)

/-- A packet of a later RTP timestamp has arrived and 2 ms have passed without a packet of the frame (FRAME_CLOSE_TIMER,
R162). -/
def State.frameTimer (s : State) (i : Nat) : State :=
  let fs := (s.stream i).frames
  if !s.flag (F.INGR_CTRL_ENABLE i) || s.get (F.INGR_CTRL_KIND i) != 1 || s.inReset.isSome || s.cut .ingress 0 then s
  else match fs.find? (fun f => 2000000 ≤ s.ns - f.lastNs ∧ (s.stream i).overtaken f) with
  | some f => s.closeFrame i f
  | none => s

/-! ## Ethernet reception and transmission (R150, R151, R176) -/

/-- A software queue slot's header and frame (R176). -/
def slotBytes (trunc : Bool) (ts : Nat) (bs : List Byte) : List Byte :=
  bytesLE 2 bs.length ++ bytesLE 2 (b2n trunc + 2 * b2n (beAt bs 12 2 == 0x8100)) ++ bytesLE 4 0 ++ bytesLE 8 ts ++ bs

/-- A frame for the software receive queue of port `p`: its SFD timestamp is TB0's with the port's correction
(R176, R605). R176 does not say that RX_UNMATCHED counts only frames that are stored, nor counts a frame to a queue that
is disabled: it counts every frame that goes to the queue, and a disabled queue drops it without another count.
(DEDUCED, log 47; DESIGN CHOICE, log 80.) -/
def State.toRxQueue (s : State) (p : Nat) (bs : List Byte) : State :=
  let s := s.inc (F.INGRP_RX_UNMATCHED_CNT p)
  if !s.flag (F.INGRP_QCFG_RXQ_EN p) then s
  else
    let log2 := s.get (F.INGRP_QCFG_RXQ_LOG2 p)
    let wr := s.get (F.INGRP_RXQ_WR_IDX p)
    if ahead wr (s.get (F.INGRP_RXQ_RD_IDX p)) = 2 ^ log2 then s.inc (F.INGRP_RX_OVF_CNT p)
    else
      let s := s.ptpStamp p false bs
      let a := s.addrPair (R.INGRP_RXQ_BASE_LO p) (R.INGRP_RXQ_BASE_HI p) + wr % 2 ^ log2 * 2048
      let (ok, s) := s.unitWrite ingrMaster a (slotBytes (decide (2032 < bs.length)) (s.arrivalNs p 0 % 2 ^ 48) (bs.take 2032))
      s.cond ok (·.bump (F.INGRP_RXQ_WR_IDX p))

/-- MACsec is enabled on a port (R91, R151). -/
def State.macsecOn (s : State) (p : Nat) : Bool :=
  match s.res 0x09 p with
  | some v => bitOf v 8
  | none => false

/-- SAKs installed in a port's MACsec engine for a direction (R767). (DEDUCED, log 49.) -/
def State.saksOf (s : State) (p : Nat) (rx : Bool) : List (List Byte) :=
  (s.saks.filter (fun k => k.port == p && k.rx == rx)).map (·.key)

/-- The frame within a received one; none where validation fails. (DEDUCED, log 49.) -/
def State.macsecRx (s : State) (p : Nat) (bs : List Byte) : Option (List Byte) :=
  if s.macsecOn p then (s.saksOf p true).findSome? (fun k => Config.macsecOpen s.free k bs) else some bs

/-- A received Ethernet frame (ETH_PACKET_RX). (PRESUMED, log 46.) -/
def State.ethRx (s : State) (p : Nat) (pkt : Packet) : State :=
  if !s.answers .eth p 0 || s.inReset.isSome || s.applying.isSome || s.cut .ingress 0 || 9216 < pkt.bytes.length then s
  else if !pkt.fcsOk then s.inc (F.INGRP_RX_BAD_CNT p)
  else match s.macsecRx p pkt.bytes with
  | none => s.useFree.inc (F.INGRP_RX_BAD_CNT p)
  | some bs =>
    let s := s.cond (s.macsecOn p) (·.useFree)
    match parseFrame bs with
    | .bad => s.inc (F.INGRP_RX_BAD_CNT p)
    | .other => s.toRxQueue p bs
    | .udp u =>
      match parseRtp u.payload with
      | none => s.toRxQueue p bs
      | some r =>
        match s.entryFor p u r with
        | some i => s.streamPacket i r
        | none => s.toRxQueue p bs

/-- The next transmit slot of a port is sent (ETH_TX_SLOT, R176, R607). -/
def State.ethTx (s : State) (p : Nat) : State :=
  let rd := s.get (F.INGRP_TXQ_RD_IDX p)
  if !s.answers .eth p 0 || s.inReset.isSome || s.cut .ingress 0 || !s.flag (F.INGRP_QCFG_TXQ_EN p) ||
      s.get (F.INGRP_TXQ_WR_IDX p) == rd then s
  else
    let a := s.addrPair (R.INGRP_TXQ_BASE_LO p) (R.INGRP_TXQ_BASE_HI p) +
      rd % 2 ^ s.get (F.INGRP_QCFG_TXQ_LOG2 p) * 2048
    let (x, s) := s.unitRead ingrMaster a 2048
    let s := s.bump (F.INGRP_TXQ_RD_IDX p)
    match x with
    | none => s
    | some slot =>
      let bs := slice slot 16 (min 2032 (leAt slot 0 2))
      let s := s.ptpStamp p true bs
      if !s.macsecOn p then s.emit (.eth p bs)
      else match s.saksOf p false with
      | k :: _ => s.useFree.emit (.eth p (Config.macsecSeal s.free k bs))
      | [] => s

/-! ## Silence comparisons (R172, R173) -/

/-- The timeout of an entry in ns (R173); none where it is off. -/
def State.timeoutNs (s : State) (i : Nat) : Option Nat :=
  match s.get (F.INGR_TIMING_TIMEOUT i) with
  | 0 => none
  | v => some (max 10 v * 1000000)

/-- One entry at a comparison: silence closes the frames of an Ethernet entry (R162). -/
def State.compareEntry (s : State) (i : Nat) : State :=
  if !s.flag (F.INGR_CTRL_ENABLE i) then s
  else
    let inj := s.injArmed 0x19 i
    let s := s.injSpend 0x19 i
    let due := match s.timeoutNs i with
      | some t => decide (t < s.ns - (s.stream i).lastNs)
      | none => false
    if s.flag (F.INGR_STAT_SILENT i) || !(due || inj) then s
    else
      let s := s.cond (s.get (F.INGR_CTRL_KIND i) == 1) fun s => (s.stream i).frames.foldl (fun s f => s.closeFrame i f) s
      let s := ((s.raise (F.INGR_STAT_SILENT i)).drop (F.INGR_STAT_ACTIVE i)).raise (F.INGR_STAT_TIMEOUT_EV i)
      (s.detectWith inj 0x19 i (s.word (R.INGR_LAST i))).postTimeout i

/-- The comparison of every entry (SILENCE_COMPARE). -/
def State.silenceCompare (s : State) : State :=
  if s.inReset.isSome || s.cut .ingress 0 then s else (List.range 512).foldl State.compareEntry s

/-! ## Enable and disable (R145 to R149, R190) -/

/-- KIND and PAYLOAD form a combination (R142). -/
def payloadOk (kind payload : Nat) : Bool :=
  (kind == 1 && 1 ≤ payload && payload ≤ 4) || (kind == 2 && payload == 5) || (kind == 3 && payload == 6)

/-- The unit that an entry names is used by the plan. -/
def State.entryUnit (s : State) (kind unit : Nat) : Bool :=
  match kind with
  | 1 => s.answers .eth unit 0
  | 2 => s.answers .snk unit 0
  | _ => s.answers .wallLink 0 0

/-- SOURCE_ID is in use by another enabled entry or an enabled write-back (R145). -/
def State.sourceTaken (s : State) (i id : Nat) : Bool :=
  (List.range 512).any (fun j => j != i && s.flag (F.INGR_CTRL_ENABLE j) && s.get (F.INGR_IDENT_SOURCE_ID j) == id) ||
  (List.range 32).any (fun n => s.hasWb n && s.flag (F.COMP_WB_CTRL_EN n) && s.get (F.COMP_WB_IDENT_SOURCE_ID n) == id)

/-- The entry's memory overlaps that of another enabled entry or a software queue (R190). (DESIGN CHOICE, log 21.) -/
def State.entryOverlaps (s : State) (i : Nat) : Bool :=
  s.areaClash (fun o => match o with
    | .entry j => j != i
    | .ethQueue _ => true
    | _ => false) (s.entryAreas i)

/-- Enabled decode contexts whose memory the entry's overlaps (R234). (DESIGN CHOICE, log 21.) -/
def State.entryOverDec (s : State) (i : Nat) : List Nat :=
  (List.range 128).filter (fun c => s.areaClash (· == .dec c) (s.entryAreas i))

/-- An enable of entry `i` is refused (R145). R186 gives the ranges of WIDTH and HEIGHT and no effect of a value outside
them: such an entry is enabled and stores pictures of that size. (DESIGN CHOICE, log 80.) -/
def State.entryRefused (s : State) (i : Nat) : Bool :=
  let kind := s.get (F.INGR_CTRL_KIND i)
  let pay := s.get (F.INGR_CTRL_PAYLOAD i)
  let tb := s.get (F.INGR_IDENT_TB i)
  let dl := s.get (F.INGR_RING_DESC_LOG2 i)
  let ring := s.get (F.INGR_RING_DATA_LOG2 i)
  !payloadOk kind pay || !s.entryUnit kind (s.get (F.INGR_MATCH_UNIT i)) ||
  !(decide (tb < s.variant.tb) && s.named 0x0B tb) || s.sourceTaken i (s.get (F.INGR_IDENT_SOURCE_ID i)) ||
  !(1 ≤ dl && dl ≤ 12) || ((pay != 3 && pay != 5) && !(16 ≤ ring && ring ≤ 28)) ||
  ((pay == 3 || pay == 5) && s.get (F.INGR_RING_BUF_PAGES i) * 4096 < (s.ingrSurf i 0).bytes)

/-- A reserved CLK_RATE or FORMAT in an enable (R190). -/
def State.entryReserved (s : State) (i : Nat) : Bool :=
  let pay := s.get (F.INGR_CTRL_PAYLOAD i)
  let fmt := s.get (F.INGR_PICTURE_FORMAT i)
  s.get (F.INGR_TIMING_CLK_RATE i) == 3 || ((pay == 3 || pay == 5) && !(1 ≤ fmt && fmt ≤ 3))

/-- First and last address of an entry's registers. -/
def State.entryUnpred (s : State) (i master : Nat) : State :=
  s.unpredictable master (R.INGR_CTRL i) (R.INGR_CTRL i + 0x7F)

/-- An UNPREDICTABLE outcome confined to a decode context (R234). -/
def State.decUnpred (s : State) (c master : Nat) : State :=
  s.unpredictable master (R.DEC_CTRL c) (R.DEC_CTRL c + 0xFF)

/-- The counters, indices and assembly of an entry restart (R148, R149). -/
def State.entryRestart (s : State) (i : Nat) : State :=
  let s := (((s.set (F.INGR_WR_IDX_IDX i) 0).set (F.INGR_RD_IDX_IDX i) 0).setWord (R.INGR_LAST i) 0)
  let s := (((s.setWord (R.INGR_FRAMES i) 0).setWord (R.INGR_LOST_PKTS i) 0).setWord (R.INGR_DROPS i) 0).setWord (R.INGR_LATE i) 0
  { s.setStream i {} with ringRetired := Tbl.del s.ringRetired (ringKey 0 i) }

/-- An entry that passed its checks is enabled (R149, R172). R189's "enabled and receiving" does not say what ACTIVE holds
before the first arrival: it sets at once unless the entry is silent. (DESIGN CHOICE, log 80.) -/
def State.entryEnable (s : State) (i : Nat) : State :=
  let s := (s.entryRestart i).raise (F.INGR_CTRL_ENABLE i)
  (s.setStream i { s.stream i with lastNs := s.ns }).put (F.INGR_STAT_ACTIVE i) (!s.flag (F.INGR_STAT_SILENT i))

/-- ENABLE of an entry clears (R147): its frames are discarded, it is silent from now on, and TIMEOUT is posted. -/
def State.entryDisable (s : State) (i : Nat) : State :=
  let s := s.setStream i { s.stream i with frames := [] }
  (((s.drop (F.INGR_CTRL_ENABLE i)).drop (F.INGR_STAT_ACTIVE i)).raise (F.INGR_STAT_SILENT i)).postTimeout i

/-- A write of STREAM.CTRL (R145 to R149, R181). -/
def State.writeStreamCtrl (s : State) (i : Nat) (w : Wr) : State :=
  s.guarded (G.INGR_CTRL i) w fun s =>
    let v := w.data.toNat
    if s.flag (F.INGR_CTRL_ENABLE i) then
      let s := s.cond (v % 2 ^ 31 != s.word (R.INGR_CTRL i) % 2 ^ 31) (·.raise (F.INGR_STAT_CFG_REJ i))
      if bitOf v 31 then s else s.entryDisable i
    else
      let s := s.setWord (R.INGR_CTRL i) (v % 2 ^ 31)
      if !bitOf v 31 then s
      else if s.entryRefused i then s.raise (F.INGR_STAT_CFG_REJ i)
      else if s.entryReserved i || s.entryOverlaps i then s.entryUnpred i w.master
      else (s.entryOverDec i).foldl (fun s c => s.decUnpred c w.master) (s.entryEnable i)

/-- A write of RD_IDX (R169, R190). -/
def State.writeStreamRd (s : State) (i : Nat) (w : Wr) : State :=
  s.guarded (G.INGR_RD_IDX i) w fun s =>
    let v := w.data.toNat % 65536
    let rd := s.get (F.INGR_RD_IDX_IDX i)
    if ahead (s.get (F.INGR_WR_IDX_IDX i)) rd < ahead v rd then s.entryUnpred i w.master
    else s.set (F.INGR_RD_IDX_IDX i) v

/-- Registers of an enabled entry that a write may change (R146). -/
def entryOpen (a : Nat) : Bool :=
  let o := (a - R.INGR_CTRL 0) % 0x80
  o == 0x00 || o == 0x50 || o == 0x54 || o == 0x58

/-- Every entry at plan apply, and the software queues (R147, R148). -/
def State.ingrApply (s : State) : State :=
  let s := (List.range 512).foldl (fun s i =>
    let s := s.cond (s.flag (F.INGR_CTRL_ENABLE i)) fun s => ((s.drop (F.INGR_CTRL_ENABLE i)).drop (F.INGR_STAT_ACTIVE i)).raise (F.INGR_STAT_SILENT i)
    s.entryRestart i) s
  (List.range 8).foldl (fun s p =>
    (((s.set (F.INGRP_RXQ_WR_IDX p) 0).set (F.INGRP_RXQ_RD_IDX p) 0).set (F.INGRP_TXQ_WR_IDX p) 0).set (F.INGRP_TXQ_RD_IDX p) 0) s

end Sys2Proof.Machine
end

