-- ==== Sys2Proof/Machine/AudioOps.lean ====
section
/-! DEFINITION. Serial audio ports (chapter 18): sources and destinations, play-out, slips and groups, gates, slot
masks. -/

namespace Sys2Proof.Machine

/-- Identifier of port `p`'s checker (R575). -/
def sapMaster (p : Nat) : Nat := 0x58 + p

/-- Bit clocks of a slot. -/
def slotW (code : Nat) : Nat :=
  match code with
  | 0 => 16
  | 1 => 24
  | _ => 32

/-! ## Groups and clocks (R690, R691, R701) -/

/-- Running ports that share a port's group, itself included, in ascending order; a port without a group stands alone. -/
def State.sapMembers (s : State) (p : Nat) : List Nat :=
  let g := s.get (F.SAP_ROUTE_GROUP p)
  if g = 0 then [p]
  else (List.range 8).filter (fun q => s.named 0x0C q && s.flag (F.SAP_STAT_RUNNING q) && s.get (F.SAP_ROUTE_GROUP q) == g)

/-- The running port of lowest index of a port's group. -/
def State.sapLeader (s : State) (p : Nat) : Option Nat :=
  if s.get (F.SAP_ROUTE_GROUP p) = 0 then none else (s.sapMembers p).head?

/-- The port's frame clock comes from another port. -/
def State.sapFollows (s : State) (p : Nat) : Bool :=
  match s.sapLeader p with
  | some q => q != p
  | none => false

/-- Frequency of the audio PLL in Hz (R690). -/
def State.audioHz (s : State) : Nat :=
  if s.flag F.AUDG_PLL_CFG_FREQ then 45158400 else 49152000

/-- Sample period of a port in 2^-16 ns, by its leader's clock; a slave's by MEAS_FS (R691, R692). (DEDUCED, log 52.) -/
def State.sapPeriod (s : State) (p : Nat) : Nat :=
  let q := (s.sapLeader p).getD p
  if s.flag (F.SAP_FMT_MASTER q) then
    let adj := clampInt (-(2 ^ 20)) (2 ^ 20) (signed 32 (s.word R.AUDG_PLL_ADJ))
    let hz : Nat := ((s.audioHz * 2 ^ 32 : Nat) + s.audioHz * adj).toNat
    s.get (F.SAP_FMT_SLOTS q) * slotW (s.get (F.SAP_FMT_SLOT_W q)) * s.word (R.SAP_DIV q) * 1000000000 * 2 ^ 32 / hz
  else 16 * 1000000000 * 2 ^ 16 / max 1 (s.get (F.SAP_MEAS_FS_FS q))

/-! ## Slots and samples (R694, R695) -/

/-- Slots of a mask, ascending. -/
def slotsOf (mask : Nat) : List Nat :=
  (List.range 16).filter (fun i => bitOf mask i)

/-- Transmit slots in force. -/
def State.txSlots (s : State) (p : Nat) : List Nat := slotsOf ((s.sap p).mask / 2 ^ 16)
/-- Receive slots in force. -/
def State.rxSlots (s : State) (p : Nat) : List Nat := slotsOf ((s.sap p).mask % 2 ^ 16)

/-- Bytes of a sample in memory. -/
def State.sampleBytes (s : State) (p : Nat) : Nat :=
  if s.flag (F.SAP_FMT_PACK p) then 4 else 3

/-- A sample of SAMPLE_W bits in 24. -/
def State.widen (s : State) (p v : Nat) : Nat :=
  if s.get (F.SAP_FMT_SAMPLE_W p) = 0 then v % 65536 * 256 else v % 2 ^ 24

/-- A sample of 24 bits as it is sent. -/
def State.narrow (s : State) (p v : Nat) : Nat :=
  if s.get (F.SAP_FMT_SAMPLE_W p) = 0 then v / 256 % 65536 else v % 2 ^ 24

/-- Pieces of a ring access that may wrap: address and length. -/
def ringPieces (base log2 idx n : Nat) : List (Nat × Nat) :=
  let o := idx % 2 ^ log2
  let first := min n (2 ^ log2 - o)
  (base + o, first) :: (if first < n then [(base, n - first)] else [])

/-- A sample frame read from the transmit ring (R695); none where there is none or the read is refused. -/
def State.ringRead (s : State) (p : Nat) : Option (List Nat) × State :=
  let b := s.sampleBytes p
  let n := (s.txSlots p).length * b
  let rd := s.word (R.SAP_TX_RD p)
  if n = 0 ∨ (s.word (R.SAP_TX_WR p) + 2 ^ 32 - rd) % 2 ^ 32 < n then (none, s)
  else
    let base := s.addrPair (R.SAP_TX_BASE_LO p) (R.SAP_TX_BASE_HI p)
    let (x, s) := (ringPieces base (s.get (F.SAP_TX_RING_RING_LOG2 p)) rd n).foldl (fun (x, s) (a, k) =>
      match x with
      | none => (none, s)
      | some bs =>
        let (y, s) := s.unitRead (sapMaster p) a k
        (y.map (bs ++ ·), s)) (some [], s)
    (x.map (fun bs => (List.range (s.txSlots p).length).map (fun i => leAt bs (i * b) 3)), s)

/-- The transmit ring's read index moves past a frame. -/
def State.ringNext (s : State) (p : Nat) : State :=
  s.setWord (R.SAP_TX_RD p) ((s.word (R.SAP_TX_RD p) + (s.txSlots p).length * s.sampleBytes p) % 2 ^ 32)

/-- A sample frame for the receive ring (R695): whether it was taken. -/
def State.ringWrite (s : State) (p : Nat) (frame : List Nat) : Bool × State :=
  let b := s.sampleBytes p
  let n := frame.length * b
  let log2 := s.get (F.SAP_RX_RING_RING_LOG2 p)
  let wr := s.word (R.SAP_RX_WR p)
  if 2 ^ log2 < (wr + 2 ^ 32 - s.word (R.SAP_RX_RD p)) % 2 ^ 32 + n then (false, s)
  else
    let bs := frame.flatMap (fun v => bytesLE b (v % 2 ^ 24))
    let base := s.addrPair (R.SAP_RX_BASE_LO p) (R.SAP_RX_BASE_HI p)
    let (ok, _, s) := (ringPieces base log2 wr n).foldl (fun (ok, o, s) (a, k) =>
      let (y, s) := s.unitWrite (sapMaster p) a (slice bs o k)
      (ok && y, o + k, s)) (true, 0, s)
    (ok, if ok then s.setWord (R.SAP_RX_WR p) ((wr + n) % 2 ^ 32) else s)

/-! ## Packets of stamped sources (R693, R696, R697) -/

/-- A packet goes into the store of 16 KiB, or is dropped (R696). -/
def State.sapStore (s : State) (p : Nat) (k : AudPkt) : State :=
  let r := s.sap p
  if 16384 < r.store.foldl (fun n x => n + x.bytes) 0 + k.bytes then s.inc (F.SAP_PKT_DROPS_CNT p)
  else s.setSap p { r with store := r.store ++ [k] }

/-- Sample frames of an ST 2110-30 payload (R694). -/
def audioFrames (channels : Nat) (l16 : Bool) (bs : List Byte) : List (List Nat) :=
  let b := if l16 then 2 else 3
  let n := bs.length / max 1 (channels * b)
  (List.range n).map (fun f => (List.range channels).map (fun c =>
    let v := beAt bs ((f * channels + c) * b) b
    if l16 then v * 256 else v))

/-- The next descriptor of the entry that a port plays (R696). -/
def State.sapPullOne (s : State) (p i : Nat) : State :=
  let r := s.ring 0 i
  let rd := s.get r.rd
  if s.get r.wr = rd then s
  else
    let (d, s) := s.readDesc (sapMaster p) r.base r.log2 rd
    let s' := s.bump r.rd
    match d with
    | none => s'
    | some d =>
      let (x, s) := s.unitRead (sapMaster p)
        (s.addrPair (R.INGR_DATA_BASE_LO i) (R.INGR_DATA_BASE_HI i) + d.dataOffset) d.dataLen
      let s := s.bump r.rd
      match x with
      | none => s
      | some bs =>
        s.sapStore p { time := d.stamp.captureTime, tb := d.stamp.tb, bytes := bs.length,
                       period := 1000000000 * 2 ^ 16 / clkRate (s.get (F.INGR_TIMING_CLK_RATE i)),
                       frames := audioFrames (Config.audioChannels i) (Config.audioL16 i) bs }

/-- Every descriptor that waits at the entry that a port plays. -/
def State.sapPull (s : State) (p : Nat) : State :=
  let i := s.get (F.SAP_BIND_ENTRY p)
  if s.get (F.SAP_ROUTE_TX_SRC p) ≠ 1 ∨ s.get (F.INGR_CTRL_PAYLOAD i) ≠ 4 ∨ ¬ s.flag (F.INGR_CTRL_ENABLE i) then s
  else (List.range (ahead (s.get (F.INGR_WR_IDX_IDX i)) (s.get (F.INGR_RD_IDX_IDX i)))).foldl (fun s _ => s.sapPullOne p i) s

/-- A wall-link AUDIO frame for every running port bound to its channel and tag (R491, R693). (DESIGN CHOICE, log 48.) -/
def State.sapAudio (s : State) (vc tag : Nat) (payload : List Byte) : State :=
  let ch := leAt payload 1 1
  let n := leAt payload 2 2
  let frames := (List.range n).map (fun f => (List.range ch).map (fun c => leAt payload (12 + (f * ch + c) * 4) 3))
  (List.range 8).foldl (fun s p =>
    s.cond (s.named 0x0C p && s.flag (F.SAP_STAT_RUNNING p) && s.get (F.SAP_ROUTE_TX_SRC p) == 2 &&
        s.get (F.SAP_BIND_VC p) == vc && s.get (F.SAP_BIND_TAG p) == tag) fun s =>
      s.sapStore p { time := leAt payload 4 8 % 2 ^ 48, tb := s.get (F.SAP_ROUTE_TB p), period := s.sapPeriod p,
                     bytes := payload.length, frames := frames }) s

/-! ## The transmit path of one frame (R698 to R700) -/

/-- The packet and frame about to be sent; packets that have gone whole leave the store. -/
def sapHead (store : List AudPkt) : List AudPkt :=
  store.dropWhile (fun k => k.frames.length ≤ k.gone)

/-- The head frame leaves. -/
def sapNext (store : List AudPkt) : List AudPkt :=
  match sapHead store with
  | k :: t => { k with gone := k.gone + 1 } :: t
  | [] => []

/-- The path is untimed (R699). -/
def State.sapUntimed (s : State) (p : Nat) : Bool :=
  s.get (F.SAP_ROUTE_TX_SRC p) == 0 || s.get (F.SAP_LATENCY_US p) == 0 ||
  !(s.tbInUse (s.get (F.SAP_ROUTE_TB p)) && s.tbLocked (s.get (F.SAP_ROUTE_TB p))) ||
  (match sapHead (s.sap p).store with | k :: _ => k.tb != s.get (F.SAP_ROUTE_TB p) | [] => false)

/-- `e` of the head frame in 2^-16 ns (R697, R698). -/
def State.sapLate (s : State) (p : Nat) (k : AudPkt) : Int :=
  let due := (k.time + s.get (F.SAP_LATENCY_US p) * 1000) * 2 ^ 16 + k.gone * k.period
  signed 64 ((s.tb48 (s.get (F.SAP_ROUTE_TB p)) * 2 ^ 16 + 2 ^ 64 - due % 2 ^ 64) % 2 ^ 64)

/-- What a transmit path needs in a frame: nothing, a drop, a repeat. -/
inductive Slip where
  | none | drop | rep
deriving DecidableEq, Repr

/-- Frames that are late when play starts leave (R698). (DEDUCED, log 52.) -/
def State.sapSkip : Nat → State → Nat → State
  | 0, s, _ => s
  | fuel + 1, s, p =>
    match sapHead (s.sap p).store with
    | k :: _ =>
      if (s.sapPeriod p : Int) ≤ s.sapLate p k then
        (s.setSap p { s.sap p with store := sapNext (s.sap p).store }).sapSkip fuel p
      else s
    | [] => s

/-- A path that does not play yet starts where its head frame falls due (R698). -/
def State.sapArm (s : State) (p : Nat) : State :=
  if (s.sap p).live then s
  else if s.sapUntimed p then
    s.cond (s.get (F.SAP_ROUTE_TX_SRC p) == 0 || !(sapHead (s.sap p).store).isEmpty) fun s => s.setSap p { s.sap p with live := true }
  else
    let s := s.sapSkip (((s.sap p).store.map (fun k => k.frames.length)).foldl (· + ·) 0 + 1) p
    match sapHead (s.sap p).store with
    | k :: _ => s.cond (-(s.sapPeriod p : Int) ≤ 2 * s.sapLate p k) fun s => s.setSap p { s.sap p with live := true }
    | [] => s

/-- The slip that the transmit path of a running port calls for, with the frame read from memory where it plays a memory
ring. -/
def State.sapWish (s : State) (p : Nat) : Slip × Option (List Nat) × State :=
  if (s.txSlots p).isEmpty then (.none, none, s)
  else if s.get (F.SAP_ROUTE_TX_SRC p) = 0 then
    let (x, s) := s.ringRead p
    (if x.isSome then .none else .rep, x, s)
  else if !(s.sap p).live then (.none, none, s)
  else
    match sapHead (s.sap p).store with
    | [] => (.rep, none, s)
    | k :: _ =>
      let f := nth [] k.frames k.gone
      let e := s.sapLate p k
      if s.sapUntimed p then (.none, some f, s)
      else if (s.sapPeriod p : Int) ≤ e then (.drop, some f, s)
      else if e ≤ -(s.sapPeriod p : Int) then (.rep, some f, s)
      else (.none, some f, s)

/-- Channels of a frame on the transmit slots, 0 where there is none (R694). -/
def onSlots (slots frame : List Nat) : List Nat :=
  (List.range 16).map (fun i => if slots.contains i then nth 0 frame (slots.idxOf i) else 0)

/-- Gate changes of a frame (R703): a slot changes at a zero, at a change of sign, or after the timeout. -/
def State.sapGate (s : State) (p : Nat) (samples : List Nat) : List Nat × State :=
  let r := s.sap p
  let held := (List.range 16).map (fun i => nth true r.gated i)
  let now := (List.range 16).map (fun i =>
    match r.gate with
    | some (target, t, out) =>
      let v := nth 0 samples i
      let due := out || s.get (F.SAP_ZC_MS p) == 0 || decide (min 100 (s.get (F.SAP_ZC_MS p)) * 1000000 ≤ s.ns - t)
      if due || v == 0 || bitOf v 23 != bitOf (nth 0 r.prev i) 23 then target else nth true held i
    | none => nth true held i)
  let done := match r.gate with
    | some (target, _, _) => (s.txSlots p).all (fun i => nth true now i == target)
    | none => false
  let s := s.setSap p { r with gated := now, prev := samples, gate := if done then none else r.gate }
  let s := s.cond done (·.raise (F.SAP_EVT_ZC_EV p))
  ((List.range 16).map (fun i => if nth true now i then 0 else nth 0 samples i), s)

/-- A slot on SDO (R688): the sample most significant bit first, left-aligned, then 0. -/
def slotBits (slotW sampleW v : Nat) : List Bool :=
  (List.range slotW).map (fun i => decide (i < sampleW) && bitOf v (sampleW - 1 - i))

/-- FS in BCLK period `k` of a frame (R688): I2S low, and left-justified high, for slot 0; TDM high for the first period. -/
def fsLevel (format slotW k : Nat) : Bool :=
  match format with
  | 0 => decide (slotW ≤ k)
  | 1 => decide (k < slotW)
  | _ => k == 0

/-- Samples of a frame, by slot, at the port's pins (R688). -/
def State.sapWire (s : State) (p : Nat) (samples : List Nat) : SapWire :=
  let w := slotW (s.get (F.SAP_FMT_SLOT_W p))
  let n := s.get (F.SAP_FMT_SLOTS p)
  let format := s.get (F.SAP_FMT_FORMAT p)
  { first := if format = 0 then 1 else if format = 1 then 0 else s.get (F.SAP_FMT_DELAY p)
    fs := (List.range (n * w)).map (fsLevel format w)
    sdo := (List.range n).flatMap (fun i => slotBits w (if s.get (F.SAP_FMT_SAMPLE_W p) = 0 then 16 else 24) (nth 0 samples i)) }

/-- PLL periods of BCLK period `k` of a master port (R691): floor(DIV) or one more, DIV in the mean over every 65,536; which of
them are the longer ones is the free `Config.bclkPhase`. (DEDUCED, log 52.) -/
def State.bclkPeriods (s : State) (p k : Nat) : Nat :=
  let div := s.word (R.SAP_DIV p)
  let long := fun j => (div % 65536 * j + Config.bclkPhase p) / 65536
  div / 65536 + (long (k + 1) - long k)

/-- BCLK is high for half the period, rounded down (R691). -/
def State.bclkHigh (s : State) (p k : Nat) : Nat := s.bclkPeriods p k / 2

/-- PLL periods of MCLK, where it is driven (R691). -/
def State.mclkPeriods (s : State) (p : Nat) : Option Nat :=
  if s.flag (F.SAP_FMT_MCLK_EN p) then some (s.get (F.SAP_FMT_MCLK_DIV p) + 1) else none

/-- A frame goes out of port `p`. -/
def State.sapSend (s : State) (p : Nat) (frame : List Nat) : State :=
  let (out, s) := s.sapGate p (onSlots (s.txSlots p) frame)
  let samples := out.map (s.narrow p)
  s.emit (.audio p samples (s.sapWire p samples))

/-- PERIOD_EV after every PERIOD frames moved (R695). -/
def State.sapMoved (s : State) (p : Nat) : State :=
  let r := s.sap p
  let n := s.get (F.SAP_PERIOD_FRAMES p)
  if n ≠ 0 ∧ n ≤ r.moved + 1 then (s.setSap p { r with moved := 0 }).raise (F.SAP_EVT_PERIOD_EV p)
  else s.setSap p { r with moved := r.moved + 1 }

/-- A frame of a source has been consumed. -/
def State.sapConsume (s : State) (p : Nat) : State :=
  if s.get (F.SAP_ROUTE_TX_SRC p) = 0 then (s.ringNext p).sapMoved p
  else s.setSap p { s.sap p with store := sapNext (s.sap p).store }

/-- The transmit path of a frame under the slip in force; `own` is the path's own wish, `frame` its head frame. -/
def State.sapTx (s : State) (p : Nat) (slip own : Slip) (frame : Option (List Nat)) : State :=
  if (s.txSlots p).isEmpty then s
  else if s.flag (F.SAP_STAT_STARVED p) && frame.isNone then s.sapSend p []
  else
    let missing := frame.isNone && own == .rep
    let n := if missing then (s.sap p).misses + 1 else 0
    let s := s.setSap p { s.sap p with misses := n }
    if 4 ≤ n then
      ((s.setSap p { s.sap p with live := false }).raise (F.SAP_STAT_STARVED p)).sapSend p []
    else match slip, frame with
    | .rep, _ => s.sapSend p (s.sap p).sent
    | .drop, some _ =>
      let s := s.sapConsume p
      let (_, next, s) := s.sapWish p
      match next with
      | some f => ((s.setSap p { s.sap p with sent := f }).sapConsume p).sapSend p f
      | none => s.sapSend p (s.sap p).sent
    | _, some f => (((s.setSap p { s.sap p with sent := f }).sapConsume p).drop (F.SAP_STAT_STARVED p)).sapSend p f
    | _, none => s.sapSend p (if missing then (s.sap p).sent else [])

/-! ## The receive path of one frame (R693, R695, R700) -/

/-- The wall link takes AUDIO frames of a port, of no more than 1,012 bytes of samples (R693). (DEDUCED, log 52.) -/
def State.sapLinkOk (s : State) (p : Nat) : Bool :=
  let n := s.get (F.SAP_BIND_RX_PKT_FRAMES p)
  s.linkUp .wall && s.get (F.SAP_BIND_RX_VC p) != 15 && n != 0 && decide (n * (s.rxSlots p).length * 4 ≤ 1012)

/-- A received frame goes to its destination: whether it was taken. -/
def State.sapTake (s : State) (p : Nat) (frame : List Nat) : Bool × State :=
  if (s.rxSlots p).isEmpty then (true, s)
  else if !s.flag (F.SAP_ROUTE_RX_DST p) then
    let (ok, s) := s.ringWrite p frame
    (ok, s.cond ok (·.sapMoved p))
  else if !s.sapLinkOk p then (false, s)
  else
    let r := s.sap p
    let t := if r.rx.isEmpty then s.tb48 (s.get (F.SAP_ROUTE_TB p)) else r.rxTime
    let rx := r.rx ++ [frame]
    if rx.length < s.get (F.SAP_BIND_RX_PKT_FRAMES p) then (true, s.setSap p { r with rx := rx, rxTime := t })
    else
      let payload := bytesLE 1 p ++ bytesLE 1 frame.length ++ bytesLE 2 rx.length ++ bytesLE 8 t ++
        rx.flatMap (fun f => f.flatMap (fun v => bytesLE 4 (v % 2 ^ 24)))
      (true, (s.setSap p { r with rx := [], rxTime := t }).linkSay .wall
        { type := 2, vc := s.get (F.SAP_BIND_RX_VC p), tag := s.get (F.SAP_BIND_RX_TAG p), payload := payload })

/-- The receive path cannot take a frame. -/
def State.sapRxFull (s : State) (p : Nat) : Bool :=
  let n := (s.rxSlots p).length * s.sampleBytes p
  if (s.rxSlots p).isEmpty then false
  else if s.flag (F.SAP_ROUTE_RX_DST p) then !s.sapLinkOk p
  else decide (2 ^ s.get (F.SAP_RX_RING_RING_LOG2 p) <
    (s.word (R.SAP_RX_WR p) + 2 ^ 32 - s.word (R.SAP_RX_RD p)) % 2 ^ 32 + n)

/-- The receive path of a frame under the slip in force. -/
def State.sapRx (s : State) (p : Nat) (slip : Slip) (samples : List Nat) : State :=
  let frame := (s.rxSlots p).map (fun i => s.widen p (nth 0 samples i))
  match slip with
  | .drop => s
  | .rep => ((s.sapTake p frame).2.sapTake p frame).2
  | .none =>
    let (ok, s) := s.sapTake p frame
    if ok then s else (s.inc (F.SAP_SLIP_DROP_CNT p)).raise (F.SAP_EVT_SLIP_EV p)

/-! ## Starting, stopping and masks (R701, R703, R704) -/

/-- A request to gate or to open every transmit channel. -/
def State.sapAskGate (s : State) (p : Nat) (target : Bool) : State :=
  s.setSap p { s.sap p with gate := some (target, s.ns, false) }

/-- A slot mask that was written applies (R704); a write within 2 BCLK periods of the boundary may apply here or at the
next. (DEDUCED, log 52.) -/
def State.sapMask (s : State) (p : Nat) : State :=
  match (s.sap p).maskNs with
  | none => s
  | some t =>
    let bclk := s.sapPeriod p / max 1 (s.get (F.SAP_FMT_SLOTS p) * slotW (s.get (F.SAP_FMT_SLOT_W p)))
    let early := decide ((s.ns - t) * 2 ^ 16 < 2 * bclk)
    let wait := early && s.freeValue 1 == 1
    let s := s.cond early (·.useFree)
    if wait then s
    else
      let new := s.word (R.SAP_SLOT_MASK p)
      let old := (s.sap p).mask
      let pos := if new / 2 ^ 16 = old / 2 ^ 16 then s.word (R.SAP_RX_WR p) else s.word (R.SAP_TX_RD p)
      ((s.setSap p { s.sap p with mask := new, maskNs := none }).setWord (R.SAP_MASK_POS p) pos).raise (F.SAP_EVT_MASK_EV p)

/-- A port starts at a frame boundary (R703): its channels are gated and, unless MUTE is set, asked to open.
(DEDUCED, log 52.) -/
def State.sapStart (s : State) (p : Nat) : State :=
  if !(s.sap p).starting then s
  else
    let r : SapRec := { s.sap p with starting := false, gated := [], gate := none, prev := [], sent := [], misses := 0,
                                     live := false, mask := s.word (R.SAP_SLOT_MASK p), maskNs := none, rx := [] }
    let s := ((s.setSap p r).raise (F.SAP_STAT_RUNNING p)).drop (F.SAP_STAT_STARVED p)
    s.cond (!s.flag (F.SAP_CTRL_MUTE p)) (·.sapAskGate p false)

/-- A port whose channels are all gated after a stop stops (R703). -/
def State.sapStop (s : State) (p : Nat) : State :=
  if (s.sap p).stopping && (s.sap p).gate.isNone then
    ((s.setSap p { s.sap p with stopping := false, store := [] }).drop (F.SAP_STAT_RUNNING p)).drop (F.SAP_STAT_STARVED p)
  else s

/-- The frame of one port under the slip in force. -/
def State.sapFrame (s : State) (slip : Slip) (p : Nat) (own : Slip) (frame : Option (List Nat)) (rx : List Nat) : State :=
  let s := s.put (F.SAP_STAT_UNTIMED p) (s.sapUntimed p)
  let full := s.sapRxFull p
  let grouped := s.get (F.SAP_ROUTE_GROUP p) != 0
  let s := s.sapTx p slip own frame
  let s := s.sapRx p (if grouped then slip else .none) rx
  let s := match slip with
    | .rep => (s.inc (F.SAP_SLIP_REP_CNT p)).raise (F.SAP_EVT_SLIP_EV p)
    | .drop => s.cond (grouped || !full) fun s => (s.inc (F.SAP_SLIP_DROP_CNT p)).raise (F.SAP_EVT_SLIP_EV p)
    | .none => s
  s.sapMask p

/-- A frame boundary of port `p` and of the members that run from its frame clock (R688 to R704). `rx` holds what each
port received, by slot; `len` the length of a slave's frame in BCLK periods. -/
def State.sampleFrame (s : State) (p len : Nat) (rx : List (Nat × List Nat)) : State :=
  if !s.answers .sap p 0 || s.inReset.isSome || s.sapFollows p then s
  else
    let s := (List.range 8).foldl (fun s q =>
      s.cond (q == p || ((s.sap q).starting && s.get (F.SAP_ROUTE_GROUP p) != 0 &&
        s.get (F.SAP_ROUTE_GROUP q) == s.get (F.SAP_ROUTE_GROUP p))) fun s => (s.sapStop q).sapStart q) s
    if !s.flag (F.SAP_STAT_RUNNING p) then s
    else
      let s := s.setSap p { s.sap p with fsCount := (s.sap p).fsCount + 1 }
      let slave := !s.flag (F.SAP_FMT_MASTER p)
      let s := s.cond slave (·.raise (F.SAP_STAT_CLK_OK p))
      if slave && len != s.get (F.SAP_FMT_SLOTS p) * slotW (s.get (F.SAP_FMT_SLOT_W p)) then
        ((s.inc (F.SAP_FRAME_ERR_CNT p)).raise (F.SAP_EVT_FRAME_EV p)).sapSend p []
      else
        let ms := s.sapMembers p
        let s := ms.foldl (fun s q => ((s.sapStop q).sapPull q).sapArm q) s
        let ms := ms.filter (fun q => s.flag (F.SAP_STAT_RUNNING q))
        let (ws, s) := ms.foldl (fun (ws, s) q =>
          let (w, f, s) := s.sapWish q
          (ws ++ [(q, w, f)], s)) (([] : List (Nat × Slip × Option (List Nat))), s)
        let full := ms.any s.sapRxFull && s.get (F.SAP_ROUTE_GROUP p) != 0
        let calls := fun (x : Slip) => ws.any (fun (q, w, _) => w == x && !s.flag (F.SAP_STAT_STARVED q))
        let slip : Slip := if calls .rep then .rep else if calls .drop || full then .drop else .none
        ws.foldl (fun s (q, w, f) => s.sapFrame slip q w f (((rx.find? (·.1 == q)).map (·.2)).getD [])) s

/-! ## Register writes -/

/-- A reserved FORMAT, SLOT_W, SAMPLE_W or TX_SRC (R711). -/
def State.sapReserved (s : State) (p : Nat) : Bool :=
  s.get (F.SAP_FMT_FORMAT p) == 3 || s.get (F.SAP_FMT_SLOT_W p) == 3 || 1 < s.get (F.SAP_FMT_SAMPLE_W p) ||
  s.get (F.SAP_ROUTE_TX_SRC p) == 3

/-- A member's settings differ from its leader's (R701). -/
def State.sapUnlike (s : State) (p : Nat) : Bool :=
  match s.sapLeader p with
  | some q => [(F.SAP_FMT_MASTER p, F.SAP_FMT_MASTER q), (F.SAP_FMT_FORMAT p, F.SAP_FMT_FORMAT q),
      (F.SAP_FMT_SLOTS p, F.SAP_FMT_SLOTS q), (F.SAP_FMT_SLOT_W p, F.SAP_FMT_SLOT_W q)].any (fun (a, b) => s.get a != s.get b)
  | none => false

/-- A write of CTRL (R701, R703): start, stop and mute. -/
def State.writeSapCtrl (s : State) (p : Nat) (w : Wr) : State :=
  s.guarded (G.SAP_CTRL p) w fun s =>
    let run := bitOf w.data.toNat 0
    let was := s.flag (F.SAP_CTRL_RUN p)
    let muted := s.flag (F.SAP_CTRL_MUTE p)
    if run && !was && s.sapReserved p then s.unpredictable w.master (R.SAP_CTRL p) (R.SAP_CTRL p + 0xFF)
    else
      let reject := run && !was && s.sapUnlike p
      let s := s.plainWrite w (R.SAP_CTRL p)
      let s := s.cond reject fun s => (s.drop (F.SAP_CTRL_RUN p)).raise (F.SAP_EVT_CFG_REJ_EV p)
      let s := s.cond (run && !was && !reject) fun s => s.setSap p { s.sap p with starting := true, stopping := false }
      let running := s.flag (F.SAP_STAT_RUNNING p)
      let s := s.cond (running && muted != s.flag (F.SAP_CTRL_MUTE p)) fun s => s.sapAskGate p (s.flag (F.SAP_CTRL_MUTE p))
      s.cond (!run && was) fun s =>
        if running then s.setSap p { s.sap p with stopping := true, gate := some (true, s.ns, false) }
        else s.setSap p { s.sap p with starting := false }

/-- ZC_TIMEOUT has passed since a gate request (R703). -/
def State.zcTimeout (s : State) (p : Nat) : State :=
  match (s.sap p).gate with
  | some (target, t, _) =>
    if min 100 (s.get (F.SAP_ZC_MS p)) * 1000000 ≤ s.ns - t then s.setSap p { s.sap p with gate := some (target, t, true) } else s
  | none => s

/-- A write of SLOT_MASK (R704). -/
def State.writeSlotMask (s : State) (p : Nat) (w : Wr) : State :=
  s.guarded (G.SAP_SLOT_MASK p) w fun s =>
    let s := s.plainWrite w (R.SAP_SLOT_MASK p)
    s.setSap p { s.sap p with maskNs := if s.flag (F.SAP_STAT_RUNNING p) then some s.ns else none,
                              mask := if s.flag (F.SAP_STAT_RUNNING p) then (s.sap p).mask else s.word (R.SAP_SLOT_MASK p) }

/-- A write of RX_RD or TX_WR within its ring (R711). -/
def State.sapIdxOk (s : State) (p : Nat) (tx : Bool) (v : Nat) : Bool :=
  if tx then decide ((v + 2 ^ 32 - s.word (R.SAP_TX_RD p)) % 2 ^ 32 ≤ 2 ^ s.get (F.SAP_TX_RING_RING_LOG2 p))
  else decide ((v + 2 ^ 32 - s.word (R.SAP_RX_RD p)) % 2 ^ 32 ≤ (s.word (R.SAP_RX_WR p) + 2 ^ 32 - s.word (R.SAP_RX_RD p)) % 2 ^ 32)

/-- A write of PLL_CFG (R690). -/
def State.writePllCfg (s : State) (w : Wr) : State :=
  s.guarded G.AUDG_PLL_CFG w fun s =>
    if (List.range 8).any (fun p => s.flag (F.SAP_FMT_MASTER p) && s.flag (F.SAP_STAT_RUNNING p)) then s.raise F.AUDG_GEVT_CFG_REJ_EV
    else s.plainWrite w R.AUDG_PLL_CFG

/-- A write of PLL_ADJ (R690). (DEDUCED, log 52.) -/
def State.writePllAdj (s : State) (w : Wr) : State :=
  s.guarded G.AUDG_PLL_ADJ w (·.plainWrite w R.AUDG_PLL_ADJ)

/-- A second of REFCLK ends: MEAS_FS in units of 1/16 Hz (R692). -/
def State.measFs (s : State) (p : Nat) : State :=
  let r := s.sap p
  if !s.answers .sap p 0 || s.ns < r.fsNs + 1000000000 then s
  else (s.setSap p { r with fsCount := 0, fsNs := s.ns }).set (F.SAP_MEAS_FS_FS p) (r.fsCount * 16)

/-- BCLK of a slave has not toggled within 4 expected periods (R692). -/
def State.bclkLoss (s : State) (p : Nat) : State :=
  s.cond (!s.flag (F.SAP_FMT_MASTER p)) (·.drop (F.SAP_STAT_CLK_OK p))

end Sys2Proof.Machine
end

