-- ==== Sys2Proof/Machine/DecodeOps.lean ====
section
/-! DEFINITION. The decode array (chapter 04): contexts, pictures and their references, publication, damage, key-picture
requests. The syntax that the decoder finds in an access unit and the samples that it makes come with the commands. -/

namespace Sys2Proof.Machine

/-! ## Contexts and their input -/

/-- Identifier of decode core `k`'s checker (R575). -/
def decMaster (k : Nat) : Nat := 0x10 + k

/-- Cores of a decode group (R194). -/
def State.decGroup (s : State) (g : Nat) : List Nat :=
  (List.range 16).filter (fun k => match s.res 0x02 k with
    | some p => p % 16 == g && s.answers .decCore k 0
    | none => false)

/-- Input descriptor ring of a context and the base of its data ring (R195). -/
def State.decIn (s : State) (c : Nat) : Ring × Nat :=
  if s.flag (F.DEC_CTRL_INPUT c) then
    (⟨s.addrPair (R.DEC_CMD_BASE_LO c) (R.DEC_CMD_BASE_HI c), s.get (F.DEC_CMD_RING_DESC_LOG2 c),
      F.DEC_CMD_WR_IDX_IDX c, F.DEC_CMD_RD_IDX_IDX c⟩, s.addrPair (R.DEC_CMD_DATA_LO c) (R.DEC_CMD_DATA_HI c))
  else
    let i := s.get (F.DEC_SRC_ENTRY c)
    (s.ring 0 i, s.addrPair (R.INGR_DATA_BASE_LO i) (R.INGR_DATA_BASE_HI i))

/-- Access units that wait in a context's input ring. -/
def State.decReady (s : State) (c : Nat) : Nat :=
  let r := (s.decIn c).1
  ahead (s.get r.wr) (s.get r.rd)

/-- The context takes its access unit (R196). -/
def State.decTake (s : State) (c : Nat) : State :=
  s.bump (s.decIn c).1.rd

/-! ## Key-picture requests (R221 to R223, R494) -/

/-- The context decodes a wall-link entry. -/
def State.decWlk (s : State) (c : Nat) : Bool :=
  !s.flag (F.DEC_CTRL_INPUT c) && s.get (F.INGR_CTRL_KIND (s.get (F.DEC_SRC_ENTRY c))) == 3

/-- A KEYREQ message is sent. -/
def State.decAsk (s : State) (c reason : Nat) : State :=
  let e := s.get (F.DEC_SRC_ENTRY c)
  let n := (s.dec c).keyreqs + 1
  let s := s.setDec c { s.dec c with keyreq := some (s.ns, reason), keyreqs := n }
  let s := (s.inc (F.DEC_KEYREQ_CNT_CNT c)).raise (F.DEC_STAT_KEYREQ_EV c)
  s.linkSay .wall { type := 5, vc := 15, tag := s.get (F.INGR_UDP_PORT e) % 4096,
                    payload := bytesLE 1 (s.get (F.INGR_MATCH_UNIT e)) ++ bytesLE 1 reason ++ bytesLE 2 n }

/-- A trigger: nothing extra while a request stands (R222). -/
def State.decTrigger (s : State) (c reason : Nat) (force : Bool) : State :=
  if s.decWlk c && (force || s.flag (F.DEC_CTRL_AUTO_KEYREQ c)) && (s.dec c).keyreq.isNone then s.decAsk c reason else s

/-- The repetition of a request (R222). -/
def State.decRepeat (s : State) (c : Nat) : State :=
  match (s.dec c).keyreq with
  | some (t, reason) =>
    let hold := max 10 (min 1000 (s.get (F.DEC_KEYREQ_HOLD c)))
    if s.flag (F.DEC_CTRL_ENABLE c) && t + hold * 1000000 ≤ s.ns then s.decAsk c reason else s
  | none => s

/-- A write of KEYREQ (R223, R232). (DEDUCED, log 51.) -/
def State.writeDecKeyreq (s : State) (c : Nat) (w : Wr) : State :=
  s.guarded (G.DEC_KEYREQ c) w fun s =>
    let s := s.plainWrite w (R.DEC_KEYREQ c)
    s.cond (bitOf w.data.toNat 31 && s.flag (F.DEC_CTRL_ENABLE c)) (·.decTrigger c 5 true)

/-! ## Buffers and surfaces (R205 to R207) -/

/-- The surface of a picture in a buffer of the pool. -/
def State.decSurf (s : State) (c buf depth w h : Nat) : Surf :=
  ⟨s.addrPair (R.DEC_POOL_BASE_LO c) (R.DEC_POOL_BASE_HI c) + buf * s.get (F.DEC_POOL_BUF_PAGES c) * 4096,
   if 8 < depth then 7 else 6, !s.flag (F.DEC_CTRL_OUT_FMT c), w, h, 0⟩

/-- Pages that a buffer needs for LIMITS and OUT_FMT (R206). -/
def State.decPoolNeed (s : State) (c : Nat) : Nat :=
  let w := s.get (F.DEC_LIMITS_WIDTH c)
  let h := s.get (F.DEC_LIMITS_HEIGHT c)
  ((s.decSurf c 0 (if s.flag (F.DEC_LIMITS_TEN_BIT c) then 10 else 8) w h).bytes / 4096 + Config.decMotion w h) % 65536

/-- POOL_NEED follows a write to LIMITS or CTRL (R206). -/
def State.decNeed (s : State) (c : Nat) : State :=
  s.set (F.DEC_POOL_NEED_PAGES c) (s.decPoolNeed c)

/-- Published slots that the consumer has not released. -/
def State.decHeld (s : State) (c : Nat) : List (Nat × Nat) :=
  let rd := s.get (F.DEC_OUT_RD_IDX_IDX c)
  let n := ahead (s.get (F.DEC_OUT_WR_IDX_IDX c)) rd
  (s.dec c).pub.filter (fun e => ahead e.1 rd < n)

/-- The lowest free buffer (R207). -/
def State.decFree (s : State) (c : Nat) : Option Nat :=
  let r := s.dec c
  (List.range (s.get (F.DEC_POOL_POOL_COUNT c))).find? (fun k =>
    r.dpb.all (·.buf != k) && r.outq.all (·.buf != k) && (s.decHeld c).all (·.2 != k) &&
    (match r.cur with | some u => u.pic.buf != k | none => true))

/-! ## Publication (R208 to R211) -/

/-- A picture is discarded without publication (R218); later pictures miss it. -/
def State.decDiscard (s : State) (c : Nat) (p : DecPic) (inj : Bool) : State :=
  let s := s.setDec c { s.dec c with dpb := (s.dec c).dpb.filter (·.au.poc != p.au.poc) }
  ((s.inc (F.DEC_DISCARDS_CNT c)).raise (F.DEC_STAT_ERR_EV c)).detectWith inj 0x21 c p.stamp.seq

/-- The 64 bytes of an output descriptor (R209). -/
def outDesc (p : DecPic) (dbc : Bool) (now : Nat) : List Byte :=
  let (x, y, w, h) := p.au.crop
  p.stamp.bytes ++ bytesLE 4 p.buf ++ bytesLE 2 p.au.width ++ bytesLE 2 p.au.height ++
  bytesLE 2 x ++ bytesLE 2 y ++ bytesLE 2 w ++ bytesLE 2 h ++
  bytesLE 4 (bitsFrom [dbc, 8 < p.au.depth, p.au.mono, p.au.irap, p.sliceErr, p.wdog]) ++
  bytesLE 4 (unsign 32 p.au.poc) ++ bytesLE 4 p.au.colour ++ bytesLE 4 p.au.sar ++ bytesLE 8 now ++ bytesLE 8 0

/-- A picture is published in the next slot of the output ring. (DEDUCED, log 51.) -/
def State.decPublish (s : State) (c : Nat) (p : DecPic) : State :=
  let r := s.ring 1 c
  let wr := s.get r.wr
  let f := s.decSurf c p.buf p.au.depth p.au.width p.au.height
  let (ok, s) := s.writeAll (decMaster p.core)
    [(f.base, p.stamp.bytes), (r.base + wr % 2 ^ r.log2 * 64, outDesc p f.dbc (s.tb48 p.stamp.tb))]
  if !ok then s.decDiscard c p false
  else
    let s := s.setDec c { s.dec c with pub := s.decHeld c ++ [(wr, p.buf)] }
    let s := (s.bump r.wr).inc (F.DEC_PICS_CNT c)
    let s := s.cond p.stamp.concealed (·.inc (F.DEC_CONCEALED_CNT_CNT c))
    let s := s.cond p.stamp.degraded (·.inc (F.DEC_DEGRADED_CNT_CNT c))
    s.cond (p.stamp.concealed || p.sliceErr) (·.raise (F.DEC_STAT_CONCEAL_EV c))

/-- When a buffer became free, as later commands judge it (R201, R207): a wait ends where one is. -/
def State.decSettle (s : State) (c : Nat) : State :=
  let r := s.dec c
  match (s.decFree c).isSome, r.freeNs with
  | true, none => s.setDec c { r with freeNs := some s.ns, waiting := false }
  | false, some _ => s.setDec c { r with freeNs := none }
  | _, _ => s

/-- The output ring has a free slot. -/
def State.decRoom (s : State) (c : Nat) : Bool :=
  let r := s.ring 1 c
  ahead (s.get r.wr) (s.get r.rd) < 2 ^ r.log2

/-- Pictures that waited for a slot are published in order. -/
def State.decDrainOut : Nat → State → Nat → State
  | 0, s, _ => s
  | fuel + 1, s, c =>
    match (s.dec c).outq with
    | p :: rest => if s.decRoom c then ((s.setDec c { s.dec c with outq := rest }).decPublish c p).decDrainOut fuel c else s
    | [] => s

/-- The consumer has released slots: pictures that wait for one follow, and buffers become free. -/
def State.decReleased (s : State) (c : Nat) : State :=
  (s.decDrainOut (s.dec c).outq.length c).decSettle c

/-- A picture leaves the DPB for the output ring. -/
def State.decOutput (s : State) (c : Nat) (p : DecPic) : State :=
  let r := s.dec c
  let dpb := (r.dpb.map (fun q => if q.au.poc = p.au.poc then { q with out := false } else q)).filter (fun q => q.ref || q.out)
  let s := s.setDec c { r with dpb := dpb, outq := r.outq ++ [p] }
  s.decDrainOut (s.dec c).outq.length c

/-- The pending picture with the lowest picture order count. -/
def firstOut (dpb : List DecPic) : Option DecPic :=
  (dpb.filter (·.out)).foldl (fun (b : Option DecPic) p => match b with
    | some q => if p.au.poc < q.au.poc then some p else b
    | none => some p) none

/-- Pictures leave while more than `reorder` are pending, while one has waited for `latency` pictures, or while the DPB holds
`full` pictures: the output process of H.265, of which H.264's has no latency limit (R208). (PRESUMED, log 81.) -/
def State.decBump : Nat → State → Nat → Nat → Option Nat → Nat → State
  | 0, s, _, _, _, _ => s
  | fuel + 1, s, c, reorder, latency, full =>
    let dpb := (s.dec c).dpb
    match firstOut dpb with
    | some p =>
      let stale := match latency with
        | some l => dpb.any (fun q => q.out && decide (l ≤ q.age))
        | none => false
      if reorder < (dpb.filter (·.out)).length || stale || full ≤ dpb.length then
        (s.decOutput c p).decBump fuel c reorder latency full
      else s
    | none => s

/-- Every pending picture leaves. -/
def State.decFlush (s : State) (c : Nat) : State :=
  s.decBump (s.dec c).dpb.length c 0 none 0

/-- The restart of R216: pending pictures are published, the DPB is emptied, START_MODE acts. -/
def State.decRestart (s : State) (c : Nat) : State :=
  let s := s.decFlush c
  let s := s.setDec c { s.dec c with dpb := [] }
  s.put (F.DEC_STAT_WAIT_IRAP c) (!s.flag (F.DEC_CTRL_START_MODE c))

/-! ## Enable and disable (R197, R198, R234) -/

/-- The context's memory overlaps that of another enabled context or of an ingress entry (R234). (DESIGN CHOICE, log 21.) -/
def State.decOverlaps (s : State) (c : Nat) : Bool :=
  s.areaClash (fun o => match o with
    | .dec d => d != c
    | .entry _ => true
    | _ => false) (s.decAreas c)

/-- An entry's payload suits a codec (R197). -/
def codecPayload (codec payload : Nat) : Bool :=
  payload == 6 || (codec == 1 && payload == 1) || (codec == 2 && payload == 2)

/-- An enable of context `c` is refused (R197). -/
def State.decRefused (s : State) (c : Nat) : Bool :=
  let i := s.get (F.DEC_SRC_ENTRY c)
  (s.decGroup (s.get (F.DEC_CTRL_GROUP c))).isEmpty ||
  (!s.flag (F.DEC_CTRL_INPUT c) &&
    (!s.flag (F.INGR_CTRL_ENABLE i) || !codecPayload (s.get (F.DEC_CTRL_CODEC c)) (s.get (F.INGR_CTRL_PAYLOAD i)) ||
     (List.range 128).any (fun d => d != c && s.flag (F.DEC_CTRL_ENABLE d) && !s.flag (F.DEC_CTRL_INPUT d) &&
       s.get (F.DEC_SRC_ENTRY d) == i))) ||
  decide (s.get (F.DEC_POOL_BUF_PAGES c) < s.get (F.DEC_POOL_NEED_PAGES c)) ||
  decide (s.get (F.DEC_POOL_POOL_COUNT c) < 2 ^ s.get (F.DEC_CTRL_OUT_LOG2 c) + 2)

/-- Counters, indices and reference state of a context restart. -/
def State.decClear (s : State) (c : Nat) : State :=
  let s := [R.DEC_CMD_WR_IDX c, R.DEC_CMD_RD_IDX c, R.DEC_OUT_WR_IDX c, R.DEC_OUT_RD_IDX c, R.DEC_STREAM_INFO c, R.DEC_PICS c,
    R.DEC_CONCEALED_CNT c, R.DEC_DEGRADED_CNT c, R.DEC_ERR_SLICES c, R.DEC_DISCARDS c, R.DEC_SKIPPED c, R.DEC_POOL_WAITS c,
    R.DEC_KEYREQ_CNT c].foldl (fun s a => s.setWord a 0) s
  { s.setDec c {} with ringRetired := Tbl.del s.ringRetired (ringKey 1 c) }

/-- A context that passed its checks is enabled (R197, R216): pending pictures are published, and the reference state goes.
A picture that an earlier disable left in decode still completes (R198), and is no reference; pending pictures that find
the output ring full follow in the ring that has restarted. (DESIGN CHOICE, log 81.) -/
def State.decEnable (s : State) (c : Nat) : State :=
  let s := s.decFlush c
  let old := s.dec c
  let s := ((s.decClear c).raise (F.DEC_CTRL_ENABLE c)).set (F.DEC_STAT_ERR c) 0
  let s := s.setDec c { outq := old.outq, cur := old.cur.map (fun u => { u with pic := { u.pic with
    au := { u.pic.au with isRef := false } } }) }
  let s := ((s.drop (F.DEC_STAT_HALTED c)).raise (F.DEC_STAT_ACTIVE c)).decReleased c
  s.put (F.DEC_STAT_WAIT_IRAP c) (!s.flag (F.DEC_CTRL_START_MODE c))

/-- Pictures in decode have completed after a disable (R198). -/
def State.decDrained (s : State) (c : Nat) : State :=
  if !s.flag (F.DEC_CTRL_ENABLE c) && s.flag (F.DEC_STAT_ACTIVE c) && (s.dec c).cur.isNone then
    (s.decFlush c).drop (F.DEC_STAT_ACTIVE c)
  else s

/-- A write of CMD_WR_IDX (R195, R234). -/
def State.writeDecCmd (s : State) (c : Nat) (w : Wr) : State :=
  s.guarded (G.DEC_CMD_WR_IDX c) w fun s =>
    let v := w.data.toNat % 65536
    let rd := s.get (F.DEC_CMD_RD_IDX_IDX c)
    if 2 ^ s.get (F.DEC_CMD_RING_DESC_LOG2 c) < ahead v rd then s.decUnpred c w.master
    else
      let r := s.dec c
      (s.setDec c { r with times := readyTimes r.times rd ((v + 65535) % 65536) s.ns }).set (F.DEC_CMD_WR_IDX_IDX c) v

/-- A write of OUT_RD_IDX (R208, R234): buffers are released, and pictures that wait for a slot follow. -/
def State.writeDecRd (s : State) (c : Nat) (w : Wr) : State :=
  s.guarded (G.DEC_OUT_RD_IDX c) w fun s =>
    let v := w.data.toNat % 65536
    let rd := s.get (F.DEC_OUT_RD_IDX_IDX c)
    if ahead (s.get (F.DEC_OUT_WR_IDX_IDX c)) rd < ahead v rd then s.decUnpred c w.master
    else (s.set (F.DEC_OUT_RD_IDX_IDX c) v).decReleased c

/-- Registers of an enabled context that a write may change (R197). -/
def decOpen (a : Nat) : Bool :=
  ([0x00, 0x30, 0x44, 0x48, 0x4C, 0x50] : List Nat).contains ((a - R.DEC_CTRL 0) % 0x100)

/-! ## Work units (R200 to R202) -/

/-- A work unit of a picture: its CTUs, whether it starts only after two CTUs of the unit before it, and its area. -/
structure WorkUnit where
  ctus : Nat
  follows : Bool
  area : List Area
deriving DecidableEq, Repr

/-- Where each part of a row of parts begins. -/
def offsets (ls : List Nat) : List (Nat × Nat) :=
  (ls.foldl (fun (acc : List (Nat × Nat) × Nat) l => (acc.1 ++ [(acc.2, l)], acc.2 + l)) ([], 0)).1

/-- Rows of a rectangle of CTUs as units of wavefront order. -/
def wavefront (ctu x y w h : Nat) : List WorkUnit :=
  (List.range h).map (fun r => ⟨w, r != 0, [⟨x * ctu, (y + r) * ctu, w * ctu, ctu⟩]⟩)

/-- The area of CTUs `a` to `b` in raster order of a picture `w` CTUs wide. -/
def rasterArea (ctu w a b : Nat) : List Area :=
  (List.range (ceilDiv b w)).filterMap (fun r =>
    let x0 := max a (r * w) - r * w
    let x1 := min b ((r + 1) * w) - r * w
    if x0 < x1 then some ⟨x0 * ctu, r * ctu, (x1 - x0) * ctu, ctu⟩ else none)

/-- The work units of a picture in bitstream order (R200). -/
def unitsOf (h265 : Bool) (au : AccessUnit) : List WorkUnit :=
  let w := ceilDiv au.width au.ctu
  let h := ceilDiv au.height au.ctu
  let tiles := (offsets au.tileRows).flatMap (fun r => (offsets au.tileCols).map (fun c => (c, r)))
  if h265 && decide (1 < tiles.length) then
    tiles.flatMap (fun (c, r) =>
      if au.wpp then wavefront au.ctu c.1 r.1 c.2 r.2
      else [⟨c.2 * r.2, false, [⟨c.1 * au.ctu, r.1 * au.ctu, c.2 * au.ctu, r.2 * au.ctu⟩]⟩])
  else if h265 && au.wpp then wavefront au.ctu 0 0 w h
  else if 1 < au.slices.length then
    (offsets au.slices).map (fun (o, n) => ⟨n, false, rasterArea au.ctu w o (o + n)⟩)
  else [⟨w * h, false, [⟨0, 0, w * au.ctu, h * au.ctu⟩]⟩]

/-- The work units of a context's picture. -/
def State.decUnits (s : State) (c : Nat) (au : AccessUnit) : List WorkUnit :=
  unitsOf (s.get (F.DEC_CTRL_CODEC c) == 2) au

/-- The unit of a picture with a number. -/
def unitAt (us : List WorkUnit) (k : Nat) : WorkUnit :=
  us.getD k ⟨0, false, []⟩

/-- Time of a work unit on a core in ns at the rates in force (R202). -/
def State.unitNs (s : State) (au : AccessUnit) (u : WorkUnit) (k : Nat) : Nat :=
  let t := max (u.ctus * au.ctu * au.ctu) (ceilDiv (nth 0 au.bits k * 5) 8)
  if s.get F.THERM_STATUS_LEVEL = 2 then 2 * t else t

/-- The core that works on a context's unit, with its start. -/
def State.unitCore (s : State) (c k : Nat) : Option (Nat × Nat) :=
  (List.range 16).findSome? (fun j => match (s.decCore j).job with
    | some (d, u, t) => if d = c ∧ u = k then some (j, t) else none
    | none => none)

/-- When a unit that is handed out now starts: a row of a wavefront once the row above has completed two CTUs, at the rates
of R202 (R200). (DEDUCED, log 50.) -/
def State.unitStart (s : State) (c : Nat) (au : AccessUnit) (us : List WorkUnit) (k : Nat) : Nat :=
  if !(unitAt us k).follows then s.ns
  else match s.unitCore c (k - 1) with
  | some (_, t) => max s.ns (t + ceilDiv (2 * s.unitNs au (unitAt us (k - 1)) (k - 1)) (max 1 (unitAt us (k - 1)).ctus))
  | none => s.ns

/-- A context may start a picture: enabled, not halted, none in decode, an access unit at hand (R201, R225).
(DEDUCED, log 50.) -/
def State.decCanStart (s : State) (c : Nat) : Bool :=
  s.flag (F.DEC_CTRL_ENABLE c) && !s.bulkCut && s.get (F.DEC_STAT_ERR c) == 0 && (s.dec c).cur.isNone && 0 < s.decReady c

/-- When a context's next access unit became ready (R201): complete in its ring, and a buffer free. -/
def State.readyAt (s : State) (c : Nat) : Nat :=
  let r := (s.decIn c).1
  let wr := s.get r.wr
  let rd := s.get r.rd
  let times := if s.flag (F.DEC_CTRL_INPUT c) then (s.dec c).times else (s.stream (s.get (F.DEC_SRC_ENTRY c))).times
  let came := match times.find? (fun e => 0 < ahead e.1 rd ∧ ahead e.1 rd ≤ ahead wr rd) with
    | some e => e.2
    | none => 0
  max came ((s.dec c).freeNs.getD s.ns)

/-- Idle cores of a group. -/
def State.decIdle (s : State) (g : Nat) : List Nat :=
  (s.decGroup g).filter (fun k => (s.decCore k).job.isNone)

/-- A context's picture that is ready asks for a core of group `g`: one in decode with units to hand out, or one that has
yet to start. -/
def State.decWants (s : State) (g c : Nat) : Bool :=
  s.get (F.DEC_CTRL_GROUP c) == g && (match (s.dec c).cur with
    | some u => decide (u.next < (s.decUnits c u.pic.au).length)
    | none => s.decCanStart c && (s.decFree c).isSome)

/-- Place of a context's picture in the order of R201: highest PRIO, then the one that became ready first. -/
def State.decKey (s : State) (c : Nat) : Nat × Nat :=
  (4 - s.get (F.DEC_CTRL_PRIO c), match (s.dec c).cur with
    | some u => u.readyNs
    | none => s.readyAt c)

/-- One place comes before another. -/
def keyBefore (a b : Nat × Nat) : Bool :=
  decide (a.1 < b.1 ∨ (a.1 = b.1 ∧ a.2 < b.2))

/-- The context whose picture gets the next free core of a group (R201); of equals the lowest. (DEDUCED, log 50.) -/
def State.decNext (s : State) (g : Nat) : Option Nat :=
  ((List.range 128).filter (s.decWants g)).foldl (fun (b : Option Nat) c => match b with
    | some d => if keyBefore (s.decKey c) (s.decKey d) then some c else b
    | none => some c) none

/-- Free cores of a group take the next work units; where the next picture has yet to start, they wait for it.
(DEDUCED, log 50.) -/
def State.decAssign (s : State) (g : Nat) : State :=
  (s.decIdle g).foldl (fun s k => match s.decNext g with
    | some c =>
      match (s.dec c).cur with
      | some u =>
        let t := s.unitStart c u.pic.au (s.decUnits c u.pic.au) u.next
        (s.setDec c { s.dec c with cur := some { u with next := u.next + 1 } }).setDecCore k
          { s.decCore k with job := some (c, u.next, t), since := t }
      | none => s
    | none => s) s

/-- ENABLE clears (R198); a picture that waits for a buffer is discarded (R224). -/
def State.decDisable (s : State) (c : Nat) : State :=
  let s := s.cond (s.dec c).waiting (·.decTake c)
  let s := (s.setDec c { s.dec c with waiting := false }).drop (F.DEC_CTRL_ENABLE c)
  (s.drop (F.DEC_STAT_WAIT_IRAP c)).decAssign (s.get (F.DEC_CTRL_GROUP c))

/-- A write of CTRL (R197, R229). -/
def State.writeDecCtrl (s : State) (c : Nat) (w : Wr) : State :=
  s.guarded (G.DEC_CTRL c) w fun s =>
    let v := w.data.toNat
    if s.flag (F.DEC_CTRL_ENABLE c) then
      let s := s.cond (v % 2 ^ 31 != s.word (R.DEC_CTRL c) % 2 ^ 31) (·.raise (F.DEC_STAT_CFG_REJ c))
      if bitOf v 31 then s else s.decDisable c
    else
      let s := (s.setWord (R.DEC_CTRL c) (v % 2 ^ 31)).decNeed c
      if !bitOf v 31 then s
      else if s.decRefused c then s.raise (F.DEC_STAT_CFG_REJ c)
      else if s.get (F.DEC_CTRL_CODEC c) = 0 || s.get (F.DEC_CTRL_CODEC c) = 3 || s.decOverlaps c then s.decUnpred c w.master
      else s.decEnable c

/-- Core `k` ends its unit; its picture is changed by `f`, and the next unit goes to a free core. -/
def State.decUnitEnd (s : State) (k : Nat) (f : DecCur → DecCur) : State :=
  match (s.decCore k).job with
  | none => s
  | some (c, _, _) =>
    let s := s.setDecCore k { clocks := s.coreClocks (s.decCore k) }
    let s := match (s.dec c).cur with
      | some u =>
        let u := f u
        s.setDec c { s.dec c with cur := some { u with ended := u.ended + 1, pic := { u.pic with core := k } } }
      | none => s
    s.decAssign (s.get (F.DEC_CTRL_GROUP c))

/-- A picture with an area to conceal: tainted, with SLICE_ERR (R214, R217). -/
def DecCur.hurt (u : DecCur) (areas : List Area) : DecCur :=
  { u with holes := u.holes ++ areas, pic := { u.pic with sliceErr := true, tainted := true } }

/-- The watchdog of core `k` (R219): the unit's undecoded area is concealed. (DEDUCED, log 51.) -/
def State.decTrip (s : State) (k : Nat) (undecoded : List Area) (inj : Bool) : State :=
  match (s.decCore k).job with
  | none => s
  | some (c, _, _) =>
    let s := (s.inc (F.DECK_WDOG_CNT_CNT k)).detectWith inj 0x20 k c
    let s := s.decUnitEnd k (fun u => let u := u.hurt undecoded; { u with pic := { u.pic with wdog := true } })
    s.decTrigger c 4 false

/-- The area of the unit on core `k`. -/
def State.unitArea (s : State) (k : Nat) : List Area :=
  match (s.decCore k).job with
  | some (c, j, _) =>
    match (s.dec c).cur with
    | some u => (unitAt (s.decUnits c u.pic.au) j).area
    | none => []
  | none => []

/-- What two rectangles share. -/
def clipTo (b a : Area) : Area :=
  let x := max a.x b.x
  let y := max a.y b.y
  { x := x, y := y, w := min (a.x + a.w) (b.x + b.w) - x, h := min (a.y + a.h) (b.y + b.h) - y }

/-- The part of the unit on core `k` that it has not decoded: any part of the unit's area. (DESIGN CHOICE, log 51.) -/
def State.undecoded (s : State) (k : Nat) : List Area :=
  (Config.undecoded s.free).flatMap (fun (x, y, w, h) => (s.unitArea k).map (clipTo ⟨x, y, w, h⟩))

/-- A unit has run for more than 100 ms. -/
def State.decWatchdog (s : State) (k : Nat) : State :=
  match (s.decCore k).job with
  | some (_, _, t) => if 100000000 < s.ns - t then s.useFree.decTrip k (s.undecoded k) false else s
  | none => s

/-- A work unit completes (R200, R217, R218); one that waits for the row above cannot. An injected trip finds none of its
unit decoded. (DEDUCED, log 51.) -/
def State.decUnitDone (s : State) (k : Nat) (r : UnitResult) : State :=
  match (s.decCore k).job with
  | none => s
  | some (c, _, t) =>
    let inj := s.injArmed 0x20 k
    if s.ns < t then s
    else if inj then (s.injSpend 0x20 k).decTrip k (s.unitArea k) true
    else
      let (lost, s) := r.reads.foldl (fun (acc : List Area × State) d =>
        let (x, s) := acc.2.unitRead (decMaster k) d.addr d.size
        (if x.isSome then acc.1 else acc.1 ++ d.uses, s)) ([], s)
      let refused := lost ++ r.damaged.flatten
      let bad := r.damaged.length != 0 || !lost.isEmpty
      let s := (s.inc (F.DECK_UNITS_CNT k)).add (F.DEC_ERR_SLICES_CNT c) r.damaged.length
      let s := s.decUnitEnd k (fun u => if bad then u.hurt refused else u)
      s.cond (r.damaged.length != 0) (·.decTrigger c 3 false)

/-! ## The start of a picture (R191 to R193, R206, R212 to R220) -/

/-- Items of R192 that the decoder finds: NAL units with nuh_layer_id above 0 and slices with redundant_pic_cnt above 0 are
discarded without error. -/
def auItems (au : AccessUnit) : List Unsupported :=
  (au.nals.filter (fun n => n.layer == 0 && n.redundant == 0)).flatMap (·.items)

/-- A profile of R191, at a depth that it codes. -/
def profileOk (h265 : Bool) (au : AccessUnit) : Bool :=
  if h265 then
    (au.profile == 1 && au.depth == 8) || (au.profile == 2 && 8 ≤ au.depth && au.depth ≤ 10) ||
    (au.profile == 3 && au.depth == 8)
  else ((au.profile == 66 && au.constrained) || au.profile == 77 || au.profile == 100) && au.depth == 8

/-- A level of R191: up to 6.1, in the coding of R233. -/
def levelOk (h265 : Bool) (au : AccessUnit) : Bool :=
  decide (au.level ≤ if h265 then 183 else 61)

/-- ERR that an access unit gives (R191 to R193, R206, R231); 0 none. (DEDUCED, log 51.) -/
def State.decErr (s : State) (c : Nat) (au : AccessUnit) : Nat :=
  let h265 := s.get (F.DEC_CTRL_CODEC c) == 2
  if !(auItems au).isEmpty || (au.newSps && !profileOk h265 au) then 1
  else if au.newSps && (au.width < 16 || 8192 < au.width || au.height < 16 || 4320 < au.height ||
      s.get (F.DEC_LIMITS_WIDTH c) < au.width || s.get (F.DEC_LIMITS_HEIGHT c) < au.height ||
      (8 < au.depth && !s.flag (F.DEC_LIMITS_TEN_BIT c))) then 2
  else if au.newSps && s.get (F.DEC_POOL_POOL_COUNT c) < au.dpb + 2 ^ s.get (F.DEC_CTRL_OUT_LOG2 c) then 3
  else if au.newSps && !levelOk h265 au then 4
  else 0

/-- The context halts (R225). -/
def State.decHalt (s : State) (c code : Nat) (inj : Bool) : State :=
  let s := ((s.set (F.DEC_STAT_ERR c) code).raise (F.DEC_STAT_ERR_EV c)).raise (F.DEC_STAT_HALTED c)
  ((s.drop (F.DEC_STAT_ACTIVE c)).drop (F.DEC_STAT_WAIT_IRAP c)).detectWith inj 0x22 c code

/-- STREAM_INFO of an activated sequence parameter set (R233). -/
def streamInfo (au : AccessUnit) : Nat :=
  au.profile % 256 + au.level % 256 * 2 ^ 8 + au.depth % 16 * 2 ^ 16 + b2n au.tier * 2 ^ 20

/-- The reference nearest in picture order count, the earlier on a tie (R213). -/
def nearest (dpb : List DecPic) (poc : Int) : Option Int :=
  ((dpb.filter (·.ref)).map (·.au.poc)).foldl (fun (b : Option Int) q => match b with
    | some p => if (q - poc).natAbs < (p - poc).natAbs ∨ ((q - poc).natAbs = (p - poc).natAbs ∧ q < p) then some q else b
    | none => some q) none

/-- The DPB before a picture: references that its set does not name end, prior output is flushed at an IRAP, and room is
made (R208). -/
def State.decMark (s : State) (c : Nat) (au : AccessUnit) : State :=
  let r := s.dec c
  let dpb := r.dpb.map (fun p => { p with ref := p.ref && au.rps.contains p.au.poc, out := p.out && !(au.irap && au.noPrior) })
  let s := s.setDec c { r with dpb := dpb.filter (fun p => p.ref || p.out) }
  let s := s.cond (au.irap && au.rps.isEmpty) (·.decFlush c)
  s.decBump (s.dec c).dpb.length c au.reorder au.latency (max 1 au.dpb)

/-- The picture of an access unit that goes into decode in buffer `buf`, its substitutes, and what it lacks: its data could
not be read. -/
def State.decPicture (s : State) (c buf : Nat) (au : AccessUnit) (d : Desc) (data : Option (List Byte)) : DecCur :=
  let dpb := (s.dec c).dpb
  let have' := fun q => dpb.any (fun p => p.ref && p.au.poc == q)
  let missing := au.rps.filter (fun q => !have' q)
  let concealed := d.stamp.concealed || au.refs.any (fun q => !have' q)
  let bad := data.isNone
  let partial' := bitOf d.flags 0
  let tainted := concealed || partial' || bad || dpb.any (fun p => p.tainted && au.refs.contains p.au.poc)
  { pic := { au := au, stamp := { d.stamp with concealed := concealed }, buf := buf, sliceErr := partial' || bad,
             tainted := tainted }
    readyNs := s.readyAt c
    subs := missing.map (fun q => (q, nearest dpb q))
    data := data.getD []
    holes := listIf bad [⟨0, 0, au.width, au.height⟩] }

/-- Bytes of an access unit are an Annex B byte stream: a start code after zero bytes. -/
def annexB (bs : List Byte) : Bool :=
  let rest := bs.dropWhile (· == 0#8)
  decide (2 ≤ bs.length - rest.length) && beAt rest 0 1 == 1 && !rest.isEmpty

/-- The access unit of a command-ring descriptor lies in the data ring without a wrap (R195, R234). -/
def State.cmdFits (s : State) (c : Nat) (d : Desc) : Bool :=
  !s.flag (F.DEC_CTRL_INPUT c) || decide (d.dataOffset + d.dataLen ≤ 2 ^ s.get (F.DEC_CMD_RING_DATA_LOG2 c))

/-- The next access unit of a context goes into decode in buffer `buf`. -/
def State.decBegin (s : State) (c k buf : Nat) (au : AccessUnit) (d : Desc) : State :=
  let (bs, s) := s.unitRead (decMaster k) ((s.decIn c).2 + d.dataOffset) d.dataLen
  if s.flag (F.DEC_CTRL_INPUT c) && !(bs.map annexB).getD true then (s.decTake c).decUnpred c (decMaster k)
  else
    let u := s.decPicture c buf au d bs
    let s := (s.setDec c { s.dec c with cur := some u, waiting := false }).decTake c
    let s := s.cond (!u.subs.isEmpty) (·.decTrigger c 1 false)
    s.cond (bitOf d.flags 0) (·.decTrigger c 2 false)

/-- No buffer is free: the context waits and takes no input (R207). -/
def State.decWaits (s : State) (c : Nat) : State :=
  let s := s.cond (!(s.dec c).waiting) fun s => (s.inc (F.DEC_POOL_WAITS_CNT c)).raise (F.DEC_STAT_POOL_EV c)
  s.setDec c { s.dec c with waiting := true }

/-- The next access unit of a context is taken into decode, waits, is skipped or discarded, or halts the context.
(DEDUCED, log 51.) -/
def State.decAu (s : State) (c k : Nat) (au : AccessUnit) (d : Desc) : State :=
  let s := s.cond (bitOf d.flags 1) (·.decRestart c)
  if (s.decFree c).isNone then s.decWaits c
  else if !s.cmdFits c d then (s.decTake c).decUnpred c (decMaster k)
  else
    let inj := s.injArmed 0x22 c
    let s := s.injSpend 0x22 c
    let s := s.cond au.newSps (·.setWord (R.DEC_STREAM_INFO c) (streamInfo au))
    let err := if inj then s.freeValue 2 + 1 else s.decErr c au
    let s := s.cond inj (·.useFree)
    if err ≠ 0 then s.decHalt c err inj
    else if s.flag (F.DEC_STAT_WAIT_IRAP c) && !au.irap then (s.inc (F.DEC_DISCARDS_CNT c)).decTake c
    else if s.flag (F.DEC_CTRL_CATCHUP c) && 2 < s.decReady c && au.discardable then
      ((s.inc (F.DEC_SKIPPED_CNT c)).raise (F.DEC_STAT_SKIP_EV c)).decTake c
    else
      let s := (s.drop (F.DEC_STAT_WAIT_IRAP c)).decMark c au
      match s.decFree c with
      | none => s.decWaits c
      | some buf => s.decBegin c k buf au d

/-- A picture starts on a free core of its group, unless another picture comes before it (DEC_PICTURE_START, R201). -/
def State.decStart (s : State) (c : Nat) (au : AccessUnit) : State :=
  let g := s.get (F.DEC_CTRL_GROUP c)
  let before := (List.range 128).any (fun e => e != c && s.decWants g e && keyBefore (s.decKey e) (s.decKey c))
  match s.decIdle g with
  | [] => s
  | k :: _ =>
    if !s.decCanStart c || before then s
    else
      let r := (s.decIn c).1
      let s := match s.readDesc (decMaster k) r.base r.log2 (s.get r.rd) with
        | (some d, s) => s.decAu c k au d
        | (none, s) => (((s.inc (F.DEC_DISCARDS_CNT c)).raise (F.DEC_STAT_ERR_EV c)).detect 0x21 c 0).decTake c
      (s.decSettle c).decAssign g

/-! ## The end of a picture (R203, R205, R211, R213 to R218) -/

/-- A luma sample lies in an area to conceal. -/
def inAreas (as : List Area) (x y : Nat) : Bool :=
  as.any (fun a => decide (a.x ≤ x ∧ x < a.x + a.w ∧ a.y ≤ y ∧ y < a.y + a.h))

/-- Mid-grey element of a plane: every sample 128 or 512 (R213); chroma of a 4:0:0 picture is at that level too (R205). -/
def midGrey (fmt p : Nat) : Nat :=
  if p = 0 then (if fmt = 7 then 512 else 128) else if fmt = 7 then 512 + 512 * 2 ^ 16 else 0x8080

/-- Element of a context's reference picture, by picture order count; mid-grey where there is none (R213). -/
def State.refElem (s : State) (c : Nat) (fmt : Nat) (q : Option Int) (p x y : Nat) : Nat :=
  match q.bind (fun q => (s.dec c).dpb.find? (fun r => r.ref && r.au.poc == q)) with
  | none => midGrey fmt p
  | some r =>
    let f := s.decSurf c r.buf r.au.depth r.au.width r.au.height
    let (w, h) := planeDims f.fmt p f.w f.h
    s.surfElem f p (min x (w - 1)) (min y (h - 1))

/-- Reference pictures that a picture predicts from, each missing one by its substitute (R213). -/
def State.decRefs (s : State) (c fmt : Nat) (u : DecCur) : List (Int × (Nat → Nat → Nat → Nat)) :=
  u.pic.au.rps.map (fun q => (q, s.refElem c fmt (match u.subs.find? (fun e => e.1 == q) with
    | some (_, sub) => sub
    | none => some q)))

/-- Element of a decoded picture (R205, R213, R217): in a concealed area that of the nearest reference, co-located; else
what decoding gives. -/
def State.decElem (s : State) (c : Nat) (f : Surf) (u : DecCur) (p x y : Nat) : Nat :=
  let k := if p = 0 then 1 else 2
  if u.pic.au.mono && p != 0 then midGrey f.fmt p
  else if inAreas u.holes (x * k) (y * k) then s.refElem c f.fmt (nearest (s.dec c).dpb u.pic.au.poc) p x y
  else (planeOf f.fmt p).clean (Config.decodeSample s.free u.data (s.decRefs c f.fmt u) p x y)

/-- Motion data of a picture, stored after its planes in the pages they take (R205). -/
def motionWrite (f : Surf) (pages : Nat) (motion : List Byte) : Nat × List Byte :=
  (f.base + f.bytes, motion.take (pages * 4096))

/-- Pictures that wait for output behind another have waited for one more (R208). (PRESUMED, log 81.) -/
def agePending (dpb : List DecPic) (p : DecPic) : List DecPic :=
  dpb.map (fun q => if p.au.output && q.out && decide (p.au.poc < q.au.poc) then { q with age := q.age + 1 } else q)

/-- Every work unit has completed: the picture is written and takes its place in the DPB, and output follows. -/
def State.decPictureDone (s : State) (c : Nat) (motion : List Byte) : State :=
  match (s.dec c).cur with
  | none => s
  | some u =>
    if u.ended < (s.decUnits c u.pic.au).length then s
    else
      let p := u.pic
      let inj := s.injArmed 0x21 c
      let s := s.injSpend 0x21 c
      let s := s.setDec c { s.dec c with cur := none }
      let f := s.decSurf c p.buf p.au.depth p.au.width p.au.height
      let elem := s.decElem c f u
      let s := s.useFree
      let (ok, s) := if inj then (false, s)
        else s.writeAll (decMaster p.core) (f.writes elem ++ [motionWrite f (Config.decMotion f.w f.h) motion])
      let s := if !ok then s.decDiscard c p inj
        else
          let sig := signatureOf (thumbnail f.w f.h (fun x y => lumaElem f.fmt (elem 0 x y)))
          let tainted := p.tainted || p.stamp.concealed
          let p := { p with tainted := tainted, ref := p.au.isRef, out := p.au.output,
                            stamp := { p.stamp with degraded := p.stamp.degraded || tainted, signature := sig } }
          let r := s.dec c
          let r := { r with dpb := agePending r.dpb p ++ listIf (p.ref || p.out) [p] }
          let r := if p.au.irap && !tainted then { r with keyreq := none, keyreqs := 0 } else r
          let s := s.setDec c r
          s.decBump (s.dec c).dpb.length c p.au.reorder p.au.latency ((s.dec c).dpb.length + 1)
      (s.decSettle c).decAssign (s.get (F.DEC_CTRL_GROUP c))

/-! ## Plan apply (R199) -/

/-- Every context and core at plan apply. -/
def State.decApply (s : State) : State :=
  let s := (List.range 128).foldl (fun s c =>
    let s := ((s.drop (F.DEC_CTRL_ENABLE c)).drop (F.DEC_STAT_ACTIVE c)).drop (F.DEC_STAT_WAIT_IRAP c)
    s.setDec c { s.dec c with cur := none, waiting := false, keyreq := none }) s
  { s with decCores := [] }

end Sys2Proof.Machine
end

