-- ==== Sys2Proof/Machine/EncodePicture.lean ====
section
/-! DEFINITION. What an encode core computes from samples (chapter 10): the conversion of an input picture (R438) and the
motion search (R439, R440). -/

namespace Sys2Proof.Machine

/-! ## Conversion of the input (R438) -/

/-- A 10-bit value as 8 bits. -/
def narrow8 (v : Nat) : Nat :=
  min 255 ((v + 2) / 4)

/-- A component at the stream's depth. An 8-bit value of a 10-bit stream has no conversion in R438: what it becomes is a free
value. (DESIGN CHOICE, log 88.) -/
def toDepth (ten eight : Bool) (v : Nat) : Nat :=
  match ten, eight with
  | true, true => Config.encDeepen v % 1024
  | true, false => v
  | false, true => v
  | false, false => narrow8 v

/-- Rows of the matrix of R438: Y, Cb and Cr. -/
def bt709Row (comp : Nat) : Int × Int × Int × Int :=
  match comp with
  | 0 => (746, 2508, 253, 64)
  | 1 => (-411, -1383, 1794, 512)
  | _ => (1794, -1629, -165, 512)

/-- An output component of the matrix of R438 from 10-bit red, green and blue. -/
def bt709 (comp : Nat) (rgb : Nat × Nat × Nat) : Nat :=
  let (c0, c1, c2, off) := bt709Row comp
  (clampInt 0 1023 (off + (c0 * (rgb.1 : Int) + c1 * (rgb.2.1 : Int) + c2 * (rgb.2.2 : Int) + 2048) / 4096)).toNat

/-- Red, green and blue of an input pixel at 10 bits, by bit replication; alpha is ignored. -/
def rgb10 (fmt e : Nat) : Nat × Nat × Nat :=
  let (_, r, g, b) := rgbOf fmt e
  (widen r.1 10 r.2, widen g.1 10 g.2, widen b.1 10 b.2)

/-- A rounded mean. (DEDUCED, log 87.) -/
def meanOf (vs : List Nat) : Nat :=
  (vs.sum + vs.length / 2) / vs.length

/-- Component `comp` (0 luma, 1 Cb, 2 Cr) at (x, y) of its 4:2:0 plane of an input picture in the stream's format, from the
lines that were fetched. -/
def encSample (b : Buf) (ten : Bool) (ls : Lines) (comp x y : Nat) : Nat :=
  let at' := fun p u v => (ls.at p u v).getD 0
  let chroma := fun u v =>
    let c := chromaOf b.format (at' 1 u v)
    if comp = 1 then c.1 else c.2
  if b.format = 2 ∨ b.format = 3 then
    let px := fun u v => bt709 comp (rgb10 b.format (at' 0 (b.srcX + u) (b.srcY + v)))
    toDepth ten false (if comp = 0 then px x y
      else meanOf [px (2 * x) (2 * y), px (2 * x + 1) (2 * y), px (2 * x) (2 * y + 1), px (2 * x + 1) (2 * y + 1)])
  else
    let eight := b.format == 6
    toDepth ten eight (if comp = 0 then at' 0 (b.srcX + x) (b.srcY + y) % 2 ^ yuvBits b.format
      else if b.format = 1 then
        meanOf [chroma (b.srcX / 2 + x) (b.srcY + 2 * y), chroma (b.srcX / 2 + x) (b.srcY + 2 * y + 1)]
      else chroma (b.srcX / 2 + x) (b.srcY / 2 + y))

/-! ## Motion search (R439, R440) -/

/-- A motion vector in quarter samples. -/
abbrev Mv := Int × Int

/-- A block of luma samples. -/
structure CodedBlock where
  x : Nat
  y : Nat
  w : Nat
  h : Nat
deriving DecidableEq, Repr

/-- Offsets from `-r` to `r` in steps. -/
def stepOffsets (r step : Nat) : List Int :=
  (List.range (2 * (r / step) + 1)).map (fun i => ((i : Int) - (r / step : Nat)) * step)

/-- Vectors around one, in quarter samples. -/
def around (c : Mv) (rx ry step : Nat) : List Mv :=
  (stepOffsets ry step).flatMap (fun dy => (stepOffsets rx step).map (fun dx => (c.1 + dx, c.2 + dy)))

/-- A vector kept within the range of R440 and within 80 samples of the picture. (DEDUCED, log 87.) -/
def limitMv (h264 : Bool) (w h : Nat) (b : CodedBlock) (v : Mv) : Mv :=
  let yLo : Int := if h264 then -2048 else -2131
  let yHi : Int := if h264 then 2047 else 2131
  let x0 := -4 * ((b.x : Int) + 80)
  let x1 := 4 * ((w : Int) + 80 - b.x - b.w)
  let y0 := -4 * ((b.y : Int) + 80)
  let y1 := 4 * ((h : Int) + 80 - b.y - b.h)
  (clampInt (max (-4179) x0) (min 4179 x1) v.1, clampInt (max yLo y0) (min yHi y1) v.2)

/-- What a search works on: the codec and size, the ranking of candidates (step, block, vector), which R439 leaves open, and
predictors. -/
structure Search where
  h264 : Bool
  w : Nat
  h : Nat
  rank : Nat → CodedBlock → Mv → Nat

/-- Steps 1 and 2 of R439 for an area: the window in steps of 4, and ±16 in steps of 2 around the four best and the
predictors; the two best are kept. -/
def Search.coarse (q : Search) (area : CodedBlock) (preds : List Mv) : List Mv :=
  let lim := limitMv q.h264 q.w q.h area
  let four := leastRanked (q.rank 1 area) 4 ((around (0, 0) 4096 2048 16).map lim)
  leastRanked (q.rank 2 area) 2 (((four ++ preds).flatMap (fun p => around p 64 64 8)).map lim)

/-- Steps 3 and 4 of R439 for a partition: ±4 in steps of 1 around the two positions, then the half-sample and the
quarter-sample neighbours. -/
def Search.fine (q : Search) (b : CodedBlock) (from_ : List Mv) : Mv :=
  let lim := limitMv q.h264 q.w q.h b
  let pick := fun step cs => (leastRanked (q.rank step b) 1 (cs.map lim)).headD (0, 0)
  let full := pick 3 (from_.flatMap (fun p => around p 16 16 4))
  let half := pick 4 (full :: around full 2 2 2)
  pick 5 (half :: around half 1 1 1)

/-- Square partitions of an area that meet the picture, from its own size down to 8 × 8. (DEDUCED, log 87.) -/
def partitions (size w h ax ay : Nat) : List CodedBlock :=
  ((if size = 64 then [64, 32, 16, 8] else [16, 8] : List Nat).flatMap (fun k =>
    (List.range (size / k)).flatMap (fun j => (List.range (size / k)).map (fun i => (⟨ax + i * k, ay + j * k, k, k⟩ : CodedBlock))))).filter
    (fun b => decide (b.x < w ∧ b.y < h))

/-- The vectors of a picture on one reference: of every area the best one, in raster order, and of every partition its own.
Predictors are zero, the left and above areas' best vectors, and the co-located one of the previous picture. Step 1 ranks
the 64 × 64 area, also where the areas are macroblocks. (DEDUCED, log 87.) -/
def Search.field (q : Search) (prev : List Mv) : List Mv × List (CodedBlock × Mv) :=
  let size := if q.h264 then 16 else 64
  let cols := ceilDiv q.w size
  (List.range (cols * ceilDiv q.h size)).foldl (fun (acc : List Mv × List (CodedBlock × Mv)) i =>
    let ax := i % cols * size
    let ay := i / cols * size
    let left := if i % cols = 0 then (0, 0) else nth (0, 0) acc.1 (i - 1)
    let above := if i < cols then (0, 0) else nth (0, 0) acc.1 (i - cols)
    let two := q.coarse ⟨ax / 64 * 64, ay / 64 * 64, 64, 64⟩ [(0, 0), left, above, nth (0, 0) prev i]
    let own := (partitions size q.w q.h ax ay).map (fun b => (b, q.fine b two))
    (acc.1 ++ [((own.map (·.2)).headD (0, 0))], acc.2 ++ own)) ([], [])

end Sys2Proof.Machine
end

