-- ==== Sys2Proof/Machine/EncodeOps.lean ====
section
/-! DEFINITION. The encode array (chapter 10): contexts, input slots, rows and rate control, publication, key pictures
and damage. Coded bits and access units come with the commands. -/

namespace Sys2Proof.Machine

/-- Identifier of encode core `k`'s checker (R575). -/
def encMaster (k : Nat) : Nat := 0x20 + k

/-- Cores of an encode group (R441). -/
def State.encGroup (s : State) (g : Nat) : List Nat :=
  (List.range 8).filter (fun k => match s.res 0x03 k with
    | some p => p % 8 == g && s.answers .encCore k 0
    | none => false)

/-! ## Levels (R437, R443; limits PRESUMED from the codecs' standards, log 27) -/

/-- Limits of a level: its level_idc, luma samples (macroblocks in H.264) per picture and per second, kb/s, kbit of CPB, tiles
across and down. -/
structure Level where
  idc : Nat
  size : Nat
  rate : Nat
  kbps : Nat
  cpb : Nat
  cols : Nat
  rows : Nat
deriving DecidableEq, Repr

/-- Levels 1 to 5.1 of H.265, Main tier. (PRESUMED, log 27.) -/
def levels265 : List Level :=
  [⟨30, 36864, 552960, 128, 350, 1, 1⟩, ⟨60, 122880, 3686400, 1500, 1500, 1, 1⟩, ⟨63, 245760, 7372800, 3000, 3000, 1, 1⟩,
   ⟨90, 552960, 16588800, 6000, 6000, 2, 2⟩, ⟨93, 983040, 33177600, 10000, 10000, 3, 3⟩,
   ⟨120, 2228224, 66846720, 12000, 12000, 5, 5⟩, ⟨123, 2228224, 133693440, 20000, 20000, 5, 5⟩,
   ⟨150, 8912896, 267386880, 25000, 25000, 10, 11⟩, ⟨153, 8912896, 534773760, 40000, 40000, 10, 11⟩]

/-- Levels 1 to 5.2 of H.264, with the factor 1.25 of the High profile in kb/s and kbit. (PRESUMED, log 27.) -/
def levels264 : List Level :=
  ([(10, 99, 1485, 64, 175), (9, 99, 1485, 128, 350), (11, 396, 3000, 192, 500), (12, 396, 6000, 384, 1000), (13, 396, 11880, 768, 2000),
    (20, 396, 11880, 2000, 2000), (21, 792, 19800, 4000, 4000), (22, 1620, 20250, 4000, 4000), (30, 1620, 40500, 10000, 10000),
    (31, 3600, 108000, 14000, 14000), (32, 5120, 216000, 20000, 20000), (40, 8192, 245760, 20000, 25000),
    (41, 8192, 245760, 50000, 62500), (42, 8704, 522240, 50000, 62500), (50, 22080, 589824, 135000, 135000),
    (51, 36864, 983040, 240000, 240000), (52, 36864, 2073600, 240000, 240000)] : List (Nat × Nat × Nat × Nat × Nat)).map
    (fun (i, f, m, b, c) => ⟨i, f, m, b * 5 / 4, c * 5 / 4, 0, 0⟩)

/-- The lowest level that admits a size, a period in µs and a bit rate. (PRESUMED, log 27.) -/
def levelFor (codec w h us kbps : Nat) : Option Level :=
  let area := if codec = 1 then ceilDiv w 16 * ceilDiv h 16 else w * h
  let side := fun n => if codec = 1 then ceilDiv n 16 else n
  (if codec = 1 then levels264 else levels265).find? (fun l =>
    area ≤ l.size && side w ^ 2 ≤ 8 * l.size && side h ^ 2 ≤ 8 * l.size && area * 1000000 ≤ l.rate * us && kbps ≤ l.kbps)

/-! ## Rows of a picture (R449, R452) -/

/-- A row of a work unit in pixels. -/
structure RowGeo where
  unit : Nat
  x : Nat
  y : Nat
  w : Nat
  h : Nat
deriving DecidableEq, Repr

/-- Size of a CTU or macroblock. -/
def ctuOf (codec : Nat) : Nat :=
  if codec = 1 then 16 else 64

/-- Rows of a picture, unit by unit. -/
def encRows (codec split cols rows slices w h : Nat) : List RowGeo :=
  let u := ctuOf codec
  let nR := ceilDiv h u
  let nC := ceilDiv w u
  let geo := fun unit c0 c1 r => (⟨unit, c0 * u, r * u, min w (c1 * u) - c0 * u, min h ((r + 1) * u) - r * u⟩ : RowGeo)
  match split with
  | 1 => (List.range nR).map (fun r => geo (min (r / max 1 (nR / slices)) (slices - 1)) 0 nC r)
  | 2 => (List.range (rows * cols)).flatMap (fun t =>
      let tr := t / cols
      let tc := t % cols
      let r0 := tr * nR / rows
      (List.range ((tr + 1) * nR / rows - r0)).map (fun i => geo t (tc * nC / cols) ((tc + 1) * nC / cols) (r0 + i)))
  | 3 => (List.range nR).map (fun r => geo r 0 nC r)
  | _ => (List.range nR).map (fun r => geo 0 0 nC r)

/-- Rows of a context's pictures. -/
def State.rowsOf (s : State) (c : Nat) : List RowGeo :=
  encRows (s.get (F.ENC_CTRL_CODEC c)) (s.get (F.ENC_CTRL_SPLIT c)) (s.get (F.ENC_SPLIT_CFG_TILE_COLS c))
    (s.get (F.ENC_SPLIT_CFG_TILE_ROWS c)) (s.get (F.ENC_SPLIT_CFG_SLICES c)) (s.get (F.ENC_SIZE_WIDTH c))
    (s.get (F.ENC_SIZE_HEIGHT c))

/-- Work units of a context's pictures. -/
def State.unitsOf (s : State) (c : Nat) : Nat :=
  ((s.rowsOf c).map (·.unit + 1)).foldl max 0

/-- CTUs or macroblocks of a row. -/
def RowGeo.blocks (g : RowGeo) (codec : Nat) : Nat :=
  ceilDiv g.w (ctuOf codec)

/-! ## The arithmetic of rate control (R452) -/

/-- The largest number whose sixth power is at most `v`. -/
def root6 (v : Nat) : Nat :=
  (List.range (Nat.log2 v / 6 + 1)).reverse.foldl (fun r i => if (r + 2 ^ i) ^ 6 ≤ v then r + 2 ^ i else r) 0

/-- `w × 2^(e/6)` to 1/64, then rounded to nearest. -/
def scalePow (w : Nat) (e : Int) : Nat :=
  let v := if 0 ≤ e then (128 * w) ^ 6 * 2 ^ e.toNat else (128 * w) ^ 6 / 2 ^ (-e).toNat
  ((root6 v + 1) / 2 + 32) / 64

/-- `6 × log2(a / b)` to 1/64, then rounded to nearest, away from zero on a tie. (DEDUCED, log 28.) -/
def log6 (a b : Nat) : Int :=
  let mag := fun (x y : Nat) => ((Nat.log2 (x ^ 768 / y ^ 768) + 1) / 2 + 32) / 64
  if b ≤ a then (mag a b : Nat) else -((mag b a : Nat) : Int)

/-- BITRATE × 1000 × PERIOD / 10^6. -/
def drainOf (rate us : Nat) : Nat :=
  rate * 1000 * us / 1000000

/-- Bits of each row in the previous picture of the type, or equal weights. (DEDUCED, log 28.) -/
def weights (prev : Option EncPrev) (n : Nat) : List Nat :=
  match prev with
  | some p => (List.range n).map (fun j => max 1 (nth (1, 0) p.rows j).1)
  | none => List.replicate n 1

/-! ## Enable and disable (R442 to R444, R473, R477) -/

/-- Configuration fields that are outside their ranges (R473). (DEDUCED, log 28.) -/
def State.encRanges (s : State) (c : Nat) : Bool :=
  let w := s.get (F.ENC_SIZE_WIDTH c)
  let h := s.get (F.ENC_SIZE_HEIGHT c)
  let within := fun v lo hi => decide (lo ≤ v ∧ v ≤ hi)
  within w 128 4096 && w % 2 == 0 && within h 64 2304 && h % 2 == 0 &&
  within (s.get (F.ENC_SPLIT_CFG_TILE_COLS c)) 1 8 && within (s.get (F.ENC_SPLIT_CFG_TILE_ROWS c)) 1 8 &&
  within (s.get (F.ENC_SPLIT_CFG_SLICES c)) 1 16 && within (s.get (F.ENC_GOP_REFS c)) 1 2 &&
  within (s.get (F.ENC_BUFFER_BUF_SIZE c)) 10 65535 && within (s.get (F.ENC_PERIOD_US c)) 4100 1000000 &&
  within (s.get (F.ENC_OUT_RING_DESC_LOG2 c)) 1 12 && within (s.get (F.ENC_OUT_RING_DATA_LOG2 c)) 16 28

/-- RATE, QP and MARGIN values that are within their ranges (R473). -/
def rateOk (rate qp margin : Nat) : Bool :=
  let lo := bitsOf qp 5 0
  let hi := bitsOf qp 13 8
  let init := bitsOf qp 21 16
  100 ≤ rate && rate ≤ 400000 && hi ≤ 51 && init ≤ 51 && lo ≤ init && lo ≤ hi && 1 ≤ bitsOf qp 27 24 && margin ≤ 64

/-- The surface of reference buffer `i` (R445). -/
def State.refSurf (s : State) (c i : Nat) : Surf :=
  ⟨s.addrPair (R.ENC_REF_BASE_LO c) (R.ENC_REF_BASE_HI c) + i * s.get (F.ENC_REF_POOL_BUF_PAGES c) * 4096,
   if s.flag (F.ENC_CTRL_TEN_BIT c) then 7 else 6, true, s.get (F.ENC_SIZE_WIDTH c), s.get (F.ENC_SIZE_HEIGHT c), 0⟩

/-- POOL_NEED (R445). -/
def State.encPoolNeed (s : State) (c : Nat) : Nat :=
  ((s.refSurf c 0).bytes / 4096 + Config.encMotion (s.get (F.ENC_SIZE_WIDTH c)) (s.get (F.ENC_SIZE_HEIGHT c))
    (s.word (R.ENC_SPLIT_CFG c))) % 65536

/-- The split breaks the codec's limits: tiles and WPP are H.265's; a tile is at least 256 × 64. -/
def State.splitBreaks (s : State) (c : Nat) (l : Level) : Bool :=
  let codec := s.get (F.ENC_CTRL_CODEC c)
  match s.get (F.ENC_CTRL_SPLIT c) with
  | 1 => decide (ceilDiv (s.get (F.ENC_SIZE_HEIGHT c)) (ctuOf codec) < s.get (F.ENC_SPLIT_CFG_SLICES c))
  | 2 => codec == 1 || l.cols < s.get (F.ENC_SPLIT_CFG_TILE_COLS c) || l.rows < s.get (F.ENC_SPLIT_CFG_TILE_ROWS c) ||
      (s.rowsOf c).any (fun g => g.w < 256 && g.w != s.get (F.ENC_SIZE_WIDTH c)) || (s.rowsOf c).isEmpty
  | 3 => codec == 1
  | _ => false

/-- The input ring is absent, not enabled or of another payload (R443). -/
def State.encSrcBad (s : State) (c : Nat) : Bool :=
  let i := s.get (F.ENC_SRC_IDX c)
  match s.get (F.ENC_CTRL_SRC_KIND c) with
  | 0 => !s.flag (F.INGR_CTRL_ENABLE i) || !(s.get (F.INGR_CTRL_PAYLOAD i) == 3 || s.get (F.INGR_CTRL_PAYLOAD i) == 5)
  | 1 => !decide (i < 128) || !s.flag (F.DEC_CTRL_ENABLE i)
  | _ => !decide (i < 32) || !s.hasWb i || !s.flag (F.COMP_WB_CTRL_EN i)

/-- An enable of context `c` is refused (R443). -/
def State.encRefused (s : State) (c : Nat) : Bool :=
  let codec := s.get (F.ENC_CTRL_CODEC c)
  let lvl := levelFor codec (s.get (F.ENC_SIZE_WIDTH c)) (s.get (F.ENC_SIZE_HEIGHT c)) (s.get (F.ENC_PERIOD_US c))
    (s.get (F.ENC_RATE_BITRATE c))
  (s.encGroup (s.get (F.ENC_CTRL_GROUP c))).isEmpty || s.encSrcBad c || (codec == 1 && s.flag (F.ENC_CTRL_TEN_BIT c)) ||
  !s.encRanges c || !rateOk (s.get (F.ENC_RATE_BITRATE c)) (s.word (R.ENC_QP c)) (s.get (F.ENC_MARGIN_MARGIN c)) ||
  (match lvl with
   | some l => decide (l.cpb < s.get (F.ENC_BUFFER_BUF_SIZE c)) || s.splitBreaks c l
   | none => true) ||
  decide (s.get (F.ENC_REF_POOL_BUF_PAGES c) < s.encPoolNeed c) ||
  (s.flag (F.ENC_CTRL_WLK_EN c) && (List.range 64).any (fun d => d != c && s.flag (F.ENC_CTRL_ENABLE d) &&
    s.flag (F.ENC_CTRL_WLK_EN d) && s.get (F.ENC_WLK_VC d) == s.get (F.ENC_WLK_VC c) &&
    s.get (F.ENC_WLK_TAG d) == s.get (F.ENC_WLK_TAG c)))

/-- A reserved CODEC, SRC_KIND, virtual channel 15 or an overlap (R477, R517). -/
def State.encReserved (s : State) (c : Nat) : Bool :=
  let codec := s.get (F.ENC_CTRL_CODEC c)
  codec == 0 || codec == 3 || s.get (F.ENC_CTRL_SRC_KIND c) == 3 ||
  (s.flag (F.ENC_CTRL_WLK_EN c) && s.get (F.ENC_WLK_VC c) == 15) ||
  s.inUseClash (.enc c) (s.encAreas c)

/-- An UNPREDICTABLE outcome confined to the context (R477). (DESIGN CHOICE, log 21.) -/
def State.encUnpred (s : State) (c master : Nat) : State :=
  s.unpredictable master (R.ENC_CTRL c) (R.ENC_CTRL c + 0xFF)

/-- A context that passed its checks is enabled (R443, R476): the first picture is a key picture. -/
def State.encEnable (s : State) (c : Nat) : State :=
  let s := [R.ENC_OUT_WR_IDX c, R.ENC_OUT_RD_IDX c, R.ENC_PICS c, R.ENC_KEYS c, R.ENC_OVERRUNS c, R.ENC_SKIP_PICS c,
    R.ENC_SKIP_ROWS c, R.ENC_INPUT_SKIPS c, R.ENC_KEYREQ_CNT c, R.ENC_KEYREQ_DROPS c, R.ENC_SIZE_DROPS c,
    R.ENC_INPUT_FAULTS c, R.ENC_DROPS c, R.ENC_OUT_WAITS c, R.ENC_BUF_OVF c, R.ENC_FILL c,
    R.ENC_LAST_BUDGET c].foldl (fun s a => s.setWord a 0) s
  let s := s.setEnc c { follows := some (s.get (F.ENC_CTRL_SRC_KIND c), s.get (F.ENC_SRC_IDX c)), force := true }
  (s.raise (F.ENC_CTRL_ENABLE c)).raise (F.ENC_STAT_ACTIVE c)

/-- A write of CTRL (R443, R472). -/
def State.writeEncCtrl (s : State) (c : Nat) (w : Wr) : State :=
  s.guarded (G.ENC_CTRL c) w fun s =>
    let v := w.data.toNat
    if s.flag (F.ENC_CTRL_ENABLE c) then
      let s := s.cond (v % 2 ^ 31 != s.word (R.ENC_CTRL c) % 2 ^ 31) (·.raise (F.ENC_STAT_CFG_REJ c))
      s.cond (!bitOf v 31) (·.drop (F.ENC_CTRL_ENABLE c))
    else
      let s := s.setWord (R.ENC_CTRL c) (v % 2 ^ 31)
      if !bitOf v 31 then s
      else if s.encReserved c then s.encUnpred c w.master
      else if s.encRefused c then s.raise (F.ENC_STAT_CFG_REJ c)
      else s.encEnable c

/-- The picture in coding has completed after a disable (R444). -/
def State.encDrained (s : State) (c : Nat) : State :=
  if !s.flag (F.ENC_CTRL_ENABLE c) && s.flag (F.ENC_STAT_ACTIVE c) && (s.enc c).cur.isNone then
    (s.setEnc c { s.enc c with follows := none, held := none }).drop (F.ENC_STAT_ACTIVE c)
  else s

/-- Registers of an enabled context that a write may change (R443). -/
def encOpen (a : Nat) : Bool :=
  ([0x00, 0x14, 0x20, 0x24, 0x50, 0x58, 0x5C, 0x60] : List Nat).contains ((a - R.ENC_CTRL 0) % 0x100)

/-- A write of RATE, QP or MARGIN to an enabled context is within the ranges (R473). -/
def State.encRateWrite (s : State) (c a v : Nat) : Bool :=
  let pick := fun r => if a = r then v else s.word r
  rateOk (pick (R.ENC_RATE c)) (pick (R.ENC_QP c)) (pick (R.ENC_MARGIN c))

/-- A write of OUT_RD_IDX (R458, R477). -/
def State.writeEncRd (s : State) (c : Nat) (w : Wr) : State :=
  s.guarded (G.ENC_OUT_RD_IDX c) w fun s =>
    let v := w.data.toNat % 65536
    let rd := s.get (F.ENC_OUT_RD_IDX_IDX c)
    if s.flag (F.ENC_CTRL_WLK_EN c) || ahead (s.get (F.ENC_OUT_WR_IDX_IDX c)) rd < ahead v rd then s.encUnpred c w.master
    else s.set (F.ENC_OUT_RD_IDX_IDX c) v

/-! ## Key-picture requests (R461 to R464) -/

/-- A request at a context (R461 to R463, R469). -/
def State.encRequest (s : State) (c : Nat) : State :=
  if !s.flag (F.ENC_CTRL_ENABLE c) then s
  else
    let s := s.inc (F.ENC_KEYREQ_CNT_CNT c)
    let hold := min 1000 (s.get (F.ENC_KEYREQ_HOLDOFF c)) * 1000000
    let r := s.enc c
    if hold ≠ 0 && (match r.lastKey with | some t => decide (s.ns ≤ t + hold) | none => false) then
      (s.inc (F.ENC_KEYREQ_DROPS_CNT c)).raise (F.ENC_STAT_KEYREQ_EV c)
    else s.setEnc c { r with req := true }

/-- A write of KEYREQ (R461, R475). -/
def State.writeEncKeyreq (s : State) (c : Nat) (w : Wr) : State :=
  s.guarded (G.ENC_KEYREQ c) w fun s =>
    let s := s.plainWrite w (R.ENC_KEYREQ c)
    s.cond (bitOf w.data.toNat 31) (·.encRequest c)

/-- The next picture of a context is a key picture (R462, R464, R467). -/
def State.keyDue (s : State) (c : Nat) : Bool :=
  let r := s.enc c
  let gop := s.get (F.ENC_GOP_GOP_LEN c)
  r.force || r.req || (gop != 0 && gop ≤ r.since)

/-! ## The start of a picture (R446, R447, R458) -/

/-- Access units of the data ring that the consumer has not released. -/
def State.encData (s : State) (c : Nat) : List (Nat × Nat × Nat) :=
  let rd := s.get (F.ENC_OUT_RD_IDX_IDX c)
  let n := ahead (s.get (F.ENC_OUT_WR_IDX_IDX c)) rd
  (s.enc c).data.filter (fun e => ahead e.1 rd < n)

/-- Free bytes of the data ring. -/
def State.encSpace (s : State) (c : Nat) : Nat :=
  2 ^ s.get (F.ENC_OUT_RING_DATA_LOG2 c) - (s.encData c).foldl (fun n e => n + e.2.2) 0

/-- The output rings have room for a picture (R458). -/
def State.encRoom (s : State) (c : Nat) : Bool :=
  let need := if s.flag (F.ENC_CTRL_RC_MODE c) then s.get (F.ENC_BUFFER_BUF_SIZE c) * 1000 / 8 + 4096
    else 2 ^ (s.get (F.ENC_OUT_RING_DATA_LOG2 c) - 2)
  ahead (s.get (F.ENC_OUT_WR_IDX_IDX c)) (s.get (F.ENC_OUT_RD_IDX_IDX c)) < 2 ^ s.get (F.ENC_OUT_RING_DESC_LOG2 c) &&
  need ≤ s.encSpace c

/-- Idle cores of a group. -/
def State.encIdle (s : State) (g : Nat) : List Nat :=
  (s.encGroup g).filter (fun k => (s.encCore k).job.isNone)

/-- The slot is released (R448): the ring's consumer index moves. -/
def State.encRelease (s : State) (c : Nat) : State :=
  let r := s.enc c
  match r.follows, r.held with
  | some (kind, i), some n =>
    ((s.setEnc c { r with held := none }).slotRetired kind i n).cond (kind == 1) (·.decReleased i)
  | _, _ => s

/-- An input fault (R447, R465). -/
def State.encInputFault (s : State) (c seq : Nat) (inj : Bool) : State :=
  ((s.inc (F.ENC_INPUT_FAULTS_CNT c)).raise (F.ENC_STAT_ERR_EV c)).detectWith inj 0x24 c seq

/-- The newest slot that the context has not taken (R446). -/
def State.encNewest (s : State) (c : Nat) : Option (Nat × Nat × Nat) :=
  match (s.enc c).follows with
  | none => none
  | some (kind, i) =>
    match s.newest (s.ring kind i) with
    | none => none
    | some n => if (match (s.enc c).last with | some l => 0 < ahead n l && ahead n l < 32768 | none => true) then some (kind, i, n) else none

/-- The slot's reads through core `k`: buffer, active size and stamp. -/
def State.encRead (s : State) (k kind i n : Nat) : Option (Buf × Nat × Nat × Stamp) × State :=
  let r := s.ring kind i
  match s.unitRead (encMaster k) (r.base + n % 2 ^ r.log2 * 64) 64 with
  | (none, s) => (none, s)
  | (some d, s) =>
    let b := s.ringBuf kind i n d
    match s.readStamp (encMaster k) b.addr with
    | (none, s) => (none, s)
    | (some t, s) =>
      let (w, h) := if kind = 1 then (leAt d 0x1C 2, leAt d 0x1E 2) else (b.width, b.height)
      (some (b, w, h, t), s)

/-- A slot is taken: its picture starts, or it is released without coding. -/
def State.encTake (s : State) (c k kind i n : Nat) : State :=
  let r := s.enc c
  let skipped := match r.last with | some l => ahead n l - 1 | none => 0
  let s := (s.setEnc c { r with held := some n, last := some n, waiting := false }).add (F.ENC_INPUT_SKIPS_CNT c) skipped
  let inj := s.injArmed 0x24 c
  let s := s.injSpend 0x24 c
  match (if inj then (none, s) else s.encRead k kind i n) with
  | (none, s) => (s.encInputFault c 0 inj).encRelease c
  | (some (b, w, h, t), s) =>
    if w ≠ s.get (F.ENC_SIZE_WIDTH c) ∨ h ≠ s.get (F.ENC_SIZE_HEIGHT c) then
      ((s.inc (F.ENC_SIZE_DROPS_CNT c)).raise (F.ENC_STAT_SIZE_EV c)).encRelease c
    else
      let u : EncCur := { count := n, buf := b, stamp := t, rate := s.get (F.ENC_RATE_BITRATE c), qp := s.word (R.ENC_QP c),
                          margin := s.get (F.ENC_MARGIN_MARGIN c), startNs := s.ns }
      s.setEnc c { s.enc c with cur := some u, lastStart := some s.ns }

/-- A picture starts where every condition of R446 holds; one that waits for output space is counted (R458). -/
def State.encStart (s : State) (c : Nat) : State :=
  let r := s.enc c
  let due := match r.lastStart with
    | some t => decide (15 * s.get (F.ENC_PERIOD_US c) * 1000 ≤ 16 * (s.ns - t))
    | none => true
  match s.encIdle (s.get (F.ENC_CTRL_GROUP c)), s.encNewest c with
  | k :: _, some (kind, i, n) =>
    if !s.flag (F.ENC_CTRL_ENABLE c) || s.bulkCut || r.cur.isSome || !due || s.get F.TWIN_STAT_ROLE == 3 then s
    else if !s.encRoom c then
      if r.waiting then s else (s.setEnc c { r with waiting := true }).inc (F.ENC_OUT_WAITS_CNT c)
    else s.encTake c k kind i n
  | _, _ => s

/-! ## Rows (R452 to R454, R465) -/

/-- Previous picture of the type of the picture in coding. -/
def EncRec.prev (r : EncRec) (key : Bool) : Option EncPrev :=
  if key then r.prevKey else r.prevP

/-- The decisions of picture start, made at the first row start, when the picture's type is known (R452, R462, R601). -/
def State.encFirst (s : State) (c : Nat) (u : EncCur) : EncCur × State :=
  let key := s.keyDue c
  let r := s.enc c
  let tb := u.stamp.tb
  let t := s.tb tb
  let locked := s.tbInUse tb && s.tbLocked tb && (u.stamp.captureTime + 2 ^ 48 - t.lockSince) % 2 ^ 48 < 2 ^ 47
  let u := { u with first := some s.ns, key := key, requested := key && r.req, tbLocked := locked }
  let r := { r with force := false, req := false, lastKey := if key then some s.ns else r.lastKey }
  let qmin := bitsOf u.qp 5 0
  let qmax := bitsOf u.qp 13 8
  let init := bitsOf u.qp 21 16
  if s.flag (F.ENC_CTRL_RC_MODE c) then
    let drain := drainOf u.rate (s.get (F.ENC_PERIOD_US c))
    let buf := s.get (F.ENC_BUFFER_BUF_SIZE c) * 1000
    let fill := r.fill - drain
    let raw : Int := if key then ((drain * bitsOf u.qp 27 24 : Nat) : Int)
      else (drain : Int) + (((buf / 2 : Nat) : Int) - (fill : Int)).tdiv 4
    let budget := (clampInt ((drain / 8 : Nat) : Int) ((buf - fill : Nat) : Int) (raw - (r.carry : Int))).toNat
    let q := match r.prev key with
      | none => (init : Int)
      | some p => clampInt ((p.meanQp : Int) - 6) ((p.meanQp : Int) + 6) ((p.meanQp : Int) + log6 p.bits (max 1 budget))
    let u := { u with budget := budget, picQp := (clampInt qmin qmax q).toNat }
    (u, s.setEnc c { r with fill := fill, carry := 0 })
  else ({ u with picQp := init }, s.setEnc c r)

/-- QP of row `j`, whether it is skip-coded, and the picture's state after the decision (R452). (DEDUCED, log 28.) -/
def rowChoice (u : EncCur) (prev : Option EncPrev) (geo : List RowGeo) (codec j spent : Nat) (done : List Nat) : EncRow × EncCur :=
  let qmin := bitsOf u.qp 5 0
  let qmax := bitsOf u.qp 13 8
  let ws := weights prev geo.length
  let sum := ws.foldl (· + ·) 0
  let rb := fun i => u.budget * nth 1 ws i / sum
  let area := geo.foldl (fun a g => a + g.w * g.h) 0
  let est := fun i => match prev with
    | some p => scalePow (nth 1 ws i) (((nth (0, 0) p.rows i).2 : Int) - (qmax : Int))
    | none =>
      let g := nth ⟨0, 0, 0, 0, 0⟩ geo i
      scalePow (u.budget * (g.w * g.h) / area) ((u.picQp : Int) - (qmax : Int))
  let expected := (u.rows.zip done).foldl (fun n (r, d) =>
    n + rb r.row * d / max 1 ((nth ⟨0, 0, 0, 0, 0⟩ geo r.row).blocks codec)) 0
  let excess := !u.skipping && (u.clamped || u.budget ≤ spent)
  let clamped := u.clamped || excess
  let rest := (List.range geo.length).filter (fun i => u.rows.all (·.row != i))
  let need := rest.foldl (fun n i => n + est i) 0
  let skipping := u.skipping || (excess && u.budget + u.budget * u.margin / 64 < spent + need)
  let adj := clampInt (-4) 4 ((((spent : Int) - (expected : Int)) * 8).tdiv (max 1 u.budget : Nat))
  let qp := if clamped then qmax else (clampInt qmin qmax ((u.picQp : Int) + adj)).toNat
  let row : EncRow := { row := j, qp := qp, skip := skipping }
  (row, { u with clamped := clamped, skipping := skipping })

/-- Source lines of a row: plane and line, one for each fetch. -/
def rowLines (b : Buf) (g : RowGeo) : List (Nat × Nat) :=
  (List.range (planesOf b.format).length).flatMap (fun p =>
    let k := if p = 1 ∧ half420 b.format then 2 else 1
    let y0 := (b.srcY + g.y) / k
    let y1 := (b.srcY + g.y + g.h - 1) / k
    let step := if b.dbc then 4 else 1
    ((List.range (y1 + 1)).filter (fun y => y0 / step * step ≤ y ∧ y % step = 0)).map (fun y => (p, y)))

/-- The input fetch of a row through core `k`: its lines, or none from the first refused one on, and whether all came. -/
def State.rowFetch (s : State) (k : Nat) (b : Buf) (g : RowGeo) : Bool × Lines × State :=
  let f : Surf := ⟨b.addr, b.format, b.dbc, b.width, b.height, 0⟩
  (rowLines b g).foldl (fun (ok, ls, s) (p, y) =>
    if !ok then (false, ls, s)
    else match s.fetchLine (encMaster k) f p y with
      | (.refused, s) => (false, ls, s)
      | (.lines y0 _ new, s) => (true, Lines.addAll ls p y0 new, s)) (true, [], s)

/-- The context whose picture gets the next free core of a group (R449). -/
def State.encNext (s : State) (g : Nat) : Option Nat :=
  let key := fun c => match (s.enc c).cur with
    | some u => (4 - s.get (F.ENC_CTRL_PRIO c), u.startNs)
    | none => (4, 0)
  ((List.range 64).filter (fun c => s.get (F.ENC_CTRL_GROUP c) == g && (match (s.enc c).cur with
    | some u => decide (u.next < s.unitsOf c)
    | none => false))).foldl (fun (b : Option Nat) c => match b with
      | some d => if (key c).1 < (key d).1 ∨ ((key c).1 = (key d).1 ∧ (key c).2 < (key d).2) then some c else b
      | none => some c) none

/-- Core that works on a unit of a context. -/
def State.encCoreOf (s : State) (c unit : Nat) : Option Nat :=
  (List.range 8).find? (fun k => match (s.encCore k).job with
    | some (d, u, _) => d == c && u == unit
    | none => false)

/-- The core that codes a unit's next row: the one that runs it, or a free one that takes the unit (R449). -/
def State.encHand (s : State) (c : Nat) (u : EncCur) (unit : Nat) : Option Nat × State :=
  match s.encCoreOf c unit with
  | some k => (some k, s)
  | none =>
    let g := s.get (F.ENC_CTRL_GROUP c)
    match s.encIdle g with
    | k :: _ =>
      if u.next = unit ∧ s.encNext g = some c then
        (some k, (s.setEnc c { s.enc c with cur := some { u with next := u.next + 1 } }).setEncCore k
          { s.encCore k with job := some (c, unit, s.ns), since := s.ns })
      else (none, s)
    | [] => (none, s)

/-- Row `j` starts, of WPP once the row above has completed two CTUs (R449), decided on the bits emitted so far and the blocks
done of the rows started earlier (R452, R453); the first row of a picture whose input is refused counts the picture's input
fault (R465). (DEDUCED, log 28.) -/
def State.encRow (s : State) (c j spent : Nat) (done : List Nat) : State :=
  let geo := s.rowsOf c
  match (s.enc c).cur with
  | none => s
  | some u =>
    let g := nth ⟨0, 0, 0, 0, 0⟩ geo j
    let earlier := (List.range j).filter (fun i => (nth ⟨0, 0, 0, 0, 0⟩ geo i).unit == g.unit)
    let ready := decide (j < geo.length) && u.rows.all (·.row != j) && earlier.all (fun i => u.rows.any (·.row == i))
    let wpp := s.get (F.ENC_CTRL_SPLIT c) == 3 && j != 0 &&
      !(u.rows.zip done).any (fun (r, d) => r.row + 1 == j && decide (min 2 (g.blocks (s.get (F.ENC_CTRL_CODEC c))) ≤ d))
    if !ready || wpp then s
    else
      match s.encHand c u g.unit with
      | (none, s) => s
      | (some k, s) =>
        let u := match (s.enc c).cur with | some v => v | none => u
        let (u, s) := if u.first.isNone then s.encFirst c u else (u, s)
        let rc := s.flag (F.ENC_CTRL_RC_MODE c)
        let (row, u) := if rc then rowChoice u ((s.enc c).prev u.key) geo (s.get (F.ENC_CTRL_CODEC c)) j spent done
          else ({ row := j, qp := u.picQp }, u)
        let (ok, ls, s) := s.rowFetch k u.buf g
        let row := { row with skip := row.skip || !ok, lost := !ok }
        let s := s.cond (!ok && !u.rows.any (·.lost)) (·.encInputFault c u.stamp.seq false)
        s.setEnc c { s.enc c with cur := some { u with rows := u.rows ++ [row], lines := u.lines ++ ls } }

/-! ## Work units, and pictures that are discarded (R449, R466 to R468) -/

/-- Core `k` ends its unit. -/
def State.encUnitEnd (s : State) (k : Nat) : State :=
  match (s.encCore k).job with
  | none => s
  | some _ => s.setEncCore k { clocks := s.coreClocks (s.encCore k) }

/-- The picture in coding is discarded: no reference is left, and its slot retires. (DEDUCED, log 28.) -/
def State.encDiscard (s : State) (c : Nat) : State :=
  let s := (List.range 8).foldl (fun s k => match (s.encCore k).job with
    | some (d, _, _) => s.cond (d == c) (·.encUnitEnd k)
    | none => s) s
  let s := s.setEnc c { s.enc c with cur := none, force := true }
  ((s.inc (F.ENC_DROPS_CNT c)).raise (F.ENC_STAT_ERR_EV c)).encRelease c

/-- The watchdog of core `k` (R466). -/
def State.encTrip (s : State) (k : Nat) (inj : Bool) : State :=
  match (s.encCore k).job with
  | none => s
  | some (c, _, _) => (((s.inc (F.ENCK_WDOG_CNT_CNT k)).detectWith inj 0x23 k c).encUnitEnd k).encDiscard c

/-- A unit has run for more than 100 ms. -/
def State.encWatchdog (s : State) (k : Nat) : State :=
  match (s.encCore k).job with
  | some (_, _, t) => if 100000000 < s.ns - t then s.encTrip k false else s
  | none => s

/-- Bits of a unit's rows, in row order, put into the picture's rows. -/
def putBits' (rows : List EncRow) (ids bits : List Nat) : List EncRow :=
  rows.map (fun r => if ids.contains r.row then { r with bits := nth 0 bits (ids.idxOf r.row) } else r)

/-- A work unit completes (R449). -/
def State.encUnitDone (s : State) (k : Nat) (rowBits : List Nat) : State :=
  match (s.encCore k).job with
  | none => s
  | some (c, unit, _) =>
    let inj := s.injArmed 0x23 k
    let s := s.injSpend 0x23 k
    if inj then s.encTrip k true
    else
      let geo := s.rowsOf c
      let ids := (List.range geo.length).filter (fun i => (nth ⟨0, 0, 0, 0, 0⟩ geo i).unit == unit)
      match (s.enc c).cur with
      | none => s.encUnitEnd k
      | some u =>
        if !ids.all (fun i => u.rows.any (·.row == i)) then s
        else
          let u := { u with ended := u.ended + 1, core := k, rows := putBits' u.rows ids rowBits }
          ((s.setEnc c { s.enc c with cur := some u }).inc (F.ENCK_UNITS_CNT k)).encUnitEnd k

/-- The data outgrows the ring (R468). -/
def State.encOverflow (s : State) (c : Nat) : State :=
  s.cond (s.enc c).cur.isSome (·.encDiscard c)

/-! ## The end of a picture (R452, R455 to R460) -/

/-- NAL units of an Annex B byte stream, without the zero bytes that end them: `zeros` stand before the next byte, and `acc` is
the unit so far, newest byte first. -/
def nalUnits : List Byte → Nat → List Byte → List (List Byte)
  | [], _, acc => if acc.isEmpty then [] else [acc.reverse]
  | b :: t, zeros, acc =>
    if b = 1#8 ∧ 2 ≤ zeros then (if acc.isEmpty then [] else [acc.reverse]) ++ nalUnits t 0 []
    else if b = 0#8 then nalUnits t (zeros + 1) acc
    else nalUnits t 0 (b :: List.replicate zeros 0#8 ++ acc)

/-- Bytes of a NAL unit without its emulation-prevention bytes. -/
def rbsp : List Byte → Nat → List Byte
  | [], _ => []
  | b :: t, zeros =>
    if b = 3#8 ∧ 2 ≤ zeros then rbsp t 0 else b :: rbsp t (if b = 0#8 then zeros + 1 else 0)

/-- Type of a NAL unit. -/
def nalType (h264 : Bool) (n : List Byte) : Nat :=
  if h264 then beAt n 0 1 % 32 else beAt n 0 1 / 2 % 64

/-- level_idc of a sequence parameter set. -/
def spsLevel (h264 : Bool) (n : List Byte) : Nat :=
  beAt (rbsp n 0) (if h264 then 3 else 14) 1

/-- The NAL units of an access unit that the encoder writes (R436, R437): before a key picture VPS (H.265), SPS of the level
given and PPS; then slices of an IDR picture (IDR_N_LP) or of a P picture, and nothing else, an SEI least of all. The types'
numbers are the codecs' own. (PRESUMED, log 27.) -/
def encAuOk (h264 key : Bool) (level : Option Level) (au : List Byte) : Bool :=
  let ns := nalUnits au 0 []
  let sets : List Nat := if !key then [] else if h264 then [7, 8] else [32, 33, 34]
  let slices := ns.drop sets.length
  (ns.take sets.length).map (nalType h264) == sets &&
  ns.all (fun n => nalType h264 n != (if h264 then 7 else 33) || (match level with
    | some l => spsLevel h264 n == l.idc
    | none => true)) &&
  !slices.isEmpty && slices.all (fun n => nalType h264 n == (if key then (if h264 then 5 else 20) else 1))

/-- The access unit that ends a picture is one that the encoder writes (R437). -/
def State.encWrites (s : State) (c : Nat) (u : EncCur) (au : List Byte) : Bool :=
  encAuOk (s.get (F.ENC_CTRL_CODEC c) == 1) u.key (levelFor (s.get (F.ENC_CTRL_CODEC c)) (s.get (F.ENC_SIZE_WIDTH c))
    (s.get (F.ENC_SIZE_HEIGHT c)) (s.get (F.ENC_PERIOD_US c)) u.rate) au

/-- Frames of an access unit on the wall link (R489): payloads of 1024 bytes, of which the first header takes 20 and each later
one 4. -/
def videoMsgs (vc tag : Nat) (locked : Bool) (stamp : Stamp) (ctx : Nat) (au : List Byte) : List LinkMsg :=
  let n := 1 + ceilDiv (au.length - 1004) 1020
  (List.range n).map (fun i =>
    let part := if i = 0 then au.take 1004 else slice au (1004 + (i - 1) * 1020) 1020
    let head := if i = 0 then stamp.bytes ++ bytesLE 2 n ++ bytesLE 2 0 else bytesLE 2 i ++ bytesLE 2 0
    { type := 1, vc := vc, tag := tag, flags := bitsFrom [i == 0, i + 1 == n, i == 0 && locked], payload := head ++ part,
      ctx := if i + 1 = n then some ctx else none })

/-- The link takes an access unit of a WLK_EN context, or it is discarded while the link is not UP (R460, R507). -/
def State.encToLink (s : State) (c : Nat) (u : EncCur) (au : List Byte) : State :=
  if s.linkUp .wall then
    (videoMsgs (s.get (F.ENC_WLK_VC c)) (s.get (F.ENC_WLK_TAG c)) u.tbLocked u.stamp c au).foldl (·.linkSay .wall ·) s
  else (s.bump (F.ENC_OUT_RD_IDX_IDX c)).inc F.WLK_TX_DISCARDS_CNT

/-- Offset in the data ring for an access unit that does not wrap (R458). -/
def State.encPlace (s : State) (c len : Nat) : Option Nat :=
  let size := 2 ^ s.get (F.ENC_OUT_RING_DATA_LOG2 c)
  let o := (s.enc c).nextOff
  let o := if o + len ≤ size then o else 0
  if o + len ≤ size ∧ (s.encData c).all (fun e => o + len ≤ e.2.1 ∨ e.2.1 + e.2.2 ≤ o) then some o else none

/-- The 64 bytes of an output descriptor (R459). -/
def encDesc (u : EncCur) (o len bits mean skips now : Nat) (excess : Bool) : List Byte :=
  u.stamp.bytes ++ bytesLE 4 o ++ bytesLE 4 len ++ bytesLE 4 bits ++ bytesLE 4 u.budget ++
  bytesLE 4 (bitsFrom [u.key, u.clamped, decide (0 < skips), excess, u.rows.any (·.lost), u.requested, u.tbLocked]) ++
  bytesLE 4 (u.picQp % 64 + mean % 64 * 2 ^ 8 + skips % 65536 * 2 ^ 16) ++ bytesLE 8 now ++ bytesLE 16 0

/-- Mean QP of the rows that were not skip-coded, to nearest; the picture's QP where there are none. -/
def meanQp (u : EncCur) : Nat :=
  let qs := (u.rows.filter (fun r => !r.skip)).map (·.qp)
  if qs.isEmpty then u.picQp else (2 * qs.foldl (· + ·) 0 + qs.length) / (2 * qs.length)

/-- Rate control at picture end (R452): whether the picture overran, and the state. (DEDUCED, log 28.) -/
def State.encAccount (s : State) (c : Nat) (u : EncCur) (n bits : Nat) : Bool × State :=
  if !s.flag (F.ENC_CTRL_RC_MODE c) then (false, s)
  else
    let r := s.enc c
    let buf := s.get (F.ENC_BUFFER_BUF_SIZE c) * 1000
    let excess := decide (u.budget < bits)
    let fill := r.fill + bits
    let p : EncPrev := { bits := bits, meanQp := meanQp u, rows := (List.range n).map (fun j =>
      match u.rows.find? (·.row == j) with | some x => (x.bits, x.qp) | none => (0, 0)) }
    let r := { r with carry := bits - u.budget, fill := min fill buf,
                      prevKey := if u.key then some p else r.prevKey, prevP := if u.key then r.prevP else some p }
    let s := (s.setEnc c r).cond (buf < fill) (·.inc (F.ENC_BUF_OVF_CNT c))
    (excess, s.setWord (R.ENC_FILL c) (min fill buf))

/-- Counters and events of a published picture (R455, R462). -/
def State.encCount (s : State) (c : Nat) (u : EncCur) (skips : Nat) (excess : Bool) : State :=
  let s := (s.inc (F.ENC_PICS_CNT c)).cond u.key (·.inc (F.ENC_KEYS_CNT c))
  let s := s.cond excess fun s => (s.inc (F.ENC_OVERRUNS_CNT c)).raise (F.ENC_STAT_OVERRUN_EV c)
  let s := s.cond (0 < skips) fun s =>
    ((s.inc (F.ENC_SKIP_PICS_CNT c)).add (F.ENC_SKIP_ROWS_CNT c) skips).raise (F.ENC_STAT_SKIP_EV c)
  s.setWord (R.ENC_LAST_BUDGET c) u.budget

/-- Surfaces of the reference pictures of a P picture, the latest first (R436, R445): at most REFS, coded since the last key
picture. -/
def State.encRefs (s : State) (c : Nat) : List Surf :=
  let r := s.enc c
  let n := s.get (F.ENC_GOP_REFS c) + 1
  (List.range (min (n - 1) (r.since + 1))).map (fun i => s.refSurf c ((r.refIdx + 2 * n - 1 - i) % n))

/-- Component of a reference picture at a column and line of its plane. -/
def State.refSample (s : State) (f : Surf) (comp x y : Nat) : Nat :=
  if comp = 0 then s.surfElem f 0 x y
  else
    let e := chromaOf f.fmt (s.surfElem f 1 x y)
    if comp = 1 then e.1 else e.2

/-- The reference pictures read through the core's checker, line by line. What a refused read gives the coding is not stated,
and the coding is free. (DESIGN CHOICE, log 87.) -/
def State.encRefReads (s : State) (c k : Nat) : State :=
  (s.encRefs c).foldl (fun s f =>
    (List.range 2).foldl (fun s p =>
      (List.range (ceilDiv (planeDims f.fmt p f.w f.h).2 4)).foldl (fun s i => (s.fetchLine (encMaster k) f p (4 * i)).2) s) s) s

/-- The motion search of a P picture: per reference the areas' vectors and every partition's (R439, R440). References are
padded by edge replication. -/
def State.encSearch (s : State) (c : Nat) (u : EncCur) : List (List Mv × List (CodedBlock × Mv)) :=
  let src := encSample u.buf (s.flag (F.ENC_CTRL_TEN_BIT c)) u.lines 0
  (s.encRefs c).zipIdx.map (fun (f, i) =>
    let ref := fun (x y : Int) => s.refSample f 0 (clampInt 0 ((f.w : Int) - 1) x).toNat (clampInt 0 ((f.h : Int) - 1) y).toNat
    let q : Search := { h264 := s.get (F.ENC_CTRL_CODEC c) == 1, w := f.w, h := f.h,
                        rank := fun step b v => Config.motionRank src ref step (b.x, b.y, b.w, b.h) v }
    q.field (nth [] (s.enc c).mvs i))

/-- Component of the reconstruction (R454, R456): a skip-coded row of a P picture copies reference 0; the rest is what the
codec's coding gives of the input, the references and the vectors. -/
def State.encComp (s : State) (c : Nat) (u : EncCur) (fields : List (List Mv × List (CodedBlock × Mv))) (comp x y : Nat) : Nat :=
  let k := if comp = 0 then 1 else 2
  let geo := s.rowsOf c
  let j := geo.findIdx (fun g => decide (g.x ≤ x * k ∧ x * k < g.x + g.w ∧ g.y ≤ y * k ∧ y * k < g.y + g.h))
  let skip := u.rows.any (fun r => r.row == j && r.skip)
  match skip && !u.key, s.encRefs c with
  | true, f :: _ => s.refSample f comp x y
  | _, refs =>
    let refs := if u.key then [] else (refs.zip fields).map (fun (f, m) =>
      (s.refSample f, m.2.map (fun (b, v) => ((b.x, b.y, b.w, b.h), v))))
    Config.encodeSample (s.free, u.key, u.rows.map (fun r => (r.qp, r.skip)))
      (encSample u.buf (s.flag (F.ENC_CTRL_TEN_BIT c)) u.lines) refs comp x y % (if s.flag (F.ENC_CTRL_TEN_BIT c) then 1024 else 256)

/-- Element of the reconstruction in the reference pool's format. -/
def State.encElem (s : State) (c : Nat) (u : EncCur) (fields : List (List Mv × List (CodedBlock × Mv))) (p x y : Nat) : Nat :=
  if p = 0 then s.encComp c u fields 0 x y
  else s.encComp c u fields 1 x y + s.encComp c u fields 2 x y * (if s.flag (F.ENC_CTRL_TEN_BIT c) then 2 ^ 16 else 2 ^ 8)

/-- The reconstruction goes to the reference pool, its motion data after it; a refused write makes the next picture a key
picture (R445, R467). -/
def State.encRecon (s : State) (c : Nat) (u : EncCur) (motion : List Byte) : State :=
  let s := s.cond (!u.key) (·.encRefReads c u.core)
  let fields := if u.key then [] else s.encSearch c u
  let r := s.enc c
  let f := s.refSurf c r.refIdx
  let elem := s.encElem c u fields
  let pages := Config.encMotion f.w f.h (s.word (R.ENC_SPLIT_CFG c))
  let (ok, s) := s.useFree.writeAll (encMaster u.core) (f.writes elem ++ [motionWrite f pages motion])
  let s := s.setEnc c { r with refIdx := (r.refIdx + 1) % (s.get (F.ENC_GOP_REFS c) + 1), force := r.force || !ok,
                               mvs := fields.map (·.1) }
  s.cond (!ok) (·.raise (F.ENC_STAT_ERR_EV c))

/-- Every work unit has completed: the access unit is published and the input slot retires. -/
def State.encPictureDone (s : State) (c : Nat) (au motion : List Byte) : State :=
  match (s.enc c).cur with
  | none => s
  | some u =>
    if u.ended < s.unitsOf c || !s.encWrites c u au then s
    else
      match s.encPlace c au.length with
      | none => s.encDiscard c
      | some o =>
        let bits := u.rows.foldl (fun n r => n + r.bits) 0
        let skips := (u.rows.filter (·.skip)).length
        let (excess, s) := s.encAccount c u (s.rowsOf c).length bits
        let u := { u with stamp := { u.stamp with degraded := u.stamp.degraded || 0 < skips, overrun := u.stamp.overrun || excess } }
        let wr := s.get (F.ENC_OUT_WR_IDX_IDX c)
        let slot := s.addrPair (R.ENC_OUT_DESC_LO c) (R.ENC_OUT_DESC_HI c) + wr % 2 ^ s.get (F.ENC_OUT_RING_DESC_LOG2 c) * 64
        let (ok, s) := s.writeAll (encMaster u.core)
          [(s.addrPair (R.ENC_OUT_DATA_LO c) (R.ENC_OUT_DATA_HI c) + o, au),
           (slot, encDesc u o au.length bits (meanQp u) skips (s.tb48 u.stamp.tb) excess)]
        if !ok then s.encDiscard c
        else
          let s := (s.encRecon c u motion).encCount c u skips excess
          let r := s.enc c
          let s := s.setEnc c { r with cur := none, since := if u.key then 0 else r.since + 1,
                                       data := s.encData c ++ [(wr, o, au.length)], nextOff := o + au.length }
          let s := (s.bump (F.ENC_OUT_WR_IDX_IDX c)).encRelease c
          s.cond (s.flag (F.ENC_CTRL_WLK_EN c)) (·.encToLink c u au)

/-! ## Plan apply (R444) -/

/-- Every context and core at plan apply. -/
def State.encApply (s : State) : State :=
  let s := (List.range 64).foldl (fun s c =>
    let s := (s.drop (F.ENC_CTRL_ENABLE c)).drop (F.ENC_STAT_ACTIVE c)
    s.setEnc c { s.enc c with cur := none, follows := none, held := none, req := false }) s
  { s with encCores := [] }

end Sys2Proof.Machine
end

