-- ==== Sys2Proof/Machine/Sequences.lean ====
section
/-! DEFINITION. Bit sequences on serial lanes: the PRBS generator and checker of raw lanes (R672, R673), and the blocks,
scrambler and lane order of the links (R479, R481). A shift register is the list of its bits, newest first. -/

namespace Sys2Proof.Machine

/-! ## PRBS (R672, R673) -/

/-- The two places of a PRBS code's polynomial: x^7 + x^6 + 1, x^15 + x^14 + 1, x^31 + x^28 + 1. -/
def prbsTaps (code : Nat) : Nat × Nat :=
  match code with
  | 0 => (7, 6)
  | 1 => (15, 14)
  | _ => (31, 28)

/-- The bit that follows the bits of a register: output bit of the generator, prediction of the checker. -/
def prbsNext (code : Nat) (reg : List Bool) : Bool :=
  nth false reg ((prbsTaps code).1 - 1) != nth false reg ((prbsTaps code).2 - 1)

/-- The next `k` bits of the sequence, in the order sent. -/
def prbsBits (code : Nat) (reg : List Bool) : Nat → List Bool
  | 0 => []
  | k + 1 => prbsNext code reg :: prbsBits code ((prbsNext code reg :: reg).take 31) k

/-- A register that holds any bits but all zeros, which the sequences of R672 never hold: that of a generator at its start, and
that of a checker as it locks on the sequence. (DESIGN CHOICE, log 90.) -/
def prbsReg (code any : Nat) : List Bool :=
  let n := (prbsTaps code).1
  (List.range n).map (bitOf (1 + any % (2 ^ n - 1)))

/-! ## Blocks and scrambler (R479, R482) -/

/-- A block before scrambling. -/
inductive Block where
  | data (bytes : List Byte)
  | idle
  | start (blocks : Nat)
  | align (lane count : Nat)
deriving DecidableEq, Repr

/-- The sync header: 0b01 before data, 0b10 before control. -/
def Block.sync (b : Block) : Nat :=
  match b with
  | .data _ => 1
  | _ => 2

/-- The 8 bytes of a block. -/
def Block.bytes (b : Block) : List Byte :=
  match b with
  | .data bs => bs
  | .idle => bytesLE 8 0x1E
  | .start n => bytesLE 1 0x78 ++ bytesLE 7 (n % 65536)
  | .align lane count => bytesLE 1 0x4B ++ bytesLE 1 lane ++ bytesLE 6 (count % 2 ^ 32)

/-- Bytes in blocks of 8. -/
def dataBlocks : Nat → List Byte → List Block
  | 0, _ => []
  | k + 1, bs => .data (bs.take 8) :: dataBlocks k (bs.drop 8)

/-- The blocks of a link frame: START with its length in blocks, itself among them, since the longest has 134 (R485), then its
bytes (R482). (DEDUCED, log 91.) -/
def frameBlocks (bs : List Byte) : List Block :=
  .start (bs.length / 8 + 1) :: dataBlocks (bs.length / 8) bs

/-- Scrambling by x^58 + x^39 + 1: a bit sent is the bit in, xor those sent 39 and 58 bits before. -/
def scramble : List Bool → List Bool → List Bool × List Bool
  | reg, [] => ([], reg)
  | reg, b :: bs =>
    let c := b != (nth false reg 38 != nth false reg 57)
    let (out, reg) := scramble ((c :: reg).take 58) bs
    (c :: out, reg)

/-- Bits of bytes in the order sent: least significant first. (PRESUMED, log 89.) -/
def bitsOfBytes (bs : List Byte) : List Bool :=
  bs.flatMap (fun b => (List.range 8).map (bitOf b.toNat))

/-- Bytes that bits in the order sent spell. -/
def bytesOfBits : Nat → List Bool → List Byte
  | 0, _ => []
  | k + 1, bs => BitVec.ofNat 8 (bitsFrom (bs.take 8)) :: bytesOfBits k (bs.drop 8)

/-! ## Bonded lanes (R481) -/

/-- Block times between ALIGN blocks. -/
def alignEvery : Nat := 16384

/-- The scrambler of lane `j`; at the link's start it holds any bits. -/
def Wire.reg (w : Wire) (j : Nat) : List Bool :=
  Tbl.get (fun j => (List.range 58).map (bitOf (Config.scramblerSeed w.seed j))) w.regs j

/-- A block goes on the next lane of `n`: slot `k` is lane `k` mod `n` of block time `k` / `n`. -/
def Wire.send (w : Wire) (n : Nat) (b : Block) : WireBlock × Wire :=
  let j := w.slot % n
  let (out, reg) := scramble (w.reg j) (bitsOfBytes b.bytes)
  (⟨j, b.sync, bytesOfBits 8 out⟩,
   { w with slot := w.slot + 1, regs := Tbl.set (fun j => (List.range 58).map (bitOf (Config.scramblerSeed w.seed j))) w.regs j reg })

/-- The wire's next slot belongs to an ALIGN block. -/
def Wire.aligns (w : Wire) (n : Nat) : Bool :=
  w.slot / n % alignEvery == 0

/-- Slots that carry no frame: ALIGN on every lane once in 16,384 block times, else IDLE. -/
def Wire.rest (n : Nat) : Nat → Wire → List WireBlock × Wire
  | 0, w => ([], w)
  | k + 1, w =>
    let b := if w.aligns n then .align (w.slot % n) (w.slot / n / alignEvery) else .idle
    let (x, w) := w.send n b
    let (xs, w) := Wire.rest n k w
    (x :: xs, w)

/-- Blocks of the bonded stream in order, ALIGN blocks between them where their block time comes. -/
def Wire.carry (n : Nat) : List Block → Wire → List WireBlock × Wire
  | [], w => ([], w)
  | b :: bs, w =>
    let (a, w) := if w.aligns n then Wire.rest n n w else ([], w)
    let (x, w) := w.send n b
    let (xs, w) := Wire.carry n bs w
    (a ++ x :: xs, w)

/-- A frame on `n` lanes at `rate` Mb/s, from the first block time that has not begun at time `ns`: the blocks that carry it,
after the IDLE and ALIGN blocks of the block times before. (DESIGN CHOICE, log 89.) -/
def Wire.frame (w : Wire) (n rate ns : Nat) (bs : List Byte) : List WireBlock × Wire :=
  let due := ceilDiv ((ns - w.startNs) * rate) 66000 * n
  let (_, w) := Wire.rest n (due - w.slot) w
  Wire.carry n (frameBlocks bs) w

end Sys2Proof.Machine
end

