-- ==== Sys2Proof/Machine/LinkOps.lean ====
section
/-! DEFINITION. The wall link, and what the twin link shares with it (chapters 11 and 12): lanes, handshake and keys,
frames sent and received, messages, software queues. -/

namespace Sys2Proof.Machine

/-- Identifier of the link queues' checker (R575). -/
def linkMaster : Nat := 0xE

/-- Lanes of a link by the plan (R478, R522). -/
def State.linkLanes (s : State) (l : Link) : Nat :=
  match l with
  | .wall => (s.res 0x0E 0).getD 0 % 16
  | .twin => 4

/-- The plan in force makes the part one of a pair (R107, R518). -/
def State.paired (s : State) : Bool :=
  s.variant.twin != 0 && match s.plan with | some p => p.twin.mode != 0 | none => false

/-- The link may leave DOWN (R504, R505, R522, R536, R758). (DEDUCED, log 53.) -/
def State.linkOn (s : State) (l : Link) : Bool :=
  s.plan.isSome && s.applying.isNone && s.inReset.isNone && (s.lifecycle == 1 || s.lifecycle == 2) && !s.bulkCut &&
  s.flag F.SEC_STATUS_ID_OK &&
  match l with
  | .wall => s.flag F.WLK_CTRL_EN && s.linkLanes .wall != 0 && s.get F.TWIN_STAT_ROLE != 3
  | .twin => s.paired

/-! ## Going DOWN (R506, R507) -/

/-- A wall-link entry's access unit in assembly closes (R490, R158, R163, R164). -/
def State.wlkClose (s : State) (i : Nat) (f : FrameAsm) : State :=
  let first := (f.pkts.headD ⟨0, false, []⟩).payload
  let stamp := Stamp.ofBytes (first.take 16)
  let count := leAt first 16 2
  let lost := count - f.pkts.length
  let data := f.pkts.flatMap (fun p => p.payload.drop (if p.seq = 0 then 20 else 4))
  let arr := f.arrival
  let cap := if f.known then stamp.captureTime
    else (((arr : Int) - (s.get (F.INGR_ARR_OFFSET_US i) * 1000 : Nat)) % (2 ^ 48 : Nat)).toNat
  let s := (s.setStream i { s.stream i with frames := [] }).add (F.INGR_LOST_PKTS_CNT i) lost
  let (t, s) := s.makeStamp i { stamp with captureTime := cap, arrivalTimed := if f.known then stamp.arrivalTimed else true,
                                           signature := 0 }
  s.publishData i { stamp := t, pkts := f.pkts.length % 65536, lost := lost % 65536, arrival := arr % 2 ^ 48,
                    flags := descFlags (lost != 0 || !f.pkts.any (·.marker)) (s.stream i).disc false false } data

/-- Every wall-link access unit in assembly closes as partial. -/
def State.wlkCloseAll (s : State) : State :=
  (List.range 512).foldl (fun s i =>
    if s.flag (F.INGR_CTRL_ENABLE i) && s.get (F.INGR_CTRL_KIND i) == 3 then
      (s.stream i).frames.foldl (fun s f => s.wlkClose i f) s
    else s) s

/-- Access units that wait to be sent whole are discarded. -/
def State.txDiscards (s : State) (l : Link) : State :=
  let s := (s.link l).txq.foldl (fun s m => match m.ctx with
    | some c => (s.bump (F.ENC_OUT_RD_IDX_IDX c)).inc F.WLK_TX_DISCARDS_CNT
    | none => s) s
  s.setLink l { s.link l with txq := [] }

/-- The wall link's lane 0 takes RATE as the link leaves DOWN (R665). -/
def State.wallRate (s : State) : State :=
  match s.plan with
  | none => s
  | some p =>
    match p.res.find? (fun r => r.kind == 0x0A && r.param % 16 == 4 && bitsOf r.param 18 16 == 0) with
    | some r => s.setLane r.index { s.lane r.index with rate := max 1250 (min 16000 (s.get (F.LANE_RATE_MBPS r.index))) }
    | none => s

/-- Rate of a link's lanes in Mb/s (R478, R522, R665). -/
def State.linkRate (s : State) (l : Link) : Nat :=
  match l with
  | .wall => match s.plan with
    | some p => match p.res.find? (fun r => r.kind == 0x0A && r.param % 16 == 4 && bitsOf r.param 18 16 == 0) with
      | some r => (s.lane r.index).rate
      | none => 16000
    | none => 16000
  | .twin => 16000

/-- The lanes begin to send blocks, with ALIGN first and scramblers that hold any bits. (DESIGN CHOICE, log 89.) -/
def State.wireStart (s : State) (l : Link) : State :=
  s.useFree.setLink l { s.link l with wire := { startNs := s.ns, seed := s.free } }

/-- The link goes DOWN and, where it may, tries again at once. -/
def State.linkReset (s : State) (l : Link) : State :=
  let s := (s.txDiscards l).cond (l == .wall) (·.wallRate)
  let s := s.cond (l == .wall) (·.wlkCloseAll)
  let locks := (s.link l).locks
  let s := s.setLink l { ({} : LinkRec) with locks := locks }
  let s := (s.cond (s.linkOn l) (·.wireStart l)).cond (l == .wall) (·.drop F.WLK_STAT_EPOCH)
  s.set (linkStateF l) (if !s.linkOn l then 0 else if locks.length = s.linkLanes l then 2 else 1)

/-- The link leaves UP, or a handshake fails, with a FAIL code (R500, R506). -/
def State.linkDown (s : State) (l : Link) (fail : Nat) (inj : Bool) : State :=
  let up := s.linkUp l
  let s := (s.set (linkFailF l) fail).linkReset l
  match l with
  | .wall => (s.raise F.WLK_EVT_DOWN_EV).cond up (·.detectWith inj 0x1D 0 fail)
  | .twin => s.cond up fun s => (s.raise F.TWIN_EVT_LINK_EV).detectWith inj 0x1F 0 fail

/-- EN clears, or the link may no longer run. -/
def State.linkOff (s : State) (l : Link) : State :=
  let up := s.linkUp l
  let s := s.linkReset l
  match l with
  | .wall => s.cond up (·.raise F.WLK_EVT_DOWN_EV)
  | .twin => s.cond up (·.raise F.TWIN_EVT_LINK_EV)

/-! ## Lanes (R480, R481, R505) -/

/-- A lane gains block lock. -/
def State.blockLock (s : State) (l : Link) (lane : Nat) : State :=
  if s.linkLanes l ≤ lane || (s.link l).locks.contains lane || !s.linkOn l then s
  else
    let locks := (s.link l).locks ++ [lane]
    let s := s.setLink l { s.link l with locks := locks }
    let s := s.cond (l == .wall) (·.set F.WLK_STAT_LANES_UP locks.length)
    s.cond (s.get (linkStateF l) < 3) (·.set (linkStateF l) (if locks.length = s.linkLanes l then 2 else 1))

/-- A lane loses block lock. -/
def State.blockLoss (s : State) (l : Link) (lane : Nat) : State :=
  if !(s.link l).locks.contains lane then s
  else
    let locks := (s.link l).locks.filter (· != lane)
    let s := s.setLink l { s.link l with locks := locks }
    let s := s.cond (l == .wall) (·.set F.WLK_STAT_LANES_UP locks.length)
    if 3 ≤ s.get (linkStateF l) then s.linkDown l 1 false
    else s.set (linkStateF l) (if s.linkOn l then 1 else 0)

/-! ## Handshake (R498 to R504) -/

/-- The ROLE byte of a part's HELLO (R499, R522). (DEDUCED, log 53.) -/
def State.helloRole (s : State) (l : Link) : Nat :=
  match l with
  | .wall => s.get F.WLK_CTRL_ROLE
  | .twin => match s.plan with | some p => p.twin.prefer | none => 0

/-- A HELLO payload with a fresh nonce (R499). -/
def State.helloBytes (s : State) (l : Link) : List Byte :=
  let body := bytesLE 1 1 ++ bytesLE 2 0x0100 ++ bytesLE 1 (s.helloRole l) ++ bytesLE 1 (s.linkLanes l) ++ bytesLE 3 0 ++
    (Config.random s.free).take 32 ++ Config.identityKey ++ bytesLE 7 0
  let (r, t) := Config.identitySign (Config.sha384 body)
  body ++ r ++ t

/-- The part sends its HELLO. -/
def State.sayHello (s : State) (l : Link) : State :=
  let h := s.helloBytes l
  let s := s.useFree.setLink l { s.link l with ownHello := h, helloNs := s.ns }
  s.linkQueue l { type := 4, vc := 15, payload := h }

/-- The link is deskewed: HELLO goes out. -/
def State.deskewed (s : State) (l : Link) : State :=
  if s.get (linkStateF l) = 2 ∧ s.linkOn l then (s.set (linkStateF l) 3).sayHello l else s

/-- Skew beyond R481. -/
def State.deskewLost (s : State) (l : Link) : State :=
  s.cond (3 ≤ s.get (linkStateF l)) (·.linkDown l 2 false)

/-- Hash of peer entry `p`, in the byte order of R137. -/
def State.peerHash (s : State) (p : Nat) : List Byte :=
  (List.range 12).flatMap (fun k => bytesLE 4 (s.word (R.WPEER_HASH p k)))

/-- A peer entry is in force (R498): EN is 1 and LOCKS records cover EN and every bit of its hash. -/
def State.peerInForce (s : State) (p : Nat) : Bool :=
  match s.plan with
  | some q => s.flag (F.WPEER_CTRL_EN p) && bitOf (q.lockAt (R.WPEER_CTRL p)).1 0 &&
      (List.range 12).all (fun k => (q.lockAt (R.WPEER_HASH p k)).1 == 0xFFFFFFFF)
  | none => false

/-- Peer entry that a public key matches; the twin link has one peer, by its plan (R500, R522). -/
def State.peerFor (s : State) (l : Link) (pub : List Byte) : Option Nat :=
  let h := Config.sha384 pub
  match l with
  | .wall => (List.range 8).find? (fun p => s.peerInForce p && decide (s.peerHash p = h))
  | .twin => match s.plan with
    | some p => if p.twin.peerKeyHash = h then some 0 else none
    | none => none

/-- The FAIL code of a peer's HELLO (R500); 0 accepts it. -/
def State.helloFail (s : State) (l : Link) (h : List Byte) : Nat :=
  let (r, t) := (slice h 0x90 48, slice h 0xC0 48)
  if leAt h 2 1 ≠ 1 then 7
  else if leAt h 4 1 ≠ s.linkLanes l then 3
  else if l = .wall ∧ leAt h 3 1 = s.helloRole l then 4
  else if (s.peerFor l (slice h 0x28 97)).isNone then 5
  else if !Config.ecdsaVerify (slice h 0x28 97) (Config.sha384 (h.take 0x90)) r t then 6
  else 0

/-- The part's own HELLO stands first in H and in the salt (R501, R522). -/
def State.helloFirst (s : State) (l : Link) (peer : List Byte) : Bool :=
  match l with
  | .wall => !s.flag F.WLK_CTRL_ROLE
  | .twin => decide (natBE (Config.sha384 Config.identityKey) < natBE (Config.sha384 (slice peer 0x28 97)))

/-- Keys and H of a pair of HELLO payloads (R501, R522). -/
def State.linkDerive (s : State) (l : Link) (peer : List Byte) : List Byte × List Byte :=
  let own := (s.link l).ownHello
  let (a, b) := if s.helloFirst l peer then (own, peer) else (peer, own)
  let h := Config.sha384 (a ++ b)
  let label := match l with
    | .wall => [0x49#8, 0x47#8, 0x57#8, 0x4C#8, 0x31#8]
    | .twin => [0x49#8, 0x47#8, 0x54#8, 0x57#8, 0x31#8] ++ bytesLE 8 (match s.plan with | some p => p.twin.pairId | none => 0)
  (Config.deriveKey (slice a 8 32 ++ slice b 8 32) (slice peer 0x28 97) (label ++ h), h)

/-- A frame that may be accepted advances the receive counter (R484). -/
def State.linkCount (s : State) (l : Link) (f : LinkFrame) : State :=
  let r := s.link l
  let gap := match r.rxFcnt with | some n => f.fcnt - n - 1 | none => 0
  let s := s.setLink l { r with rxFcnt := some f.fcnt, lastRx := s.ns, authRun := 0 }
  s.cond (l == .wall) (·.add F.WLK_LOST_FRAMES_CNT gap)

/-- A rekey starts where none runs (R503, R511). -/
def State.linkRekey (s : State) (l : Link) : State :=
  if s.linkUp l && !(s.link l).rekey then
    (s.setLink l { s.link l with rekey := true, sentFin := false, gotFin := false }).sayHello l
  else s

/-- A frame dropped (R484, R506). -/
def State.linkReject (s : State) (l : Link) (why : FrameFault) (inj : Bool) : State :=
  if why = .crc ∨ why = .framing then s.cond (l == .wall) (·.inc F.WLK_CRC_ERR_CNT)
  else
    let n := (s.link l).authRun + 1
    let s := s.setLink l { s.link l with authRun := n }
    let s := match l with
      | .wall =>
        let s := (s.inc F.WLK_AUTH_ERR_CNT).raise F.WLK_EVT_AUTH_EV
        s.detectWith inj 0x1E 0 (s.word R.WLK_AUTH_ERR)
      | .twin => s
    s.cond (8 ≤ n && s.linkUp l) (·.linkDown l 0xA false)

/-- A frame whose FCNT is new in its epoch (R484). -/
def State.linkFresh (s : State) (l : Link) (f : LinkFrame) : Bool :=
  match (s.link l).rxFcnt with
  | some n => decide (n < f.fcnt)
  | none => true

/-- A frame received while the link is UP, taken by `act` where it is accepted (R484); an FCNT of 2^40 asks for a rekey (R503).
(DEDUCED, log 53; DEDUCED, log 70.) -/
def State.linkRx (s : State) (l : Link) (f : LinkFrame) (act : State → State) : State :=
  if !s.linkUp l then s
  else
    let auth := l == .wall && s.injArmed 0x1E 0
    let s := s.cond (l == .wall) (·.injSpend 0x1E 0)
    let down := l == .wall && s.injArmed 0x1D 0
    let s := s.cond (l == .wall) (·.injSpend 0x1D 0)
    if auth || !f.enc || !s.linkFresh l f then s.linkReject l .auth auth
    else if down then s.linkDown l 1 true
    else act ((s.linkCount l f).cond (2 ^ 40 ≤ f.fcnt) (·.linkRekey l))

/-- The peer's HELLO has passed: keys are derived and FINISH goes out (R501, R502). -/
def State.linkFinish (s : State) (l : Link) (h : List Byte) : State :=
  let (k, hash) := s.linkDerive l h
  let s := s.setLink l { s.link l with peerHello := h, newKeys := some k, hash := hash }
  let s := s.cond (l == .wall) (·.set F.WLK_STAT_PEER ((s.peerFor l (slice h 0x28 97)).getD 0))
  s.linkQueue l { type := 4, vc := 15, payload := bytesLE 1 2 ++ hash }

/-- A received HELLO (R500, R503, R522). (DEDUCED, log 70.) -/
def State.linkHello (s : State) (l : Link) (f : LinkFrame) : State :=
  if s.get (linkStateF l) = 3 ∧ ¬ f.enc then
    match s.helloFail l f.payload with
    | 0 => (s.set (linkStateF l) 4).linkFinish l f.payload
    | code => s.linkDown l code false
  else s.linkRx l f fun s =>
    match s.helloFail l f.payload with
    | 0 => (s.linkRekey l).linkFinish l f.payload
    | code => s.linkDown l code false

/-- The link comes UP (R505, R508). -/
def State.linkComesUp (s : State) (l : Link) : State :=
  let s := s.set (linkStateF l) 5
  match l with
  | .twin => s.raise F.TWIN_EVT_LINK_EV
  | .wall =>
    let s := (s.inc F.WLK_UP_CNT_CNT).raise F.WLK_EVT_UP_EV
    if s.flag F.WLK_CTRL_ROLE then
      (List.range 512).foldl (fun s i => s.cond (s.get (F.INGR_CTRL_KIND i) == 3) fun s =>
        s.setStream i { s.stream i with disc := true }) s
    else (List.range 64).foldl (fun s c => s.cond (s.flag (F.ENC_CTRL_WLK_EN c)) (·.encRequest c)) s

/-- Once the part has sent its FINISH and accepted the peer's, the link is UP, or the rekey complete (R502, R503). -/
def State.linkAgreed (s : State) (l : Link) : State :=
  let r := s.link l
  if !r.sentFin || !r.gotFin then s
  else
    let s := s.setLink l { r with newKeys := none, rekey := false, sentFin := false, gotFin := false }
    if !s.linkUp l then s.linkComesUp l else s.cond (l == .wall) (·.raise F.WLK_EVT_REKEY_EV)

/-- A received FINISH (R502, R503): the receive direction changes to the new key, and in a rekey EPOCH follows it. -/
def State.linkGotFinish (s : State) (l : Link) (f : LinkFrame) : State :=
  let r := s.link l
  let up := s.linkUp l
  match r.newKeys with
  | none => s
  | some k =>
    if !(s.get (linkStateF l) == 4 || (up && r.rekey)) || r.gotFin then s
    else if !f.enc then s.linkReject l .auth false
    else if f.payload.drop 1 ≠ r.hash then s.linkDown l 8 false
    else
      let s := s.setLink l { r with rxKeys := k, gotFin := true, rxFcnt := some f.fcnt, lastRx := s.ns, authRun := 0 }
      (s.cond (up && l == .wall) fun s => s.put F.WLK_STAT_EPOCH (!s.flag F.WLK_STAT_EPOCH)).linkAgreed l

/-- FINISH has not come within 20 ms of HELLO (R502). -/
def State.finishTimeout (s : State) (l : Link) : State :=
  let st := s.get (linkStateF l)
  let due := decide ((s.link l).helloNs + 20000000 ≤ s.ns)
  s.cond (due && (st == 3 || st == 4 || (st == 5 && (s.link l).rekey))) (·.linkDown l 8 false)

/-! ## Sending (R482, R483, R486, R487, R503, R522) -/

/-- The key and salt of the sending direction in 72 bytes of key material (R501). -/
def State.txKey (s : State) (l : Link) : List Byte :=
  let k := (s.link l).txKeys
  if s.helloFirst l (s.link l).peerHello then slice k 0 32 ++ slice k 64 4 else slice k 32 32 ++ slice k 68 4

/-- The bytes of a frame (R482, R483). -/
def State.frameBytes (s : State) (l : Link) (m : LinkMsg) (enc : Bool) : List Byte :=
  let r := s.link l
  let head := bytesLE 1 m.type ++ bytesLE 1 (m.vc + b2n enc * 128) ++ bytesLE 2 m.payload.length ++ bytesLE 2 (m.tag % 4096) ++
    bytesLE 1 (m.flags + b2n r.txEpoch * 8) ++ bytesLE 1 0 ++ bytesLE 8 r.txFcnt
  let body := if enc then Config.gcmSeal (s.txKey l ++ (bytesLE 8 r.txFcnt).reverse ++ head) m.payload else m.payload
  let bs := head ++ body
  let bs := bs ++ bytesLE 4 (crc32c bs)
  bs ++ List.replicate ((8 - bs.length % 8) % 8) 0

/-- A frame leaves in blocks on the link's lanes (R479, R481): FINISH is the first under the new key; the last of an access unit releases its slot; FCNT 2^40 asks for
a rekey. -/
def State.linkEmit (s : State) (l : Link) (m : LinkMsg) : State :=
  let r := s.link l
  let up := s.linkUp l
  let finish := m.type == 4 && leAt m.payload 0 1 == 2
  let hello := m.type == 4 && leAt m.payload 0 1 == 1
  let r := if finish then
      { r with txKeys := r.newKeys.getD r.txKeys, txFcnt := 0, txEpoch := if up then !r.txEpoch else r.txEpoch }
    else r
  let s := s.setLink l r
  let bs := s.frameBytes l m (!(hello && !up))
  let (blocks, wire) := r.wire.frame (s.linkLanes l) (s.linkRate l) s.ns bs
  let s := s.emit (.link l m.vc m.type bs blocks)
  let s := s.setLink l { s.link l with txFcnt := r.txFcnt + 1, lastTx := s.ns, wire := wire }
  let s := match m.ctx with
    | some c => s.bump (F.ENC_OUT_RD_IDX_IDX c)
    | none => s
  let s := s.cond finish fun s => (s.setLink l { s.link l with sentFin := true }).linkAgreed l
  s.cond (2 ^ 40 ≤ r.txFcnt + 1) (·.linkRekey l)

/-- The first waiting frame that satisfies a test, and the others. -/
def pickMsg (p : LinkMsg → Bool) : List LinkMsg → Option (LinkMsg × List LinkMsg)
  | [] => none
  | m :: t => if p m then some (m, t) else (pickMsg p t).map (fun (x, r) => (x, m :: r))

/-- A waiting frame that satisfies a test is sent. -/
def State.linkSendWhere (s : State) (l : Link) (p : LinkMsg → Bool) : Option State :=
  (pickMsg p (s.link l).txq).map (fun (m, rest) => (s.setLink l { s.link l with txq := rest }).linkEmit l m)

/-- A transmit slot of the software queue waits. (DEDUCED, log 53.) -/
def State.txSlotWaits (s : State) : Bool :=
  s.flag F.WLK_QCFG_TXQ_EN && s.get F.WLK_TXQ_WR_IDX != s.get F.WLK_TXQ_RD_IDX

/-- The next transmit slot is sent on VC 15 (R510, R517). -/
def State.txSlotSend (s : State) : State :=
  let rd := s.get F.WLK_TXQ_RD_IDX
  let a := s.addrPair R.WLK_TXQ_BASE_LO R.WLK_TXQ_BASE_HI + rd % 2 ^ s.get F.WLK_QCFG_TXQ_LOG2 * 2048
  let (x, s) := s.unitRead linkMaster a 2048
  let s := s.bump F.WLK_TXQ_RD_IDX
  match x with
  | none => s
  | some bs =>
    let type := leAt bs 2 1
    let payload := slice bs 16 (min 1024 (leAt bs 0 2))
    if type = 3 ∨ (type = 4 ∧ leAt payload 0 1 = 0x10) then
      s.linkEmit .wall { type := type, vc := 15, tag := leAt bs 4 2, payload := payload }
    else s.unpredictable linkMaster (R.WLK_CTRL - 4) (R.WLK_CTRL + 0x3FF)

/-- Virtual channel that the weighted round robin serves next (R487). -/
def State.nextVc (s : State) : Option (Nat × Nat) :=
  let r := s.link .wall
  let waits := fun v => r.txq.any (fun m => m.vc == v)
  let w := max 1 (s.get (F.WLK_VC_CFG_WEIGHT r.turn))
  if waits r.turn ∧ r.served < w then some (r.turn, r.served + 1)
  else ((List.range 15).find? (fun i => waits ((r.turn + 1 + i) % 15))).map (fun i => ((r.turn + 1 + i) % 15, 1))

/-- The next frame of a link is sent (WLK_FRAME_TX). -/
def State.linkTx (s : State) (l : Link) : State :=
  if s.get (linkStateF l) < 3 then s
  else match s.linkSendWhere l (·.vc == 15) with
  | some t => t
  | none =>
    match l with
    | .wall =>
      if !s.linkUp .wall then s
      else if s.txSlotWaits then s.txSlotSend
      else match s.nextVc with
      | some (v, k) =>
        let s := s.setLink .wall { s.link .wall with turn := v, served := k }
        (s.linkSendWhere .wall (·.vc == v)).getD s
      | none => s
    | .twin => (s.linkSendWhere .twin (·.vc == 0)).getD ((s.linkSendWhere .twin (·.vc == 1)).getD s)

/-! ## Heartbeats (R495, R506, R516) -/

/-- HB_PERIOD in ns. -/
def State.hbPeriod (s : State) : Nat :=
  max 100 (min 10000 (s.get F.WLK_HB_HB_PERIOD)) * 1000

/-- LOCKED bits of the time bases. -/
def State.lockedBits (s : State) : Nat :=
  bitsFrom ((List.range 8).map s.tbLocked)

/-- HB_PERIOD has passed since the last frame sent. -/
def State.heartbeatSend (s : State) (l : Link) : State :=
  if l = .wall ∧ s.linkUp .wall ∧ (s.link .wall).lastTx + s.hbPeriod ≤ s.ns then
    let body := bytesLE 8 (s.tb48 0) ++ bytesLE 1 s.lockedBits ++ bytesLE 1 (s.get F.WLK_STAT_STATE) ++ bytesLE 6 0
    s.linkSay .wall { type := 6, vc := 15, payload := body }
  else s

/-- No frame has been accepted for LOSS_LIMIT periods. -/
def State.heartbeatLoss (s : State) (l : Link) : State :=
  s.cond (l == .wall && s.linkUp .wall &&
    decide ((s.link .wall).lastRx + max 2 (s.get F.WLK_HB_LOSS_LIMIT) * s.hbPeriod ≤ s.ns)) (·.linkDown .wall 9 false)

/-! ## Received messages (R144, R490 to R497, R510) -/

/-- A received frame goes to the software receive queue (R510). (DEDUCED, log 53.) -/
def State.toSoftware (s : State) (type : Nat) (f : LinkFrame) : State :=
  if !s.flag F.WLK_QCFG_RXQ_EN then s
  else
    let log2 := s.get F.WLK_QCFG_RXQ_LOG2
    let wr := s.get F.WLK_RXQ_WR_IDX
    if ahead wr (s.get F.WLK_RXQ_RD_IDX) = 2 ^ log2 then (s.inc F.WLK_RX_OVF_CNT).raise F.WLK_EVT_RX_OVF_EV
    else
      let slot := bytesLE 2 f.payload.length ++ bytesLE 1 type ++ bytesLE 1 f.vc ++ bytesLE 2 f.tag ++ bytesLE 1 f.flags ++
        bytesLE 1 0 ++ bytesLE 8 (s.tb48 0) ++ f.payload
      let (ok, s) := s.unitWrite linkMaster (s.addrPair R.WLK_RXQ_BASE_LO R.WLK_RXQ_BASE_HI + wr % 2 ^ log2 * 2048) slot
      s.cond ok fun s => (s.bump F.WLK_RXQ_WR_IDX).raise F.WLK_EVT_RX_EV

/-- The enabled entry of a virtual channel and tag (R144); of several, which R144 does not rank, the lowest.
(DESIGN CHOICE, log 80.) -/
def State.wlkEntry (s : State) (vc tag : Nat) : Option Nat :=
  (List.range 512).find? (fun i => s.flag (F.INGR_CTRL_ENABLE i) && s.get (F.INGR_CTRL_KIND i) == 3 &&
    s.get (F.INGR_MATCH_UNIT i) == vc && s.get (F.INGR_UDP_PORT i) % 4096 == tag)

/-- An accepted VIDEO frame (R490): part of an entry's access unit. -/
def State.wlkVideo (s : State) (f : LinkFrame) : State :=
  match s.wlkEntry f.vc f.tag with
  | none => s.inc F.WLK_RX_DISCARDS_CNT
  | some i =>
    let s := s.arrives i
    let last := bitOf f.flags 1
    if bitOf f.flags 0 then
      let s := (s.stream i).frames.foldl (fun s g => s.wlkClose i g) s
      let a : FrameAsm := { pkts := [⟨0, last, f.payload⟩], arrival := s.tbNs (s.get (F.INGR_IDENT_TB i)), lastNs := s.ns,
                            buf := none, known := bitOf f.flags 2 }
      let s := s.setStream i { s.stream i with frames := [a] }
      s.cond last (·.wlkClose i a)
    else match (s.stream i).frames with
    | [] => s.inc F.WLK_RX_DISCARDS_CNT
    | g :: _ =>
      if leAt f.payload 0 2 ≠ g.pkts.length then (s.wlkClose i g).inc F.WLK_RX_DISCARDS_CNT
      else
        let g := { g with pkts := g.pkts ++ [⟨g.pkts.length, last, f.payload⟩], lastNs := s.ns }
        let s := s.setStream i { s.stream i with frames := [g] }
        s.cond last (·.wlkClose i g)

/-- The active part of a pair forwards an accepted frame (R509, R524). -/
def State.forward (s : State) (type : Nat) (f : LinkFrame) : State :=
  let bs := bytesLE 1 type ++ bytesLE 1 (f.vc + 128) ++ bytesLE 2 f.payload.length ++ bytesLE 2 f.tag ++ bytesLE 1 f.flags ++
    bytesLE 1 0 ++ bytesLE 8 f.fcnt ++ f.payload
  s.cond (s.get F.TWIN_STAT_ROLE == 2) (·.linkSay .twin { type := 0x14, vc := 1, payload := bs })

/-- A received KEYREQ frame (R461, R494). -/
def State.wlkKeyreq (s : State) (f : LinkFrame) : State :=
  match (List.range 64).find? (fun c => s.flag (F.ENC_CTRL_ENABLE c) && s.flag (F.ENC_CTRL_WLK_EN c) &&
      s.get (F.ENC_WLK_VC c) == leAt f.payload 0 1 && s.get (F.ENC_WLK_TAG c) == f.tag) with
  | some c => s.encRequest c
  | none => s.inc F.WLK_KEYREQ_UNMATCHED_CNT

/-- A received ATTEST REQUEST (R496, R511). -/
def State.wlkAttest (s : State) (f : LinkFrame) : State :=
  let n := leAt f.payload 1 1
  if !s.flag F.WLK_CTRL_ATTEST_EN then (s.attestRefused n f.tag (s.freeValue 4)).useFree
  else if 32 ≤ n then s.attestRefused n f.tag 5
  else if s.flag (F.FRESH_ATTEST_STAT_BUSY n) then s.attestRefused n f.tag 1
  else match s.attestCode n with
  | 0 => s.attestTake n { nonce := leAt f.payload 4 8, addr := 0, acceptedNs := s.ns, wall := some f.tag }
  | code => s.attestRefused n f.tag code

/-! ## Input events (R492, R493) -/

/-- The 16-byte record of an input event on time base `t` (R492). -/
def State.inputBytes (s : State) (t kind channel event value : Nat) : List Byte :=
  bytesLE 6 (s.tb48 t) ++ bytesLE 1 t ++ bytesLE 1 kind ++ bytesLE 2 channel ++ bytesLE 1 event ++ bytesLE 1 0 ++
  bytesLE 4 value

/-- A record that has entered its queue waits to be forwarded (R493). -/
def State.inputEvent (s : State) (bs : List Byte) : State :=
  if s.flag F.WLK_CTRL_INPUT_FWD && s.answers .wallLink 0 0 then { s with inputs := s.inputs ++ [⟨bs, s.ns⟩] } else s

/-- A record written into the event queue of a touch group or of the GPIO pins (R721, R830): dropped where the queue is
full or its checker refuses. -/
def State.queueRecord (s : State) (master base log2 : Nat) (wr rd drops ovf ev : Fld) (bs : List Byte) : State :=
  let w := s.get wr
  if 2 ^ log2 ≤ (w + 65536 - s.get rd) % 65536 then (s.inc drops).raise ovf
  else
    let (ok, s) := s.unitWrite master (base + w % 2 ^ log2 * 16) bs
    if ok then ((s.bump wr).raise ev).inputEvent bs else (s.inc drops).raise ovf

/-- Waiting input events go out in one INPUT frame of up to 64 records. -/
def State.inputForward (s : State) : State :=
  if s.inputs.isEmpty then s
  else
    let evs : List Byte := (s.inputs.take 64).flatMap (fun e => e.bytes)
    ({ s with inputs := s.inputs.drop 64 }).linkSay .wall { type := 3, vc := 15, payload := evs }

/-! ## Register writes -/

/-- A write of CTRL (R503, R504, R506, R513). -/
def State.writeWlkCtrl (s : State) (w : Wr) : State :=
  s.guarded G.WLK_CTRL w fun s =>
    let was := s.flag F.WLK_CTRL_EN
    let s := s.plainWrite w R.WLK_CTRL
    let now := s.flag F.WLK_CTRL_EN
    if now && !was then
      if s.lifecycle == 0 || s.lifecycle == 3 then s.set F.WLK_STAT_FAIL 0xB
      else (s.wallRate.cond (s.linkOn .wall) (·.wireStart .wall)).set F.WLK_STAT_STATE (if s.linkOn .wall then 1 else 0)
    else if was && !now then s.linkOff .wall
    else s.cond (bitOf w.data.toNat 31) (·.linkRekey .wall)

/-- A write of RXQ_RD or TXQ_WR within its queue (R517). -/
def State.wlkIdxOk (s : State) (tx : Bool) (v : Nat) : Bool :=
  if tx then decide (ahead v (s.get F.WLK_TXQ_RD_IDX) ≤ 2 ^ s.get F.WLK_QCFG_TXQ_LOG2)
  else decide (ahead v (s.get F.WLK_RXQ_RD_IDX) ≤ ahead (s.get F.WLK_RXQ_WR_IDX) (s.get F.WLK_RXQ_RD_IDX))

/-- The software queues lie over each other or over another ring or buffer in use (R517). -/
def State.wlkClash (s : State) : Bool :=
  s.inUseClash .wlkQueue s.wlkAreas ||
  match s.wlkAreas with
  | [a, b] => !disjoint a b
  | _ => false

/-- A write of QCFG or of a queue's base: one that makes a queue in use overlap is UNPREDICTABLE, confined to the link (R517). -/
def State.writeWlkQueue (s : State) (w : Wr) (write : State → State) : State :=
  let t := write s
  if decide (t.wlkAreas ≠ s.wlkAreas) && t.wlkClash then s.unpredictable w.master R.WLK_INFO (R.WLK_INFO + 0x3FF) else t

end Sys2Proof.Machine
end

