-- ==== Sys2Proof/Machine/TwinOps.lean ====
section
/-! DEFINITION. The twin controller (chapter 12): roles, health, heartbeats, step records, state copies, self-test, election
and switch-over. -/

namespace Sys2Proof.Machine

/-! ## The plan's part -/

/-- The TWIN record in force (R106). -/
def State.twinPlan (s : State) : TwinPlan :=
  match s.plan with
  | some p => p.twin
  | none => {}

/-- The part's role (R518): 0 LONE, 1 ELECTING, 2 ACTIVE, 3 STANDBY, 4 OUTGOING, 5 INCOMING. -/
def State.role (s : State) : Nat :=
  s.get F.TWIN_STAT_ROLE

/-- In-step pair (R529), and pair in state-copy mode (R534). -/
def State.inStep (s : State) : Bool := s.paired && s.twinPlan.mode == 1
def State.copyMode (s : State) : Bool := s.paired && s.twinPlan.mode == 2

/-- Tick period in ns. -/
def State.tickNs (s : State) : Nat :=
  1000000000 / s.twinPlan.tickHz

/-- Bits `hi` to `lo` of the peer's last health report (R528). -/
def State.peerBits (s : State) (hi lo : Nat) : Nat :=
  bitsOf ((List.range 8).foldl (fun v k => v + s.word (R.TWIN_PEER_HEALTH k) * 2 ^ (32 * k)) 0) hi lo

/-- The peer reports READY. -/
def State.peerReady (s : State) : Bool :=
  s.peerBits 24 24 == 1

/-- Plan-hash bytes 0 to 5 as the report holds them; 0 without a plan. -/
def State.hash48 (s : State) : Nat :=
  match s.plan with
  | some p => leAt p.hash 0 6
  | none => 0

/-- The two plan hashes are equal as far as the reports tell (R130, R533). -/
def State.sameHash (s : State) : Bool :=
  s.peerBits 255 208 == s.hash48

/-- The twin controller's record changed. -/
def State.onTwin (s : State) (f : TwinRec → TwinRec) : State :=
  { s with twin := f s.twin }

/-! ## TWIN_ACT and what a head sends (R518, R519, R521) -/

/-- A condition of R521, or of R779, holds TWIN_ACT low. -/
def State.actHeld (s : State) : Bool :=
  s.inReset.isSome || s.flag F.THERM_STATUS_STOP_LATCH || s.flag F.CLKRST_STAT_FORCED || s.flag F.CLKRST_STAT_AON_SPLIT ||
  s.twin.actHold

/-- Head `n` is enabled: it sends its frames (R518, R545). -/
def State.headEnabled (s : State) (n : Nat) : Bool :=
  match s.role with
  | 1 | 3 => false
  | 4 => !(s.pairHead n).off
  | 5 => (s.pairHead n).enabled
  | _ => true

/-- The handover slate set or removed on every head (R378). -/
def State.handover (s : State) (b : Bool) : State :=
  s.headList.foldl (fun s n => s.setHead n { s.head n with handover := b }) s

/-- Every head's part in a hand-over forgotten. -/
def State.pairHeadsIdle (s : State) : State :=
  (List.range 32).foldl (fun s n => s.setPairHead n { s.pairHead n with enabled := false, off := false, recs := [] }) s

/-! ## Readiness (R538, R539) -/

/-- The thermal level is THROTTLE or higher. -/
def State.hot (s : State) : Bool :=
  decide (2 ≤ s.get F.THERM_STATUS_LEVEL)

/-- A head of the plan is in head fault (R376). -/
def State.anyHeadFault (s : State) : Bool :=
  s.headList.any (fun n => s.flag (F.HEAD_STAT_FAULT n))

/-- A lag outside the window of R532. (DEDUCED, log 54.) -/
def lagOut : Option Int → Bool
  | some d => decide (d < 15000) || decide (45000 < d)
  | none => false

/-- The reasons of R538, bit 0 first. -/
def State.notReady (s : State) : Nat :=
  bitsFrom [
    s.plan.isNone,
    s.lifecycle == 0 || s.lifecycle == 3,
    decide (4 ≤ s.twin.downTicks),
    s.role != 3,
    s.anyHeadFault,
    s.hot,
    (List.range 8).any (fun t => s.peerBits (152 + t) (152 + t) == 1 && !s.tbLocked t),
    s.inStep && s.headList.any (fun n => lagOut (s.pairHead n).lag || (s.pairHead n).missAge.isSome),
    s.inStep && s.headList.any (fun n => (s.pairHead n).crcAge.isSome),
    s.copyMode && decide (2 ≤ s.twin.copyTicks),
    s.twin.bistFailed]

/-- READY (R538). -/
def State.ready (s : State) : Bool :=
  s.notReady == 0

/-- None of HEAD_FAULT, THERMAL, BIST and LIFECYCLE holds. -/
def State.sound (s : State) : Bool :=
  !s.anyHeadFault && !s.hot && !s.twin.bistFailed && s.lifecycle != 0 && s.lifecycle != 3

/-- READY for a takeover (R539). -/
def State.takeoverReady (s : State) : Bool :=
  s.twin.hbReady && s.sound

/-! ## Self-test (R537) -/

/-- Idle units as KIND × 64 + UNIT, in the order of the rotation (R537, R556). -/
def State.idleUnits (s : State) : List Nat :=
  let v := s.variant
  let units := fun (kind n res : Nat) (every : Bool) =>
    (List.range n).filterMap (fun i => if every || !s.named res i then some (kind * 64 + i) else none)
  units 1 v.dec 0x02 false ++ units 2 v.enc 0x03 true ++ units 3 v.scalers 0x06 false ++ units 4 v.heads 0x04 false ++
  units 5 v.heads 0x05 false ++ units 6 v.snk 0x08 true ++ units 7 v.eth 0x09 false

/-- The unit under test set. -/
def State.testUnit (s : State) (u : Nat) : State :=
  (s.set F.TWIN_BIST_STAT_KIND (u / 64)).set F.TWIN_BIST_STAT_UNIT (u % 64)

/-- COVER_AGE from the passes; an idle unit that has not passed yet counts from the start of standby. -/
def State.coverAge (s : State) : State :=
  let t0 := s.twin.standbyNs
  let last := fun u => match s.twin.passes.find? (fun e => e.1 == u) with | some (_, t) => t | none => t0
  let oldest := s.idleUnits.foldl (fun m u => min m (last u)) s.ns
  s.set F.TWIN_BIST_STAT_COVER_AGE (min 65535 ((s.ns - oldest) / 1000000000))

/-- BIST of the unit under test ends (BIST_UNIT_DONE). -/
def State.bistFail (s : State) (inj : Bool) (unit : Nat) : State :=
  let s := ((s.inc F.TWIN_BIST_FAILS_CNT).raise F.TWIN_EVT_BIST_FAIL_EV).detectWith inj 0x2D unit (s.word R.TWIN_BIST_STAT)
  s.onTwin fun t => { t with bistFailed := true }

/-- The next unit of the rotation goes under test. -/
def State.bistNext (s : State) : State :=
  let us := s.idleUnits
  let cur := s.get F.TWIN_BIST_STAT_KIND * 64 + s.get F.TWIN_BIST_STAT_UNIT
  match us.findIdx? (· == cur) with
  | some k => s.testUnit (nth 0 us ((k + 1) % us.length))
  | none => s.testUnit (us.headD 0)

/-- BIST of a unit has ended. -/
def State.bistDone (s : State) (ok : Bool) : State :=
  if s.role ≠ 3 ∨ s.get F.TWIN_BIST_STAT_KIND = 0 then s
  else
    let u := s.get F.TWIN_BIST_STAT_KIND * 64 + s.get F.TWIN_BIST_STAT_UNIT
    let s := if ok then s.onTwin fun t => { t with passes := (s.twin.passes.filter (fun e => e.1 != u)) ++ [(u, s.ns)] }
      else s.bistFail false u
    s.bistNext.coverAge

/-! ## Roles -/

/-- A change of role: SWITCH_EV; on STANDBY the wall link goes off and BIST starts, elsewhere no unit is under test. -/
def State.setRole (s : State) (r : Nat) : State :=
  if s.role = r then s
  else
    let s := (s.set F.TWIN_STAT_ROLE r).raise F.TWIN_EVT_SWITCH_EV
    if r = 3 then
      let s := if s.get F.WLK_STAT_STATE = 0 then s else s.linkOff .wall
      (s.onTwin fun t => { t with standbyNs := s.ns }).bistNext
    else
      let s := s.testUnit 0
      if s.linkOn .wall ∧ s.get F.WLK_STAT_STATE = 0 then s.linkReset .wall else s

/-- Nothing of a switch-over is under way. -/
def State.switchIdle (s : State) : State :=
  s.onTwin fun t => { t with accepted := none, asked := none, takeover := none, planned := false, declared := false,
                             yield := false }

/-- The part becomes ACTIVE and raises TWIN_ACT unless R521 holds it low. -/
def State.becomeActive (s : State) : State :=
  let s := (s.handover false).pairHeadsIdle.put F.TWIN_STAT_ACT (!s.actHeld)
  (s.setRole 2).switchIdle

/-- The part becomes STANDBY. -/
def State.becomeStandby (s : State) : State :=
  let s := (s.drop F.TWIN_STAT_ACT).setRole 3
  s.switchIdle

/-- The part hands over: TWIN_ACT falls and each head shows the handover slate from its next FLP (R545). -/
def State.becomeOutgoing (s : State) (cause tick : Nat) : State :=
  let s := ((s.drop F.TWIN_STAT_ACT).handover true).pairHeadsIdle.setRole 4
  let s := (s.set F.TWIN_LAST_SWITCH_CAUSE cause).set F.TWIN_LAST_SWITCH_TICK tick
  s.onTwin fun t => { t with asked := none, planned := false, yield := false }

/-- The part takes over (R545). -/
def State.becomeIncoming (s : State) (cause tick : Nat) : State :=
  let s := s.pairHeadsIdle.setRole 5
  let s := (s.set F.TWIN_LAST_SWITCH_CAUSE cause).set F.TWIN_LAST_SWITCH_TICK tick
  s.onTwin fun t => { t with takeover := none }

/-- A switch-over has completed on this part (R545, R556). (DEDUCED, log 54.) -/
def State.switchDone (s : State) : State :=
  (s.inc F.TWIN_SWITCH_CNT_CNT).detect 0x2E 0 (s.word R.TWIN_LAST_SWITCH)

/-- The last head is enabled: TWIN_ACT rises and LAST_GAP is written; free where TWIN_PACT never fell (R545, R546). -/
def State.takeoverEnds (s : State) : State :=
  let gap := match s.twin.fallNs with
    | some t => s.usSince t
    | none => s.freeValue 32
  (s.useFree.setWord R.TWIN_LAST_GAP (gap % 2 ^ 32)).becomeActive.switchDone

/-- Low 16 bits of TICK_CNT. -/
def State.tick16 (s : State) : Nat :=
  s.word R.TWIN_TICK_CNT % 65536

/-! ## SWITCH frames (R523) -/

/-- A SWITCH frame. -/
def State.saySwitch (s : State) (op cause : Nat) : State :=
  s.linkSay .twin { type := 0x12, vc := 15,
                    payload := bytesLE 1 op ++ bytesLE 1 cause ++ bytesLE 2 0 ++ bytesLE 4 (s.word R.TWIN_TICK_CNT) }

/-- A REQ goes out. -/
def State.sayReq (s : State) (cause : Nat) : State :=
  let s := s.saySwitch 1 cause
  s.onTwin fun t => { t with asked := some (cause, s.tick16) }

/-- A refused OP (R544, R555). -/
def State.twinRefuse (s : State) (code : Nat) : State :=
  (s.set F.TWIN_LAST_SWITCH_REFUSE code).raise F.TWIN_EVT_REFUSED_EV

/-- A switch-over runs, or one is asked for. -/
def State.switching (s : State) : Bool :=
  s.role == 4 || s.role == 5 || s.twin.asked.isSome || s.twin.accepted.isSome || s.twin.planned

/-- The declaration of the active part goes ahead where the standby is READY: a REQ, or the fall of TWIN_ACT alone while
the link is not UP or a plan is being applied (R543, R544, R522). -/
def State.declareNow (s : State) : State :=
  if s.role ≠ 2 ∨ !s.twin.declared ∨ !s.peerReady ∨ s.twin.asked.isSome then s
  else if s.linkUp .twin ∧ s.applying.isNone then s.sayReq 2
  else s.becomeOutgoing 2 s.tick16

/-- The active part declares a fault (R543). -/
def State.declare (s : State) : State :=
  if s.role ≠ 2 ∨ s.twin.declared then s
  else (s.onTwin fun t => { t with declared := true }).declareNow

/-- A command to switch over (R542, R544, R552, R555). -/
def State.twinCommand (s : State) (op : Nat) : State :=
  let cause := op + 2
  if !s.paired then s.twinRefuse 4
  else if op = 3 then (if s.role = 2 then (if s.switching then s.twinRefuse 5 else s.declare) else s.twinRefuse 1)
  else if s.switching then s.twinRefuse 5
  else if !bitOf s.twinPlan.flags (op - 1) then s.twinRefuse 3
  else if op = 1 ∧ !s.sameHash then s.twinRefuse 6
  else match s.role with
  | 2 =>
    if !s.peerReady then s.twinRefuse 2
    else if op = 2 then s.onTwin fun t => { t with planned := true }
    else s.sayReq cause
  | 3 => if s.takeoverReady && s.ready then s.sayReq cause else s.twinRefuse 2
  | _ => s.twinRefuse 2

/-- A write of CTRL (R552, R557). -/
def State.writeTwinCtrl (s : State) (w : Wr) : State :=
  s.guarded G.TWIN_CTRL w fun s =>
    let v := w.data.toNat
    if bitsOf v 31 24 ≠ 0xA5 then s
    else if 1 ≤ v % 16 ∧ v % 16 ≤ 3 then s.twinCommand (v % 16)
    else s.unpredictable w.master 0 everywhere

/-- A received REQ (R545): the standby checks READY; the active part takes a request of its standby. -/
def State.switchReq (s : State) (f : LinkFrame) : State :=
  let cause := leAt f.payload 1 1 % 16
  let tick := leAt f.payload 4 4 % 65536
  match s.role with
  | 3 =>
    if s.takeoverReady then
      let s := s.saySwitch 2 cause
      s.onTwin fun t => { t with accepted := some (cause, tick), asked := none }
    else s.saySwitch 3 cause
  | 2 =>
    if s.twin.asked.isSome || s.twin.planned then s
    else if cause = 4 then s.onTwin fun t => { t with planned := true }
    else s.sayReq cause
  | _ => s

/-- A received ACCEPT (R545). -/
def State.switchAccept (s : State) : State :=
  match s.role, s.twin.asked with
  | 2, some (cause, tick) => s.becomeOutgoing cause tick
  | _, _ => s

/-- A received ABORT (R544, R549): a command is refused, a declaration stands; an outgoing part resumes. -/
def State.switchAbort (s : State) : State :=
  match s.role with
  | 4 => if s.actHeld then s else s.becomeActive
  | _ =>
    match s.twin.asked with
    | some (cause, _) =>
      let s := s.onTwin fun t => { t with asked := none }
      s.cond (3 ≤ cause) (·.twinRefuse 2)
    | none => s

/-! ## The pins (R520, R541, R543, R545) -/

/-- A qualified fall of TWIN_PACT. -/
def State.pactFall (s : State) : State :=
  if !s.flag F.TWIN_STAT_PEER_ACT then s
  else
    let s := s.drop F.TWIN_STAT_PEER_ACT
    let s := s.onTwin fun t => { t with fallNs := some s.ns }
    if !s.paired ∨ s.role ≠ 3 then s
    else match s.twin.accepted with
    | some (cause, tick) => s.becomeIncoming cause tick
    | none =>
      if s.takeoverReady then s.becomeIncoming 2 s.tick16
      else s.onTwin fun t => { t with takeover := some 2 }

/-- The part is in conflict (R541). -/
def State.conflict (s : State) (inj : Bool) : State :=
  let s := (s.becomeStandby.handover true).pairHeadsIdle
  let s := ((s.inc F.TWIN_CONFLICTS_CNT).raise F.TWIN_STAT_CONFLICT).raise F.TWIN_EVT_CONFLICT_EV
  let s := s.detectWith inj 0x29 0 (s.word R.TWIN_TICK_CNT)
  let b := leAt (Config.sha384 Config.identityKey) (s.twin.conflicts % 48) 1
  s.onTwin fun t => { t with conflicts := s.twin.conflicts + 1, retryNs := some (s.ns + (100 + b) * 1000000) }

/-- No head of an outgoing part still sends. -/
def State.allOff (s : State) : Bool :=
  s.headList.all (fun n => !s.headLive n || (s.pairHead n).off)

/-- Every running head of an incoming part is enabled. -/
def State.allEnabled (s : State) : Bool :=
  s.headList.all (fun n => !s.headLive n || (s.pairHead n).enabled)

/-- TWIN_PACT rises. (DESIGN CHOICE, log 24.) -/
def State.pactRise (s : State) : State :=
  if s.flag F.TWIN_STAT_PEER_ACT then s
  else
    let s := s.raise F.TWIN_STAT_PEER_ACT
    let s := s.onTwin fun t => { t with fallNs := none, takeover := none }
    if !s.paired then s
    else match s.role with
    | 2 => s.conflict false
    | 5 => if s.twin.accepted.isSome then s else s.conflict false
    | 4 => s.onTwin fun t => { t with yield := true }
    | _ => s

/-! ## Heartbeats (R527) -/

/-- A heartbeat of the peer: it ends the window and starts the next; that of the active part fixes READY for a takeover
(R539). -/
def State.heartbeat (s : State) : State :=
  let active := s.flag F.TWIN_STAT_PEER_ACT || s.peerBits 7 0 == 2
  s.onTwin fun t => { t with
      misses := 0, hbEnd := s.ns + 1250000000 / s.twinPlan.tickHz,
      hbReady := if active then s.ready else t.hbReady,
      activeNs := if s.peerBits 7 0 = 2 then some s.ns else t.activeNs,
      takeover := if t.takeover = some 1 then none else t.takeover }

/-- An edge at TWIN_PHB. (DESIGN CHOICE, log 24.) -/
def State.phbEdge (s : State) (level : Bool) : State :=
  if s.twin.phb = level then s
  else ((s.onTwin fun t => { t with phb := level })).cond (s.paired && s.applying.isNone) (·.heartbeat)

/-- A missed heartbeat, the window that follows the one that ended, and what three of them start (R527, R542, R544,
R547). -/
def State.missHeartbeat (s : State) (inj : Bool) : State :=
  let s := (s.inc F.TWIN_HB_MISS_CNT).raise F.TWIN_EVT_HB_MISS_EV
  let s := s.detectWith inj 0x28 0 (s.word R.TWIN_HB_MISS)
  let n := s.twin.misses + 1
  let s := s.onTwin fun t => { t with misses := n, hbEnd := (if inj then s.ns else t.hbEnd) + s.tickNs }
  if n = 3 ∧ s.role = 3 then
    if s.takeoverReady then s.becomeIncoming 1 s.tick16 else s.onTwin fun t => { t with takeover := some 1 }
  else s

/-- A window ends without a heartbeat (HEARTBEAT_MISSED). -/
def State.windowEnds (s : State) : State :=
  s.cond (s.paired && s.role != 0 && decide (s.twin.hbEnd ≤ s.ns)) (·.missHeartbeat false)

/-! ## Election (R540, R541) -/

/-- A paired part enters ELECTING. (DEDUCED, log 54.) -/
def State.elect (s : State) : State :=
  let s := (s.drop F.TWIN_STAT_ACT).setRole 1
  s.onTwin fun t => { t with electNs := s.ns, hbEnd := s.ns + 1250000000 / s.twinPlan.tickHz, misses := 0, retryNs := none }

/-- A heartbeat that reported ACTIVE came in the last window. -/
def State.activeHeard (s : State) : Bool :=
  match s.twin.activeNs with
  | some t => decide (s.ns < t + 1250000000 / s.twinPlan.tickHz)
  | none => false

/-- The wait of the election is over (ELECTION_TIMEOUT). -/
def State.electionEnds (s : State) : State :=
  let wait := if s.twinPlan.prefer = 1 then 200000000 else 1000000000
  if s.role ≠ 1 ∨ s.ns < s.twin.electNs + wait then s
  else if s.flag F.TWIN_STAT_PEER_ACT || s.activeHeard then s.becomeStandby
  else s.becomeActive

/-- The link is UP during election: PREFER, then the lower hash of the identity key, decides. -/
def State.electByLink (s : State) : State :=
  let h := (s.link .twin).peerHello
  let mine := s.twinPlan.prefer
  let theirs := leAt h 3 1
  let win := if mine ≠ theirs then mine == 1 else s.helloFirst .twin h
  if win && !s.flag F.TWIN_STAT_PEER_ACT then s.becomeActive else s.becomeStandby

/-- Both parts have yielded and the wait of R541 is over (ELECTION_RETRY). -/
def State.electAgain (s : State) : State :=
  match s.twin.retryNs with
  | some t => if s.role = 3 ∧ t ≤ s.ns ∧ !s.flag F.TWIN_STAT_PEER_ACT then s.elect else s
  | none => s

/-! ## Step records (R529 to R533) -/

/-- CRC of a head's whole frame that ends (R530); none where it held a repeated pixel or a slate. -/
def State.outCrc (s : State) (n : Nat) : Option Nat :=
  if !(s.head n).scan || !(s.head n).under.isEmpty || s.flag (F.HEAD_STAT_SLATE n) then none
  else some (crc32c ((rectPixels (0, 0, s.hActive n, s.vActive n)).flatMap (fun (x, y) =>
    crcPixel (depthBits (s.getLive (F.HEAD_DITHER_DEPTH n))) (s.sentPx n x y))))

/-- The step record of a latch, as its 24 + 8 × STALLS bytes. -/
def State.stepBytes (s : State) (n : Nat) (applied crc : Option Nat) : List Byte :=
  let stalls := s.attStalls n
  bytesLE 1 n ++ bytesLE 1 stalls.length ++ bytesLE 2 (b2n applied.isSome + 2 * b2n crc.isSome) ++
  bytesLE 4 (s.word (R.HEAD_FRAME_CNT n)) ++ bytesLE 8 (s.tb48 0) ++ bytesLE 2 (applied.getD 0) ++ bytesLE 2 0 ++
  bytesLE 4 (crc.getD 0) ++
  stalls.flatMap (fun a => bytesLE 8 (a.sourceId % 4096 + a.stall * 2 ^ 12 + a.seq * 2 ^ 16 + a.shown * 2 ^ 40))

/-- The step record of a received STEP frame. -/
def stepOf (bs : List Byte) : StepRec :=
  let flags := leAt bs 2 2
  { tag := if bitOf flags 0 then some (leAt bs 0x10 2) else none
    crc := if bitOf flags 1 then some (leAt bs 0x14 4) else none
    time := leAt bs 8 6
    stalls := (List.range (min 8 (leAt bs 1 1))).map (fun i =>
      let e := leAt bs (0x18 + 8 * i) 8
      (bitsOf e 15 12, bitsOf e 11 0, bitsOf e 39 16, bitsOf e 41 40)) }

/-- A STEP frame (R531): the record waits for the head's latch. -/
def State.stepFrame (s : State) (f : LinkFrame) : State :=
  let n := leAt f.payload 0 1
  if s.inStep ∧ s.role = 3 ∧ s.sameHash ∧ n < 32 then
    s.setPairHead n { s.pairHead n with recs := (s.pairHead n).recs ++ [stepOf f.payload] }
  else s

/-- A STEP_MISS of a head. -/
def State.stepMiss (s : State) (n : Nat) (inj : Bool) : State :=
  let s := (s.inc F.TWIN_STEP_MISS_CNT).setPairHead n { s.pairHead n with missAge := some 0 }
  s.detectWith inj 0x2A n (s.word (R.HEAD_FRAME_CNT n))

/-- An OUT_CRC mismatch of a head. -/
def State.crcMiss (s : State) (n : Nat) (own : Nat) (inj : Bool) : State :=
  let s := (s.inc F.TWIN_OUTCRC_MISMATCH_CNT).setPairHead n { s.pairHead n with crcAge := some 0 }
  (s.raise F.TWIN_EVT_OUTCRC_EV).detectWith inj 0x2B n own

/-- One latch older; forgotten after 64. -/
def aged : Option Nat → Option Nat
  | some k => if k < 63 then some (k + 1) else none
  | none => none

/-- Count of the published slot of a ring whose stamp carries SOURCE_ID and SEQ; the newest where several do. -/
def State.findSlot (s : State) (n kind i sid seq : Nat) : Option Take × State :=
  let r := s.ring kind i
  let rd := s.get r.rd
  (List.range (ahead (s.get r.wr) rd)).foldl (fun (found, s) k =>
    let c := (rd + k) % 65536
    match s.readSlot (pipeMaster n) kind i c with
    | (some (b, t), s) =>
      if t.sourceId = sid ∧ t.seq = seq then (some { slot := c, buf := some b, done := true, stamp := some t }, s)
      else (found, s)
    | (none, s) => (found, s)) (none, s)

/-- A ring-mode stall is to take a named slot at this latch (R531, R534); whether the slot is absent. -/
def State.nameTake (s : State) (n : Nat) (e : Nat × Nat × Nat) : Bool × State :=
  let (m, sid, seq) := e
  match s.follows n m with
  | none => (false, s)
  | some (k, i) =>
    let held := match (s.stall n m).buf, (s.fstall n m).stamp with
      | some { ring := some (k', i', _), .. }, some t => k' == k && i' == i && t.sourceId == sid && t.seq == seq
      | _, _ => false
    if held then (false, s.setStall n m { s.stall n m with take := none })
    else match s.findSlot n k i sid seq with
    | (some t, s) => (false, s.setStall n m { s.stall n m with take := some t })
    | (none, s) => (true, s)

/-- What a standby's latch follows: the step record that pairs with it, and whether the armed snapshot may apply. -/
structure StepAct where
  step : Option StepRec := none
  apply : Bool := true
deriving DecidableEq, Repr

/-- The step record of a latch of the standby (R531, R532): missing, or naming a tag that was never committed, it counts as
a miss, and the latch runs as outside in-step mode. -/
def State.stepLatch (s : State) (n : Nat) : StepAct × State :=
  if !(s.inStep && s.role == 3 && s.sameHash) then ({}, s)
  else
    let p := s.pairHead n
    let s := s.setPairHead n { p with recs := p.recs.drop 1, missAge := aged p.missAge, crcAge := aged p.crcAge }
    match p.recs.head? with
    | none => ({}, s.stepMiss n false)
    | some r =>
      let own := s.outCrc n
      let lag : Int := ((s.tb48 0 + 2 ^ 48 - r.time) % 2 ^ 48 : Nat)
      let s := s.setPairHead n { s.pairHead n with lag := some (if lag < 2 ^ 47 then lag else lag - 2 ^ 48) }
      let s := match own, r.crc with
        | some a, some b => s.cond (a != b) (·.crcMiss n a false)
        | _, _ => s
      let h := s.head n
      match r.tag with
      | none => ({ step := some r, apply := false }, s)
      | some t =>
        if h.armed.any (·.tag == t) then ({ step := some r }, s)
        else if h.accepted.any (·.tag == t) then ({ step := some r, apply := false }, s)
        else ({}, s.stepMiss n false)

/-- LAG from the heads' last lags (R556): negative lags read as 0. -/
def State.lagRegister (s : State) : State :=
  if !s.inStep then s.setWord R.TWIN_LAG 0
  else
    let ls := s.headList.filterMap (fun n => (s.pairHead n).lag.map (fun d => min 0xFFFF d.toNat))
    let mx := ls.foldl max 0
    let mn := ls.foldl min (ls.headD 0)
    (s.set F.TWIN_LAG_MIN mn).set F.TWIN_LAG_MAX mx

/-- The slots that a latch of the standby names are taken (R531, R534), and the verdicts of the active part are held
(R56). -/
def State.followSlots (s : State) (n : Nat) (act : StepAct) : State :=
  match act.step with
  | some r =>
    let (miss, s) := r.stalls.foldl (fun (b, s) (m, sid, seq, _) =>
      let (x, s) := s.nameTake n (m, sid, seq)
      (b || x, s)) (false, s)
    let s := s.cond miss (·.stepMiss n false)
    let s := (List.range 8).foldl (fun s m => s.setFstall n m { s.fstall n m with
      held := (r.stalls.find? (fun e => e.1 == m)).map (fun e => e.2.2.2) }) s
    s.lagRegister
  | none =>
    let p := s.pairHead n
    let s := p.slots.foldl (fun s e => (s.nameTake n e).2) s
    s.cond (!p.slots.isEmpty) (·.setPairHead n { s.pairHead n with slots := [] })

/-! ## State copies (R534). The bytes of a copy are the model's own: the spec names what it holds and no layout. -/

/-- The part of a copy that a head gives: its index, its commit set as (address, value), its stalls as (index, shown,
hysteresis, SOURCE_ID, SEQ). -/
def State.copyHead (s : State) (n : Nat) : List Byte :=
  let vals := s.inForce.filter (fun e => inCommitSet n e.1)
  let stalls := s.judgedList n
  bytesLE 1 n ++ bytesLE 2 vals.length ++ vals.flatMap (fun e => bytesLE 4 (e.1 - cspaceBase) ++ bytesLE 4 e.2.toNat) ++
  bytesLE 1 stalls.length ++ stalls.flatMap (fun m =>
    let t := (s.fstall n m).stamp
    bytesLE 1 m ++ bytesLE 1 (s.get (F.FSTALL_STATUS_SHOWN n m)) ++ bytesLE 1 (s.chan n m 0).hystCnt ++
    bytesLE 2 (match t with | some t => t.sourceId | none => 0xFFFF) ++
    bytesLE 3 (match t with | some t => t.seq | none => 0))

/-- The frames of a state copy (R489, R523). (DESIGN CHOICE, log 54.) -/
def State.copyMsgs (s : State) : List LinkMsg :=
  let bs := s.headList.flatMap s.copyHead
  let k := 1 + ceilDiv (bs.length - 1004) 1020
  (List.range k).map (fun i =>
    let part := if i = 0 then
        bytesLE 4 (s.word R.TWIN_TICK_CNT) ++ bytesLE 12 0 ++ bytesLE 2 k ++ bytesLE 2 0 ++ bs.take 1004
      else bytesLE 2 i ++ bytesLE 2 0 ++ slice bs (1004 + (i - 1) * 1020) 1020
    { type := 0x13, vc := 0, flags := bitsFrom [i == 0, i + 1 == k], payload := part })

/-- The active part captures and sends a copy. -/
def State.captureCopy (s : State) : State :=
  s.cond (s.copyMode && s.role == 2) fun s => s.copyMsgs.foldl (·.linkSay .twin ·) s

/-- A copy that is not complete is discarded. -/
def State.copyMiss (s : State) (inj : Bool) : State :=
  let s := (s.inc F.TWIN_COPY_MISS_CNT).detectWith inj 0x2C 0 (s.word R.TWIN_TICK_CNT)
  s.onTwin fun t => { t with copy := none }

/-- One head of a copy applied: the commit set is written and committed, and slots and verdicts are named. -/
def State.applyCopyHead (s : State) (n tag : Nat) (vals : List (Nat × Nat)) (stalls : List (Nat × Nat × Nat × Nat)) : State :=
  let regs := vals.foldl (fun t e => Tbl.set resetWord t (e.1 + cspaceBase) (BitVec.ofNat 32 e.2)) (Tbl.clear (inCommitSet n) s.regs)
  let s := ({ s with regs := regs }).commit n tag linkMaster
  let s := s.setPairHead n { s.pairHead n with slots := (stalls.filter (fun e => e.2.2.1 != 0xFFFF)).map (fun e => (e.1, e.2.2.1, e.2.2.2)) }
  stalls.foldl (fun s e => s.setFstall n e.1 { s.fstall n e.1 with held := some e.2.1 }) s

/-- The heads of a copy, in order. -/
def State.applyCopyHeads : Nat → State → Nat → List Byte → State
  | 0, s, _, _ => s
  | fuel + 1, s, tag, bs =>
    if bs.isEmpty then s
    else
      let n := leAt bs 0 1
      let k := leAt bs 1 2
      let vals := (List.range k).map (fun i => (leAt bs (3 + 8 * i) 4, leAt bs (7 + 8 * i) 4))
      let o := 3 + 8 * k
      let c := leAt bs o 1
      let stalls := (List.range c).map (fun i =>
        let a := o + 1 + 8 * i
        (leAt bs a 1, leAt bs (a + 1) 1, leAt bs (a + 3) 2, leAt bs (a + 5) 3))
      let s := if s.named 0x05 n then s.applyCopyHead n tag vals stalls else s
      s.applyCopyHeads fuel tag (bs.drop (o + 1 + 8 * c))

/-- A COPY frame (R489, R534). -/
def State.copyFrame (s : State) (f : LinkFrame) : State :=
  if !s.copyMode ∨ ¬ (s.role = 3 ∨ s.role = 5) then s
  else
    let first := bitOf f.flags 0
    let last := bitOf f.flags 1
    let s := s.cond (first && s.twin.copy.isSome) (·.copyMiss false)
    let got := if first then some (leAt f.payload 0 4, leAt f.payload 16 2, 1, f.payload.drop 20)
      else match s.twin.copy with
        | some (tick, k, next, bs) =>
          if leAt f.payload 0 2 = next then some (tick, k, next + 1, bs ++ f.payload.drop 4) else none
        | none => none
    match got with
    | none => s.cond (s.twin.copy.isSome || leAt f.payload 0 2 == 1) (·.copyMiss false)
    | some (tick, k, next, bs) =>
      if !last then s.onTwin fun t => { t with copy := some (tick, k, next, bs) }
      else if k ≠ next then s.copyMiss false
      else
        let s := s.onTwin fun t => { t with copy := none, copyTicks := 0 }
        s.applyCopyHeads 32 (tick % 65536) bs

/-! ## Forwarding (R524) -/

/-- A FORWARD frame: the standby takes it as its own wall link's. -/
def State.forwarded (s : State) (f : LinkFrame) : State :=
  if s.role ≠ 3 then s
  else
    let bs := f.payload
    let g : LinkFrame := { enc := true, vc := leAt bs 1 1 % 16, tag := leAt bs 4 2 % 4096, flags := leAt bs 6 1,
                           fcnt := leAt bs 8 8, payload := bs.drop 16 }
    match leAt bs 0 1 with
    | 1 => s.wlkVideo g
    | 2 => s.sapAudio g.vc g.tag g.payload
    | _ => s

/-- A FORWARD frame that has waited 250 µs is dropped (FORWARD_DROP). -/
def State.forwardDrop (s : State) : State :=
  match pickMsg (fun m => m.type == 0x14 && decide (m.since + 250000 ≤ s.ns)) (s.link .twin).txq with
  | some (_, rest) => (s.setLink .twin { s.link .twin with txq := rest }).inc F.TWIN_FWD_DROPS_CNT
  | none => s

/-! ## The pair tick (R525, R526, R528) -/

/-- A FRESH or AWN instance has exactly two channels in service. -/
def State.chDegraded (s : State) : Bool :=
  s.headList.any (fun n => (s.chansOk n).length == 2 || (s.hasPipe n && (s.awnOk n).length == 2))

/-- The health report as a number of 256 bits. -/
def State.health (s : State) : Nat :=
  let sum := fun (k : Nat) (p : Nat → Bool) => bitsFrom ((List.range k).map p)
  s.role + s.notReady * 2 ^ 8 + b2n s.ready * 2 ^ 24 + b2n s.twin.declared * 2 ^ 25 + b2n s.chDegraded * 2 ^ 26 +
  s.word R.TWIN_TICK_CNT * 2 ^ 32 +
  sum 32 (fun n => s.headLive n && s.flag (F.HEAD_STAT_PLL_LOCK n) && !s.flag (F.HEAD_STAT_FAULT n)) * 2 ^ 64 +
  sum 32 (fun n => s.headLive n && s.flag (F.HEAD_STAT_SLATE n)) * 2 ^ 96 +
  sum 16 (fun k => s.named 0x02 k && s.answers .decCore k 0) * 2 ^ 128 +
  sum 8 (fun k => s.named 0x03 k && s.answers .encCore k 0) * 2 ^ 144 +
  s.lockedBits * 2 ^ 152 + s.get F.THERM_STATUS_LEVEL * 2 ^ 160 + s.get F.THERM_TJ_TJ * 2 ^ 168 +
  s.get F.TWIN_BIST_STAT_COVER_AGE * 2 ^ 184 +
  sat 8 ((s.word R.FLT_WR_CNT + 2 ^ 32 - s.twin.ledgerMark) % 2 ^ 32) * 2 ^ 200 + s.hash48 * 2 ^ 208

/-- A 256-bit report into eight registers. -/
def State.putHealth (s : State) (a : Nat → Nat) (v : Nat) : State :=
  (List.range 8).foldl (fun s k => s.setWord (a k) (v / 2 ^ (32 * k) % 2 ^ 32)) s

/-- Injected faults of the twin controller, evaluated at ticks (R810). (DEDUCED, log 54.) -/
def State.twinInjected (s : State) : State :=
  let s := s.cond (s.injArmed 0x1F 0) fun s => (s.injSpend 0x1F 0).linkDown .twin 1 true
  let s := s.cond (s.injArmed 0x28 0) fun s => (s.injSpend 0x28 0).missHeartbeat true
  let s := s.cond (s.injArmed 0x29 0) fun s => (s.injSpend 0x29 0).cond (s.role == 2 || s.role == 5) (·.conflict true)
  let s := (List.range 32).foldl (fun s n => s.cond (s.injArmed 0x2A n) fun s => (s.injSpend 0x2A n).stepMiss n true) s
  let s := (List.range 32).foldl (fun s n => s.cond (s.injArmed 0x2B n) fun s =>
    (s.injSpend 0x2B n).crcMiss n ((s.outCrc n).getD 0) true) s
  let s := s.cond (s.injArmed 0x2C 0) fun s => (s.injSpend 0x2C 0).copyMiss true
  let bist := s.get (F.FLT_INJ_UNIT 0x2D)
  let s := s.cond (s.injArmed 0x2D bist) fun s => (s.injSpend 0x2D bist).bistFail true bist
  s.cond (s.injArmed 0x2E 0) fun s => (s.injSpend 0x2E 0).detectWith true 0x2E 0 (s.word R.TWIN_LAST_SWITCH)

/-- A switch-over that waits: a declaration or PLANNED of the active part, a silent trigger of the standby (R542,
R544). -/
def State.pendingSwitch (s : State) : State :=
  match s.role with
  | 2 =>
    let s := s.declareNow
    if s.role = 2 ∧ s.twin.planned ∧ s.twin.asked.isNone then
      let s := s.onTwin fun t => { t with planned := false }
      if s.peerReady then s.sayReq 4 else s.twinRefuse 2
    else s
  | 3 => match s.twin.takeover with
    | some cause => if s.ready then s.becomeIncoming cause s.tick16 else s
    | none => s
  | _ => s

/-- Number of pair ticks up to now by TB0: tick j of second s falls at s + floor(j × 10^9 / TICK_HZ) ns (R525). -/
def State.tickIndex (s : State) : Nat :=
  let ns := s.tbNs 0
  let hz := s.twinPlan.tickHz
  ns / 1000000000 * hz + ((ns % 1000000000 + 1) * hz - 1) / 1000000000

/-- A pair tick (PAIR_TICK): none falls between two instants of R525. -/
def State.pairTick (s : State) : State :=
  if s.plan.isNone || s.inReset.isSome || s.applying.isSome || s.twin.tick == some s.tickIndex then s
  else
    let s := s.onTwin fun t => { t with tick := some s.tickIndex }
    let s := s.setWord R.TWIN_TICK_CNT ((s.word R.TWIN_TICK_CNT + 1) % 2 ^ 32)
    let s := s.coverAge.twinInjected
    let up := s.linkUp .twin
    let s := s.onTwin fun t => { t with
      hb := !t.hb, workMisses := 0, downTicks := if up then 0 else min 4 (t.downTicks + 1),
      copyTicks := min 2 (t.copyTicks + 1) }
    let v := s.health
    let s := s.putHealth R.TWIN_OWN_HEALTH v
    let s := s.onTwin fun t => { t with ledgerMark := s.word R.FLT_WR_CNT }
    let s := s.linkSay .twin { type := 0x10, vc := 15, payload := bytesLE 8 (s.tb48 0) ++ bytesLE 32 v }
    s.captureCopy.pendingSwitch

/-- A received TICK frame: a heartbeat and the peer's report. -/
def State.tickFrame (s : State) (f : LinkFrame) : State :=
  let was := s.peerReady
  let s := s.putHealth R.TWIN_PEER_HEALTH (leAt f.payload 8 32)
  (s.cond (s.peerReady != was) (·.raise F.TWIN_EVT_PEER_EV)).heartbeat

/-- Tick work not done at a tick (TICK_WORK_MISSED, R521, R786). -/
def State.tickMissed (s : State) (inj : Bool) : State :=
  let n := s.twin.workMisses + 1
  let s := s.onTwin fun t => { t with workMisses := n }
  if (n = 3 ∨ inj) ∧ !s.flag F.CLKRST_STAT_FORCED then
    ((s.raise F.CLKRST_STAT_FORCED).raise F.CLKRST_EVT_FORCED_EV).detectWith inj 0x54 0 (s.word R.TWIN_TICK_CNT)
  else s

/-! ## What every command may cause -/

/-- Triggers and ends of a role that follow from the state (R518, R521, R543, R545, R549). -/
def State.roleWatch (s : State) : State :=
  match s.role with
  | 0 => s.put F.TWIN_STAT_ACT (s.plan.isSome && !s.actHeld)
  | 1 => s.cond (s.linkUp .twin) (·.electByLink)
  | 2 =>
    if s.actHeld then (s.onTwin fun t => { t with declared := true }).becomeOutgoing 2 s.tick16
    else s.cond (s.anyHeadFault || s.twin.sClass || s.applying.isSome) (·.declare)
  | 4 => s.cond (s.twin.yield && s.allOff) fun s => (s.handover false).pairHeadsIdle.becomeStandby.switchDone
  | 5 =>
    if s.actHeld || !s.sound then (s.saySwitch 3 (s.get F.TWIN_LAST_SWITCH_CAUSE)).becomeStandby
    else s.cond s.allEnabled (·.takeoverEnds)
  | _ => s

/-- READY_EV where READY has changed. -/
def State.readyWatch (s : State) : State :=
  s.cond (s.ready != s.twin.readyWas) fun s =>
    (s.onTwin fun t => { t with readyWas := s.ready }).raise F.TWIN_EVT_READY_EV

/-- What the twin controller makes of the state after any command; a copy whose rest the link will not bring is
incomplete (R534). -/
def State.twinWatch (s : State) : State :=
  if s.inReset.isSome then s
  else
    let s := s.roleWatch.cond (s.twin.copy.isSome && !s.linkUp .twin) (·.copyMiss false)
    (s.cond s.twin.sClass (·.onTwin fun t => { t with sClass := false })).readyWatch

/-- The part that a latch plays in a hand-over (R545, R541): an incoming part enables the head at its FLP, an outgoing part
holds it off once the peer's TWIN_ACT has risen. -/
def State.handLatch (s : State) (n : Nat) : State :=
  match s.role with
  | 5 => s.setPairHead n { s.pairHead n with enabled := true }
  | 4 =>
    if s.twin.yield then (s.setPairHead n { s.pairHead n with off := true }).setHead n { s.head n with handover := false } else s
  | _ => s

/-- The twin controller under a new plan (R118, R540): roles start anew, and counts since the plan load restart. -/
def State.twinApply (s : State) : State :=
  let keep := s.twin
  let s := s.onTwin fun _ => { hb := keep.hb, phb := keep.phb, actHold := keep.actHold, fallNs := keep.fallNs,
                               ledgerMark := keep.ledgerMark, readyWas := keep.readyWas }
  let s := s.onTwin fun t => { t with tick := some s.tickIndex }
  let s := (s.setWord R.TWIN_TICK_CNT 0).drop F.TWIN_STAT_CONFLICT
  let s := (s.handover false).testUnit 0
  let s := s.linkReset .twin
  if s.paired then s.elect else s.setRole 0

end Sys2Proof.Machine
end

