-- ==== Sys2Proof/Machine/DpoOps.lean ====
section
/-! DEFINITION. DisplayPort source and sink ports (chapter 09): streams and slots, plugging and training, AUX requests, panel
sequences, capture at sink ports. -/

namespace Sys2Proof.Machine

/-! ## Streams and slots (R405 to R409) -/

/-- Heads that the plan maps to port `k`, as (stream, head), in stream order. -/
def State.mapped (s : State) (k : Nat) : List (Nat × Nat) :=
  (List.range 4).flatMap (fun t => s.headList.filterMap (fun n => match s.res 0x05 n with
    | some p => if p % 16 = k ∧ bitsOf p 5 4 = t then some (t, n) else none
    | none => none))

/-- Source port and stream of head `n`. -/
def State.portOf (s : State) (n : Nat) : Nat × Nat :=
  match s.res 0x05 n with
  | some p => (p % 16, bitsOf p 5 4)
  | none => (0, 0)

/-- Port `k` is an eDP port. -/
def State.isEdp (s : State) (k : Nat) : Bool :=
  s.headList.any (fun n => match s.res 0x05 n with
    | some p => p % 16 == k && bitOf p 7
    | none => false)

/-- Link rate in kb/s per lane, in the coding of MAX_RATE (R403). -/
def dpRate (code : Nat) : Nat :=
  match code with
  | 0 => 1620000
  | 1 => 2700000
  | 2 => 5400000
  | _ => 8100000

/-- Payload rate of a trained link in units of 1/10,000 kb/s (R407). -/
def SrcRec.payload (r : SrcRec) : Nat :=
  dpRate r.rate * r.lanes * 8 * (if r.ssc then 995 else 1000)

/-- Required rate of a head in the same units. -/
def State.required (s : State) (n : Nat) : Nat :=
  s.get (F.HEAD_PIXCLK_KHZ n) * 3 * depthBits (s.getLive (F.HEAD_DITHER_DEPTH n)) * 10000

/-- Port `k` runs MST (R406). -/
def State.runsMst (s : State) (k : Nat) : Bool :=
  (s.srcPort k).caps.mst && decide (1 < (s.mapped k).length)

/-- VC payload ID of MST stream `t` (R406). -/
def vcPayload (t : Nat) : Nat := t + 1

/-- First slot of stream `t` by the slot counts of SLOTS: contiguous from slot 1 in ascending stream order (R407). -/
def firstSlot (slots t : Nat) : Nat :=
  1 + ((List.range t).map (fun u => bitsOf slots (8 * u + 5) (8 * u))).sum

/-- The allocation of a trained port: per mapped stream its slots, and whether it is sent (R406, R407). -/
def State.dpAlloc (s : State) (k : Nat) : List (Nat × Nat × Bool) :=
  let pay := (s.srcPort k).payload
  if s.runsMst k then
    ((s.mapped k).foldl (fun (acc : List (Nat × Nat × Bool) × Nat) (t, n) =>
      let need := ceilDiv (s.required n * 64) pay
      if acc.2 + need ≤ 64 then (acc.1 ++ [(t, need, true)], acc.2 + need) else (acc.1 ++ [(t, 0, false)], acc.2)) ([], 1)).1
  else (s.mapped k).zipIdx.map (fun ((t, n), i) => (t, 0, i == 0 && decide (s.required n ≤ pay)))

/-- SLOTS and SHORT as an allocation gives them. -/
def allocSlots (a : List (Nat × Nat × Bool)) : Nat :=
  a.foldl (fun v (t, n, _) => v + n * 2 ^ (8 * t)) 0

def allocShort (a : List (Nat × Nat × Bool)) : Nat :=
  a.foldl (fun v (t, _, ok) => v + b2n (!ok) * 2 ^ t) 0

/-- The DPCD payload table of an MST port written, stream by stream, and the ACT sequence (R406, R409): payload ID, first
slot and slot count at 0x001C0 to 0x001C2, as DisplayPort orders them. (PRESUMED, log 85.) -/
def State.payloadTable (s : State) (k : Nat) (a : List (Nat × Nat × Bool)) : State :=
  if !s.runsMst k then s
  else
    let s := (a.filter (fun (_, n, _) => n != 0)).foldl (fun s (t, n, _) =>
      s.emit (.aux k 8 0x001C0 ([vcPayload t, firstSlot (allocSlots a) t, n].map (BitVec.ofNat 8)))) s
    s.emit (.act k)

/-- An allocation takes effect; BW_EV where a stream becomes not sent (R408). -/
def State.putAlloc (s : State) (k : Nat) : State :=
  let a := s.dpAlloc k
  let old := s.get (F.SRC_STAT_SHORT k)
  let short := allocShort a
  let s := (s.setWord (R.SRC_SLOTS k) (allocSlots a)).set (F.SRC_STAT_SHORT k) short
  let s := s.payloadTable k a
  s.cond ((List.range 4).any (fun t => bitOf short t && !bitOf old t)) (·.raise (F.SRC_EVT_BW_EV k))

/-- Stream `t` of a port starts or stops to carry video. -/
def State.sending (s : State) (k t : Nat) (b : Bool) : State :=
  let v := s.get (F.SRC_STAT_SENDING k)
  s.set (F.SRC_STAT_SENDING k) (if bitOf v t = b then v else if b then v + 2 ^ t else v - 2 ^ t)

/-- A change of PIXCLK or DEPTH that moves slots or changes what is sent starts a new allocation (R409); changed streams
carry no video until it completes. -/
def State.dpChanged (s : State) (k : Nat) : State :=
  if !s.flag (F.SRC_STAT_TRAINED k) then s
  else
    let a := s.dpAlloc k
    let short := s.get (F.SRC_STAT_SHORT k)
    let slots := s.word (R.SRC_SLOTS k)
    let diff := a.filter (fun (t, n, ok) => bitsOf slots (8 * t + 5) (8 * t) != n || bitOf short t == ok ||
      (n != 0 && firstSlot slots t != firstSlot (allocSlots a) t))
    if diff.isEmpty then s
    else
      let r := s.srcPort k
      let s := s.setSrcPort k { r with realloc := true, hold := r.hold ++ diff.map (·.1) }
      diff.foldl (fun s (t, _, _) => s.sending k t false) s

/-- The new allocation completes (MST_REALLOC_DONE). -/
def State.reallocDone (s : State) (k : Nat) : State :=
  let r := s.srcPort k
  if !r.realloc || !s.flag (F.SRC_STAT_TRAINED k) then s
  else (s.setSrcPort k { r with realloc := false, hold := [] }).putAlloc k

/-! ## Training (R412, R413) -/

/-- The link is no longer trained: no stream is sent. -/
def State.untrain (s : State) (k : Nat) : State :=
  let s := ((s.drop (F.SRC_STAT_TRAINED k)).set (F.SRC_STAT_SENDING k) 0)
  s.setSrcPort k { s.srcPort k with realloc := false, hold := [] }

/-- Pattern of channel equalisation at a rate (R413): TPS4 at HBR3, TPS3 below it. -/
def eqPattern (rate : Nat) : Nat :=
  if rate = 3 then 4 else 3

/-- The attempt that starts (R413): clock recovery with TPS1, which R413 does not name, then channel equalisation. (PRESUMED,
log 85.) -/
def State.attempt (s : State) (k : Nat) : State :=
  let r := s.srcPort k
  (s.emit (.training k 1 r.rate r.lanes)).emit (.training k (eqPattern r.rate) r.rate r.lanes)

/-- Training starts. -/
def State.train (s : State) (k : Nat) : State :=
  let s := s.untrain k
  let r := s.srcPort k
  let top := min (s.get (F.SRC_CTRL_MAX_RATE k)) r.caps.rate
  (s.setSrcPort k { r with phase := 2, rate := top, top := top, lanes := min ((s.res 0x07 k).getD 0 % 8) r.caps.lanes,
                           ssc := s.flag (F.SRC_CTRL_SSC k) }).attempt k

/-- The port acts: it is present and the part runs. -/
def State.srcLive (s : State) (k : Nat) : Bool :=
  s.answers .src k 0 && s.inReset.isNone && s.applying.isNone

/-- A plug is qualified, and the capabilities are read (SRC_PLUG). -/
def State.srcPlug (s : State) (k : Nat) (caps : SinkCaps) : State :=
  if !s.srcLive k || s.flag (F.SRC_STAT_HPD k) then s
  else
    let r := s.srcPort k
    let s := s.setSrcPort k { r with phase := 1, caps := caps, irq := none }
    let s := ((s.raise (F.SRC_STAT_HPD k)).raise (F.SRC_EVT_HPD_EV k)).drop (F.SRC_STAT_EDID_OK k)
    s.cond (s.isEdp k && s.get (F.SRC_PANEL_STAT_STATE k) == 1) fun s =>
      (s.set (F.SRC_PANEL_STAT_STATE k) 2).setSrcPort k { s.srcPort k with due := none }

/-- EDID bytes into their registers. -/
def State.putEdid (s : State) (k : Nat) (bs : List Byte) : State :=
  (List.range 128).foldl (fun s i => if 4 * i < bs.length then s.setWord (R.SRC_EDID k i) (leAt bs (4 * i) 4) else s) s

/-- The EDID has been read (SRC_EDID_DONE): PSR is enabled on an eDP panel that has it (R418), and training starts. -/
def State.edidDone (s : State) (k : Nat) (bs : List Byte) : State :=
  let r := s.srcPort k
  if !s.srcLive k || r.phase != 1 then s
  else
    let s := ((s.putEdid k (bs.take 512)).raise (F.SRC_STAT_EDID_OK k)).raise (F.SRC_EVT_EDID_EV k)
    let s := s.cond (s.isEdp k && r.caps.psr) fun s =>
      (s.emit (.aux k 8 0x00170 [0x01#8])).raise (F.SRC_STAT_PSR_CAP k)
    s.train k

/-- An unplug (SRC_UNPLUG, R414, R423): EDID keeps the blocks read so far. -/
def State.srcUnplugged (s : State) (k : Nat) (edid : List Byte) : State :=
  if !s.srcLive k || !s.flag (F.SRC_STAT_HPD k) then s
  else
    let s := s.cond ((s.srcPort k).phase == 1) (·.putEdid k (edid.take (min 512 (edid.length / 128 * 128))))
    let s := (((s.untrain k).drop (F.SRC_STAT_HPD k)).drop (F.SRC_STAT_PSR_CAP k)).raise (F.SRC_EVT_HPD_EV k)
    s.setSrcPort k { s.srcPort k with phase := 0, irq := none }

/-- The status read after an IRQ_HPD (R414): DPCD 0x00200 to 0x00205, and the PSR error status. Lane status bits lie as
DisplayPort gives them: clock recovery, equalisation, symbol lock in each nibble from 0x00202. (PRESUMED, log 55.) -/
def State.irqRead (s : State) (k : Nat) (st : List Byte) (psrErr : Bool) : State :=
  let r := s.srcPort k
  let s := s.cond (s.isEdp k && psrErr) fun s => (s.drop (F.SRC_STAT_PSR_CAP k)).raise (F.SRC_EVT_PSR_ERR_EV k)
  let lanes := leAt st 2 2
  if r.phase = 4 then s.train k
  else if r.phase = 3 ∧ (List.range r.lanes).any (fun l => bitsOf lanes (4 * l + 2) (4 * l) != 7) then
    ((s.inc (F.SRC_LINK_LOSS_CNT k)).detect 0x1B k (leAt st 2 4)).train k
  else s

/-- An IRQ_HPD (SRC_IRQ_HPD); during training it waits for the attempt's end (R423). -/
def State.irqHpd (s : State) (k : Nat) (st : List Byte) (psrErr : Bool) : State :=
  if !s.srcLive k || !s.flag (F.SRC_STAT_HPD k) then s
  else
    let s := s.raise (F.SRC_EVT_IRQ_HPD_EV k)
    if (s.srcPort k).phase ≤ 2 then s.setSrcPort k { s.srcPort k with irq := some (st, psrErr) } else s.irqRead k st psrErr

/-- What a failed attempt leads to: the next rate or lane count, or none (R413). (DEDUCED, log 56.) -/
def SrcRec.next (r : SrcRec) : Option (Nat × Nat) :=
  if 0 < r.rate then some (r.rate - 1, r.lanes) else if 1 < r.lanes then some (r.top, r.lanes / 2) else none

/-- A training attempt ends (SRC_TRAIN_ATTEMPT_END). -/
def State.attemptEnds (s : State) (k : Nat) (ok : Bool) : State :=
  let r := s.srcPort k
  if !s.srcLive k || r.phase != 2 then s
  else
    let inj := s.injArmed 0x1A k
    let s := s.injSpend 0x1A k
    let s :=
      if ok && !inj then
        let s := s.setSrcPort k { r with phase := 3, irq := none, realloc := false, hold := [] }
        let s := ((s.raise (F.SRC_STAT_TRAINED k)).raise (F.SRC_EVT_TRAIN_EV k)).inc (F.SRC_TRAINS_CNT k)
        let s := (s.set (F.SRC_STAT_RATE k) r.rate).set (F.SRC_STAT_LANES k) r.lanes
        (s.put (F.SRC_STAT_MST k) (s.runsMst k)).putAlloc k
      else match (if inj then none else r.next) with
      | some (rate, lanes) => (s.setSrcPort k { r with rate := rate, lanes := lanes, irq := none }).attempt k
      | none =>
        let s := s.setSrcPort k { r with phase := 4, irq := none }
        (s.raise (F.SRC_EVT_TRAIN_FAIL_EV k)).detectWith inj 0x1A k 0
    match r.irq with
    | some (st, psrErr) => s.irqRead k st psrErr
    | none => s

/-- An injected link loss (R810), evaluated at each latch of a head of the port. (DEDUCED, log 56.) -/
def State.linkLossInjected (s : State) (k : Nat) : State :=
  s.cond (s.injArmed 0x1B k) fun s =>
    (s.injSpend 0x1B k).cond (s.flag (F.SRC_STAT_TRAINED k)) fun s =>
      ((s.inc (F.SRC_LINK_LOSS_CNT k)).detectWith true 0x1B k 0).train k

/-- First and last address of a source port's registers. -/
def State.srcUnpred (s : State) (k master : Nat) : State :=
  s.unpredictable master (R.SRC_INFO k) (R.SRC_INFO k + 0xFFF)

/-- A write of SRC.CTRL (R413, R425, R434). -/
def State.writeSrcCtrl (s : State) (k : Nat) (w : Wr) : State :=
  s.guarded (G.SRC_CTRL k) w fun s =>
    let v := w.data.toNat
    if 3 < bitsOf v 10 8 then s.srcUnpred k w.master
    else
      let s := s.plainWrite w (R.SRC_CTRL k)
      s.cond (bitOf v 31 && decide (3 ≤ (s.srcPort k).phase)) (·.train k)

/-! ## AUX requests (R428, R429) -/

/-- A DPCD address that the port owns. -/
def auxOwned (a : Nat) : Bool :=
  (0x100 ≤ a && a ≤ 0x10F) || a == 0x170 || (0x1C0 ≤ a && a ≤ 0x1C2) || a == 0x600

/-- AUX_DATA as 16 bytes. -/
def State.auxData (s : State) (k : Nat) : List Byte :=
  (List.range 4).flatMap (fun i => bytesLE 4 (s.word (R.SRC_AUX_DATA k i)))

/-- A software request ends. -/
def State.auxResult (s : State) (k result : Nat) : State :=
  ((s.set (F.SRC_AUX_STAT_RESULT k) result).drop (F.SRC_AUX_STAT_BUSY k)).raise (F.SRC_EVT_AUX_DONE_EV k)

/-- A write of AUX_CMD. (DEDUCED, log 56.) -/
def State.writeAuxCmd (s : State) (k : Nat) (w : Wr) : State :=
  s.guarded (G.SRC_AUX_CMD k) w fun s =>
    let v := w.data.toNat
    let s := s.plainWrite w (R.SRC_AUX_CMD k)
    if !bitOf v 31 || s.flag (F.SRC_AUX_STAT_BUSY k) then s
    else
      let cmd := bitsOf v 27 24
      let addr := bitsOf v 19 0
      let n := bitsOf v 23 20 + 1
      if !([0, 1, 8, 9] : List Nat).contains cmd then s.srcUnpred k w.master
      else if cmd = 8 ∧ (List.range n).any (fun i => auxOwned (addr + i)) then s.auxResult k 4
      else
        let bs := if cmd = 0 ∨ cmd = 8 then (s.auxData k).take n else bytesLE 1 n
        (s.raise (F.SRC_AUX_STAT_BUSY k)).emit (.aux k cmd addr bs)

/-- The result of a software request (SRC_AUX_DONE). -/
def State.auxDone (s : State) (k result : Nat) (bs : List Byte) : State :=
  if !s.srcLive k || !s.flag (F.SRC_AUX_STAT_BUSY k) || 3 < result then s
  else
    let cmd := s.get (F.SRC_AUX_CMD_CMD k)
    let n := min bs.length (s.get (F.SRC_AUX_CMD_LEN k) + 1)
    let s := s.cond (result == 0 && (cmd == 1 || cmd == 9)) fun s =>
      let data := bs.take n ++ (s.auxData k).drop n
      (List.range 4).foldl (fun s i => s.setWord (R.SRC_AUX_DATA k i) (leAt data (4 * i) 4)) s
    s.auxResult k result

/-! ## eDP panels (R415 to R417) -/

/-- The sequence state of a panel. -/
def State.panel (s : State) (k : Nat) : Nat :=
  s.get (F.SRC_PANEL_STAT_STATE k)

/-- A panel enters a state that lasts `ms` at most; at the closing bell BL_OFF and VDD_OFF are 1 ms (R417). (DEDUCED,
log 56.) -/
def State.panelGo (s : State) (k st ms : Nat) : State :=
  let r := s.srcPort k
  let ms := if r.fast && (st == 5 || st == 6) then 1 else ms
  (s.setSrcPort k { r with due := some (s.ns + ms * 1000000) }).set (F.SRC_PANEL_STAT_STATE k) st

/-- Step 1 of power-on: PVDD_EN rises and the panel waits for a plug, once CYCLE has passed since PVDD_EN last fell. -/
def State.panelOn (s : State) (k : Nat) : State :=
  let r := s.srcPort k
  match r.fell with
  | some t =>
    let up := t + s.get (F.SRC_PANEL_DELAY1_CYCLE k) * 1000000
    if s.ns < up then (s.setSrcPort k { r with want := true, due := some up }).set (F.SRC_PANEL_STAT_STATE k) 7
    else (s.setSrcPort k { r with pvdd := true, want := false, blReady := false }).panelGo k 1
      (s.get (F.SRC_PANEL_DELAY0_T3_MAX k))
  | none => (s.setSrcPort k { r with pvdd := true, want := false, blReady := false }).panelGo k 1
    (s.get (F.SRC_PANEL_DELAY0_T3_MAX k))

/-! BLPWM (R416) -/

/-- Length of a REFCLK clock in ns (R779). -/
def refclkNs : Nat := 10

/-- The period in which a time lies: the one held, or one of those after it, which follow BL_PERIOD and BL_DUTY. -/
def Pwm.at (p : Pwm) (period duty ns : Nat) : Pwm :=
  let next := p.start + p.period * refclkNs
  if ns < next then p
  else ⟨next + (ns - next) / (period * refclkNs) * (period * refclkNs), period, duty⟩

/-- The pin in a period: high for the first `duty` clocks. -/
def Pwm.level (p : Pwm) (ns : Nat) : Bool :=
  decide (ns < p.start + p.duty * refclkNs) || decide (p.period ≤ p.duty)

/-- The period of BLPWM in which the port is; none while the pin is held low. -/
def State.pwmNow (s : State) (k : Nat) : Option Pwm :=
  (s.srcPort k).pwm.map (fun p => p.at (s.word (R.SRC_BL_PERIOD k)) (s.word (R.SRC_BL_DUTY k)) s.ns)

/-- The pin BLPWM of port `k` (R415 to R417). -/
def State.blPwm (s : State) (k : Nat) : Bool :=
  match s.pwmNow k with
  | some p => p.level s.ns
  | none => false

/-- A write of BL_PERIOD or BL_DUTY: it takes effect at the start of the next period (R416). A BL_PERIOD outside 2,000 to
500,000, which R416 does not say what does, is used as written. (DESIGN CHOICE, log 86.) -/
def State.writePwm (s : State) (k : Nat) (act : State → State) : State :=
  act (s.setSrcPort k { s.srcPort k with pwm := s.pwmNow k })

/-- BLEN rises and BLPWM runs, or both fall (R415). -/
def State.panelLight (s : State) (k : Nat) (on : Bool) : State :=
  s.setSrcPort k { s.srcPort k with
    blen := on, pwm := if on then some ⟨s.ns, s.word (R.SRC_BL_PERIOD k), s.word (R.SRC_BL_DUTY k)⟩ else none }

/-- Step 2 of power-off: the DPCD write, and lanes idle. -/
def State.panelSleep (s : State) (k : Nat) : State :=
  let s := s.cond (s.flag (F.SRC_STAT_HPD k)) (·.emit (.aux k 8 0x00600 [0x02#8]))
  let s := s.untrain k
  let r := s.srcPort k
  let s := s.setSrcPort k { r with phase := if r.phase = 0 then 0 else 4 }
  s.panelGo k 6 (s.get (F.SRC_PANEL_DELAY1_VDD_OFF k))

/-- Power-off starts from the step that matches the pins (R423). -/
def State.panelOff (s : State) (k : Nat) : State :=
  let s := s.setSrcPort k { s.srcPort k with want := false }
  match s.panel k with
  | 1 => s.panelGo k 6 (s.get (F.SRC_PANEL_DELAY1_VDD_OFF k))
  | 2 | 3 => s.panelSleep k
  | 4 => (s.panelLight k false).panelGo k 5 (s.get (F.SRC_PANEL_DELAY1_BL_OFF k))
  | _ => s

/-- PVDD_EN falls; CYCLE runs. -/
def State.panelDown (s : State) (k : Nat) : State :=
  let s := (s.panelLight k false).setSrcPort k { (s.panelLight k false).srcPort k with
    pvdd := false, blReady := false, fast := false, fell := some s.ns }
  s.panelGo k 7 (s.get (F.SRC_PANEL_DELAY1_CYCLE k))

/-- The backlight follows BL_ON once its delay has passed. -/
def State.backlight (s : State) (k : Nat) : State :=
  let r := s.srcPort k
  let on := s.flag (F.SRC_PANEL_CTRL_BL_ON k)
  if s.panel k = 3 ∧ r.blReady ∧ on then (s.panelLight k true).set (F.SRC_PANEL_STAT_STATE k) 4
  else if s.panel k = 4 ∧ !on then (s.panelLight k false).set (F.SRC_PANEL_STAT_STATE k) 3
  else s

/-- A delay of the sequence ends (PANEL_DELAY_EXPIRY). (DEDUCED, log 56.) -/
def State.panelExpiry (s : State) (k : Nat) : State :=
  match (s.srcPort k).due with
  | none => s
  | some t =>
    if s.ns < t ∨ s.inReset.isSome then s
    else
      let s := s.setSrcPort k { s.srcPort k with due := none }
      match s.panel k with
      | 1 => (s.raise (F.SRC_EVT_PANEL_EV k)).panelDown k
      | 3 => (s.setSrcPort k { s.srcPort k with blReady := true }).backlight k
      | 5 => s.panelSleep k
      | 6 => s.panelDown k
      | 7 =>
        let s := s.set (F.SRC_PANEL_STAT_STATE k) 0
        s.cond (s.srcPort k).want (·.panelOn k)
      | _ => s

/-- A write of PANEL_CTRL (R415, R430): ignored on a port that is not eDP. -/
def State.writePanelCtrl (s : State) (k : Nat) (w : Wr) : State :=
  s.guarded (G.SRC_PANEL_CTRL k) w fun s =>
    if !s.isEdp k then s
    else
      let was := s.flag (F.SRC_PANEL_CTRL_PWR_ON k)
      let s := s.plainWrite w (R.SRC_PANEL_CTRL k)
      let now := s.flag (F.SRC_PANEL_CTRL_PWR_ON k)
      let s := if now && !was then
          (if s.panel k = 0 then s.panelOn k else s.setSrcPort k { s.srcPort k with want := true })
        else if was && !now then s.panelOff k else s
      s.backlight k

/-- The power-off of the closing bell (R417): the eDP sequence with 1 ms delays, or the DPCD write and idle lanes. -/
def State.portOff (s : State) (k : Nat) : State :=
  if s.isEdp k then
    let s := s.setSrcPort k { s.srcPort k with fast := true, want := false }
    match s.panel k with
    | 5 => s.panelGo k 5 1
    | 6 => s.panelGo k 6 1
    | _ => s.panelOff k
  else
    let s := s.cond (s.flag (F.SRC_STAT_HPD k)) (·.emit (.aux k 8 0x00600 [0x02#8]))
    (s.untrain k).setSrcPort k { (s.untrain k).srcPort k with phase := 0 }

/-- The power-off of a port has completed. -/
def State.portIsOff (s : State) (k : Nat) : Bool :=
  !s.isEdp k || s.panel k == 0 || s.panel k == 7

/-- The pins fall at once and the lanes are idle (R417, R744, R783). -/
def State.portCut (s : State) (k : Nat) : State :=
  let s := s.untrain k
  let r := s.srcPort k
  (s.setSrcPort k { r with phase := 0, irq := none, want := false, pvdd := false, blen := false, pwm := none, due := none,
                           blReady := false, fast := false, fell := r.fallsAt s.ns }).set (F.SRC_PANEL_STAT_STATE k) 0

/-! ## What a latch of a head does to its port (R409, R410, R413, R519) -/

/-- The stream of head `n` at its latch; in Panel Self Refresh it carries no active video (R383). -/
def State.portLatch (s : State) (n : Nat) : State :=
  let (k, t) := s.portOf n
  let s := (s.linkLossInjected k).dpChanged k
  let r := s.srcPort k
  let sent := s.flag (F.SRC_STAT_TRAINED k) && s.headEnabled n && s.get (F.HEAD_PSR_STAT_STATE n) != 2 &&
    !bitOf (s.get (F.SRC_STAT_SHORT k)) t && !r.hold.contains t
  let before := bitOf (s.get (F.SRC_STAT_SENDING k)) t
  let s := s.sending k t sent
  if !s.isEdp k || !sent then s
  else match s.panel k with
  | 2 => s.set (F.SRC_PANEL_STAT_STATE k) 3
  | 3 => s.cond (before && !r.blReady && r.due.isNone) (·.panelGo k 3 (s.get (F.SRC_PANEL_DELAY0_BL_ON k)))
  | _ => s

/-- A head that halts sends no video (R410). -/
def State.portHalt (s : State) (n : Nat) : State :=
  let (k, t) := s.portOf n
  s.sending k t false

/-- What a sent stream carries (R410): the MSA's active and total sizes and bits per component, of RGB. -/
structure Msa where
  hActive : Nat
  vActive : Nat
  hTotal : Nat
  vTotal : Nat
  depth : Nat
deriving DecidableEq, Repr

/-- What the lanes of a source port carry: nothing, a training attempt, an SST stream or the idle pattern, or an MST link with
its allocated streams as (payload ID, slots, MSA while video is sent). The pixels of a stream are those of `State.sentPx`. -/
inductive SrcSignal where
  | quiet
  | training (rate lanes pattern : Nat)
  | idle
  | sst (head : Nat) (msa : Msa)
  | mst (streams : List (Nat × Nat × Option Msa))
deriving DecidableEq, Repr

/-- The MSA of a head's frame (R339, R410). -/
def State.msa (s : State) (n : Nat) : Msa :=
  let t := s.timing n
  ⟨t.hAct, t.vAct, t.hTot, t.vTot, depthBits (s.getLive (F.HEAD_DITHER_DEPTH n))⟩

/-- What source port `k` sends now (R406, R410, R413): of a stopped head no video, with its MST slots kept, and in SST the idle
pattern. -/
def State.srcSignal (s : State) (k : Nat) : SrcSignal :=
  let r := s.srcPort k
  let sends := fun t => bitOf (s.get (F.SRC_STAT_SENDING k)) t
  if r.phase = 2 then .training r.rate r.lanes (eqPattern r.rate)
  else if !s.flag (F.SRC_STAT_TRAINED k) then .quiet
  else if s.flag (F.SRC_STAT_MST k) then
    .mst ((s.mapped k).map (fun (t, n) =>
      (vcPayload t, bitsOf (s.word (R.SRC_SLOTS k)) (8 * t + 5) (8 * t), if sends t then some (s.msa n) else none)))
  else match (s.mapped k).find? (fun (t, _) => sends t) with
  | some (_, n) => .sst n (s.msa n)
  | none => .idle

/-! ## Sink ports (R419 to R422) -/

/-- The port acts. -/
def State.snkLive (s : State) (j : Nat) : Bool :=
  s.answers .snk j 0 && s.inReset.isNone && s.applying.isNone

/-- A DPCD register that sink port `j` presents (R419): revision 1.4, the rate of CTRL.MAX_RATE, the plan's lane count with
TPS3 and TPS4; MSTM_CAP, PSR and DSC capability 0. The addresses are DisplayPort's. (PRESUMED, log 85.) -/
def State.sinkDpcd (s : State) (j a : Nat) : Option Nat :=
  match a with
  | 0x00000 => some 0x14
  | 0x00001 => some (nth 0x1E [0x06, 0x0A, 0x14] (s.get (F.SNK_CTRL_MAX_RATE j)))
  | 0x00002 => some ((s.res 0x08 j).getD 0 % 8 + 0x40)
  | 0x00003 => some 0x80
  | 0x00021 | 0x00060 | 0x00070 => some 0
  | _ => none

/-- EDID byte that sink port `j` serves at an I2C address and segment (R419); none is NACK. -/
def State.sinkI2c (s : State) (j addr segment offset : Nat) : Option Nat :=
  if addr = 0x50 ∧ segment = 0 then some (bitsOf (s.word (R.SNK_EDID j (offset % 256 / 4))) (offset % 4 * 8 + 7) (offset % 4 * 8))
  else none

/-- The enabled entry of a sink port (R144); of several, which R144 does not rank, the lowest. (DESIGN CHOICE, log 80.) -/
def State.snkEntry (s : State) (j : Nat) : Option Nat :=
  (List.range 512).find? (fun i => s.flag (F.INGR_CTRL_ENABLE i) && s.get (F.INGR_CTRL_KIND i) == 2 &&
    s.get (F.INGR_MATCH_UNIT i) == j)

/-- The frame that comes in at a port is discarded. -/
def State.snkDiscard (s : State) (j : Nat) : State :=
  match s.snkEntry j with
  | some i => s.setStream i { s.stream i with frames := [] }
  | none => s

/-- The link of a sink port is gone: no symbol lock, no frame captured, no format (R431). (DEDUCED, log 56.) -/
def State.snkUnlocked (s : State) (j : Nat) : State :=
  (((s.snkDiscard j).drop (F.SNK_STAT_LOCKED j)).drop (F.SNK_STAT_CAPTURING j)).set (F.SNK_STAT_FMT j) 0

/-- HPD loss at a sink port (R421). -/
def State.hpdLoss (s : State) (j : Nat) : State :=
  let s := ((s.snkUnlocked j).drop (F.SNK_STAT_SRC_DET j)).raise (F.SNK_EVT_UNPLUG_EV j)
  { s with unplugged := j :: s.unplugged.filter (· != j) }

/-- A write of SNK.CTRL (R420, R421, R434). -/
def State.writeSnkCtrl (s : State) (j : Nat) (w : Wr) : State :=
  s.guarded (G.SNK_CTRL j) w fun s =>
    if 3 < bitsOf w.data.toNat 10 8 then s.unpredictable w.master (R.SNK_INFO j) (R.SNK_INFO j + 0xFFF)
    else
      let was := s.flag (F.SNK_CTRL_HPD_EN j)
      let s := s.plainWrite w (R.SNK_CTRL j)
      let now := s.flag (F.SNK_CTRL_HPD_EN j)
      (s.put (F.SNK_STAT_HPD j) now).cond (was && !now) (·.hpdLoss j)

/-- A write of HPD_PULSE (R420). -/
def State.writeHpdPulse (s : State) (j : Nat) (w : Wr) : State :=
  s.guarded (G.SNK_HPD_PULSE j) w fun s =>
    s.cond (bitOf w.data.toNat 0 && s.flag (F.SNK_STAT_HPD j)) (·.emit (.hpdPulse j))

/-- The AUX bias of a source is seen (SNK_SOURCE_DETECT). -/
def State.sourceDetect (s : State) (j : Nat) : State :=
  if !s.snkLive j || s.flag (F.SNK_STAT_SRC_DET j) then s
  else (s.raise (F.SNK_STAT_SRC_DET j)).raise (F.SNK_EVT_DETECT_EV j)

/-- The AUX bias has been absent for 2 ms (SNK_HPD_LOSS). -/
def State.sourceGone (s : State) (j : Nat) : State :=
  if !s.snkLive j || !s.flag (F.SNK_STAT_SRC_DET j) then s else s.hpdLoss j

/-- A source can train sink port `j` to a rate and lane count (R419). -/
def State.snkTrains (s : State) (j rate lanes : Nat) : Bool :=
  s.snkLive j && s.flag (F.SNK_STAT_SRC_DET j) && s.flag (F.SNK_STAT_HPD j) &&
  decide (rate ≤ s.get (F.SNK_CTRL_MAX_RATE j)) && decide (lanes ≤ (s.res 0x08 j).getD 0 % 8)

/-- A source has trained the link, or failed to (SNK_TRAINING). -/
def State.snkTrained (s : State) (j rate lanes : Nat) (ok : Bool) : State :=
  if !s.snkTrains j rate lanes then s
  else
    let s := s.snkDiscard j
    if !ok then s.drop (F.SNK_STAT_LOCKED j)
    else (((s.set (F.SNK_STAT_RATE j) rate).set (F.SNK_STAT_LANES j) lanes).raise (F.SNK_STAT_LOCKED j)).raise
      (F.SNK_EVT_TRAIN_EV j)

/-- Symbol lock is lost on a trained link (SNK_LOCK_LOSS). -/
def State.lockLoss (s : State) (j : Nat) (inj : Bool) : State :=
  if !s.snkLive j || !s.flag (F.SNK_STAT_LOCKED j) then s
  else
    let s := (s.snkUnlocked j).inc (F.SNK_LOCK_LOSS_CNT j)
    ((s.raise (F.SNK_EVT_LOCK_LOSS_EV j)).emit (.hpdPulse j)).detectWith inj 0x1C j 0

/-- The first pixel of a frame's first active line (SNK_FRAME_START, R158, R168, R172). -/
def State.snkStart (s : State) (j : Nat) : State :=
  let inj := s.injArmed 0x1C j
  let s := s.injSpend 0x1C j
  if inj then s.lockLoss j true
  else if !s.snkLive j || !s.flag (F.SNK_STAT_LOCKED j) then s
  else match s.snkEntry j with
  | none => s
  | some i =>
    let s := s.arrives i
    let f : FrameAsm := { arrival := s.tbNs (s.get (F.INGR_IDENT_TB i)), lastNs := s.ns, buf := s.chooseBuf i }
    s.setStream i { s.stream i with frames := [f] }

/-- PICTURE.FORMAT to which an encoding maps (R157, R422). -/
def sinkFormat (fmt : Nat) : Nat :=
  match fmt with
  | 1 => 2
  | 2 => 3
  | 3 | 4 => 1
  | _ => 0

/-- Elements of plane `p` that the samples of a line give (R157). (PRESUMED, log 55.) -/
def sinkElems (fmt p : Nat) (sm : List Nat) : List Nat :=
  if fmt ≤ 2 then
    let b := if fmt = 1 then 8 else 10
    (List.range (sm.length / 3)).map (fun k =>
      (if fmt = 1 then 0xFF else 3) * 2 ^ (3 * b) + nth 0 sm (3 * k) % 2 ^ b * 2 ^ (2 * b) +
        nth 0 sm (3 * k + 1) % 2 ^ b * 2 ^ b + nth 0 sm (3 * k + 2) % 2 ^ b)
  else
    let v := fun i => if fmt = 3 then nth 0 sm i % 256 * 4 else nth 0 sm i % 1024
    let g := List.range (sm.length / 4)
    if p = 0 then g.flatMap (fun k => [v (4 * k + 1), v (4 * k + 3)])
    else g.map (fun k => v (4 * k) + v (4 * k + 2) * 2 ^ 16)

/-- Writes of a captured frame into its buffer. -/
def sinkWrites (g : Surf) (f : SinkFrame) : List (Nat × List Byte) :=
  f.lines.zipIdx.flatMap (fun (sm, y) => (List.range (planesOf g.fmt).length).filterMap (fun p =>
    let es := (sinkElems f.fmt p sm).take (planeDims g.fmt p g.w g.h).1
    if g.h ≤ y then none else some (g.elemAddr p 0 y, es.flatMap (fun e => bytesLE (planeOf g.fmt p).size e))))

/-- A frame is captured, stamped and published (R422, R163, R168). -/
def State.snkCapture (s : State) (j i : Nat) (a : FrameAsm) (f : SinkFrame) : State :=
  let s := ((s.inc (F.SNK_FRAMES_CNT j)).raise (F.SNK_STAT_CAPTURING j))
  let s := if s.flag (F.SNK_STAT_SRC_DET j) && s.flag (F.SNK_CTRL_HPD_EN j) then
      { s with unplugged := s.unplugged.filter (· != j) }
    else s
  let (ok, s) := match s.ownBuf i a.buf with
    | some k => s.writeAll ingrMaster (sinkWrites (s.ingrSurf i k) f)
    | none => (true, s)
  let sig := match s.ownBuf i a.buf with | some k => s.signatureAt (s.ingrSurf i k) | none => 0
  let (t, s) := s.makeStamp i
    { sourceId := 0, tb := 0, captureTime := a.arrival % 2 ^ 48, seq := 0, alive := 0, degraded := false,
      overrun := false, arrivalTimed := false, concealed := false, signature := sig }
  s.publishBuf i { stamp := t, pkts := 0, lost := 0, arrival := a.arrival % 2 ^ 48,
                   flags := descFlags false (s.stream i).disc false false } a.buf (!ok)

/-- A frame's last active line (SNK_FRAME_CLOSE, R422). -/
def State.snkClose (s : State) (j : Nat) (f : SinkFrame) : State :=
  if !s.snkLive j || !s.flag (F.SNK_STAT_LOCKED j) then s
  else
    let s := ((s.set (F.SNK_MEAS_SIZE_W j) f.width).set (F.SNK_MEAS_SIZE_H j) f.height).set (F.SNK_MEAS_PERIOD_US j) f.periodUs
    let s := s.set (F.SNK_STAT_FMT j) (if 1 ≤ f.fmt ∧ f.fmt ≤ 4 then f.fmt else 0xF)
    match s.snkEntry j with
    | none => s.drop (F.SNK_STAT_CAPTURING j)
    | some i =>
      match (s.stream i).frames with
      | [] => s
      | a :: _ =>
        let s := s.setStream i { s.stream i with frames := [] }
        let fmtOk := f.progressive && decide (f.khz ≤ 600000) && sinkFormat f.fmt != 0 &&
          sinkFormat f.fmt == s.get (F.INGR_PICTURE_FORMAT i)
        let sizeOk := f.width == s.get (F.INGR_PICTURE_WIDTH i) && f.height == s.get (F.INGR_PICTURE_HEIGHT i)
        if !fmtOk then ((s.drop (F.SNK_STAT_CAPTURING j)).inc (F.SNK_FMT_DROPS_CNT j)).raise (F.SNK_EVT_FMT_EV j)
        else if !sizeOk then ((s.drop (F.SNK_STAT_CAPTURING j)).inc (F.SNK_SIZE_DROPS_CNT j)).raise (F.SNK_EVT_SIZE_EV j)
        else s.snkCapture j i a f

/-- The port's hidden state after the reset of its instance: the time at which PVDD_EN fell is kept, since no power-on comes
before CYCLE has passed (R415). -/
def State.srcReset (s : State) (k : Nat) : State :=
  s.setSrcPort k { fell := (s.srcPort k).fallsAt s.ns }

def State.snkReset (s : State) (j : Nat) : State :=
  { s with unplugged := s.unplugged.filter (· != j) }

end Sys2Proof.Machine
end

