-- ==== Sys2Proof/Machine/Flags.lean ====
section
/-! DEFINITION. Event flags and their enables: the summary bits of each block, and the level of every interrupt source
(R621). -/

namespace Sys2Proof.Machine

/-- An event bit of a register is set with its enable. -/
def State.enabled (s : State) (evt en : Nat) : Bool :=
  s.rd evt &&& s.rd en != 0

/-- The event bits of HEAD[n].EVT (R401), and those of its colour stage. -/
def State.headEvt (s : State) (n : Nat) : Bool := s.answers .head n 0 && s.enabled (R.HEAD_EVT n) (R.HEAD_IRQ_EN n)
def State.colEvt (s : State) (n : Nat) : Bool := s.answers .head n 0 && s.enabled (R.HEAD_COL_STAT n) (R.HEAD_COL_IRQ_EN n)

/-- Pipe `n` has an enabled event of a stall or of write-back (R277). -/
def State.compEvt (s : State) (n : Nat) : Bool :=
  (List.range 8).any (fun m => s.answers .compStall n m && s.enabled (R.CSTALL_STAT n m) (R.CSTALL_IRQ_EN n m)) ||
  (s.answers .writeBack n 0 && s.enabled (R.COMP_WB_STAT n) (R.COMP_WB_IRQ_EN n))

/-- Head `n`'s awning (R321). -/
def State.awnEvt (s : State) (n : Nat) : Bool := s.answers .pipeHead n 0 && s.enabled (R.AWN_EVT n) (R.AWN_IRQ_EN n)

/-- The freshness supervisor's sources of head `n` (R68, R80). -/
def State.freshChanged (s : State) (n : Nat) : Bool := s.answers .head n 0 && s.word (R.FRESH_CHANGED n) != 0
def State.freshFailed (s : State) (n : Nat) : Bool := s.answers .head n 0 && s.get (F.FRESH_HSTAT_CH_OK n) != 7
def State.freshAttested (s : State) (n : Nat) : Bool :=
  s.answers .head n 0 && (s.flag (F.FRESH_ATTEST_STAT_DONE n) || s.flag (F.FRESH_ATTEST_STAT_REFUSED n))

def State.srcEvt (s : State) (k : Nat) : Bool := s.answers .src k 0 && s.enabled (R.SRC_EVT k) (R.SRC_IRQ_EN k)
def State.snkEvt (s : State) (j : Nat) : Bool := s.answers .snk j 0 && s.enabled (R.SNK_EVT j) (R.SNK_IRQ_EN j)

/-- Ingress entry, decode context, encode context, scaler unit with an enabled event (R178, R227, R471, R342). -/
def State.ingrEvt (s : State) (i : Nat) : Bool := s.answers .ingress i 0 && s.enabled (R.INGR_STAT i) (R.INGR_IRQ_EN i)
def State.decEvt (s : State) (c : Nat) : Bool := s.answers .decode c 0 && s.enabled (R.DEC_STAT c) (R.DEC_IRQ_EN c)
def State.encEvt (s : State) (c : Nat) : Bool := s.answers .encode c 0 && s.enabled (R.ENC_STAT c) (R.ENC_IRQ_EN c)
def State.spEvt (s : State) (k : Nat) : Bool := s.answers .scaler k 0 && s.enabled (R.SP_STAT k) (R.SP_IRQ_EN k)

/-- Time base and Ethernet timestamp port with an enabled event (R619). -/
def State.tbEvt (s : State) (t : Nat) : Bool := s.answers .timeBase t 0 && s.enabled (R.TB_EVT t) (R.TB_IRQ_EN t)
def State.tportEvt (s : State) (p : Nat) : Bool := s.answers .ethTime p 0 && s.enabled (R.TPORT_EVT p) (R.TPORT_IRQ_EN p)

def State.laneEvt (s : State) (l : Nat) : Bool := s.answers .lane l 0 && s.enabled (R.LANE_EVT l) (R.LANE_IRQ_EN l)

/-- A checker of word `j` has a recorded refusal (R590). -/
def State.vpend (s : State) (j : Nat) : Nat :=
  bitsFrom ((List.range 32).map (fun k => s.checkerPresent (32 * j + k) && s.flag (F.CHK_VSTAT_VALID (32 * j + k))))

/-- Level sources of a single unit (R621). -/
def State.unitLevel (s : State) (i : Nat) : Bool :=
  match i with
  | 264 => s.enabled R.PLAN_EVENT R.PLAN_IRQ_EN
  | 265 => s.answers .wallLink 0 0 && s.enabled R.WLK_EVT R.WLK_IRQ_EN
  | 266 => s.enabled R.TWIN_EVT R.TWIN_IRQ_EN
  | 267 => s.enabled R.MEMC_EVT R.MEMC_IRQ_EN
  | 268 => s.flag F.TAG_IRQ_EN_EN && (List.range 4).any (fun j => s.vpend j != 0)
  | 314 => s.enabled R.THERM_EVT R.THERM_IRQ_EN
  | 315 => s.enabled R.SEC_EVT R.SEC_IRQ_EN
  | 316 => s.enabled R.CLKRST_EVT R.CLKRST_IRQ_EN
  | 317 => s.enabled R.FLT_EVT R.FLT_IRQ_EN
  | 318 => s.enabled R.SYS_DB_SET R.SYS_DB_EN || s.enabled R.MISC_EVT R.MISC_IRQ_EN
  | _ => false

/-- Trigger of a GPIO pin (R829): 0 level high, 1 level low, 2 rising edge, 3 falling edge. -/
def State.gpioTrig (s : State) (n : Nat) : Nat :=
  bitsOf (s.word (R.MISC_GPIO_TRIG (n / 16))) (n % 16 * 2 + 1) (n % 16 * 2)

/-- Source `i` is an edge source (R621, R639). -/
def State.isEdge (s : State) (i : Nat) : Bool :=
  decide (i < 16) || (320 ≤ i && i < 352 && 2 ≤ s.gpioTrig (i - 320))

/-- A level source asserts (R621). -/
def State.level (s : State) (i : Nat) : Bool :=
  if i < 16 then false
  else if i < 48 then s.headEvt (i - 16) || s.colEvt (i - 16)
  else if i < 80 then s.compEvt (i - 48)
  else if i < 112 then s.awnEvt (i - 80)
  else if i < 144 then s.freshChanged (i - 112) && s.flag (F.FRESH_IRQ_EN_VCHG_EN (i - 112))
  else if i < 176 then s.freshFailed (i - 144) && s.flag (F.FRESH_IRQ_EN_CHFAIL_EN (i - 144))
  else if i < 208 then s.freshAttested (i - 176) && s.flag (F.FRESH_IRQ_EN_ATT_EN (i - 176))
  else if i < 224 then s.srcEvt (i - 208)
  else if i < 232 then s.snkEvt (i - 224)
  else if i < 240 then
    s.answers .eth (i - 232) 0 && s.flag (F.INGRP_QCFG_RXQ_EN (i - 232)) &&
      s.get (F.INGRP_RXQ_WR_IDX (i - 232)) != s.get (F.INGRP_RXQ_RD_IDX (i - 232))
  else if i < 256 then (List.range 32).any (fun k => s.ingrEvt (32 * (i - 240) + k))
  else if i < 260 then (List.range 32).any (fun k => s.decEvt (32 * (i - 256) + k))
  else if i < 262 then (List.range 32).any (fun k => s.encEvt (32 * (i - 260) + k))
  else if i < 264 then (List.range 32).any (fun k => s.spEvt (32 * (i - 262) + k))
  else if i < 272 then s.unitLevel i
  else if i < 280 then s.tbEvt (i - 272)
  else if i < 288 then s.tportEvt (i - 280)
  else if i < 296 then s.enabled (R.CVE_STAT (i - 288)) (R.CVE_IRQ_EN (i - 288))
  else if i < 304 then s.answers .sap (i - 296) 0 && s.enabled (R.SAP_EVT (i - 296)) (R.SAP_IRQ_EN (i - 296))
  else if i < 308 then s.answers .touch (i - 304) 0 && s.enabled (R.TCH_EVT (i - 304)) (R.TCH_IRQ_EN (i - 304))
  else if i < 314 then (List.range 16).any (fun k => s.laneEvt (16 * (i - 308) + k))
  else if i < 320 then s.unitLevel i
  else if i < 352 then
    match s.gpioTrig (i - 320) with
    | 0 => bitOf (s.word R.MISC_GPIO_IN) (i - 320)
    | 1 => !bitOf (s.word R.MISC_GPIO_IN) (i - 320)
    | _ => false
  else if 496 ≤ i ∧ i < 508 then (s.tgt (i - 496)).frozen
  else false

/-- A source is pending (R622). -/
def State.irqPending (s : State) (i : Nat) : Bool :=
  if s.isEdge i then (s.src i).edge else s.level i

end Sys2Proof.Machine
end

