-- ==== Sys2Proof/Machine/IrqOps.lean ====
section
/-! DEFINITION. The interrupt controller (chapter 15): offers, lines, claims, completions, the stacks and their faults. -/

namespace Sys2Proof.Machine

/-! ## Configuration in force (R623, R625) -/

/-- EN, PRIORITY and TARGETS of a source; those of IRQ_FAULT are fixed. -/
def State.irqEn (s : State) (i : Nat) : Bool := s.flag (F.IRQ_CFG_EN i)
def State.irqPrio (s : State) (i : Nat) : Nat := s.get (F.IRQ_CFG_PRIORITY i)
def State.irqTargets (s : State) (i : Nat) : Nat := s.get (F.IRQ_CFG_TARGETS i)

/-- The routing of an IRQ_FAULT source: its target and HOST0. -/
def faultTargets (k : Nat) : Nat :=
  if k = 8 then 2 ^ 8 else 2 ^ k + 2 ^ 8

/-- A target is awake (R627, R787): a control core in RUN or WFI; a host with MSI-X enabled and its vector unmasked.
(PRESUMED, log 33.) -/
def State.awake (s : State) (k : Nat) : Bool :=
  if k < 8 then s.get (F.CC_STAT_STATE k) ≤ 1
  else s.busMaster && s.msixEnable && !s.functionMask && !bitOf (s.word (R.MSIX_TABLE (4 * (k - 8) + 3))) 0

/-- A target is available (R627). -/
def State.available (s : State) (k : Nat) : Bool :=
  s.flag (F.TGT_CTRL_EN k) && !(s.tgt k).frozen && s.awake k

/-! ## Lines (R632) -/

/-- An MSI-X vector is sent, or waits in its PBA bit while it is masked (R636, R644). (PRESUMED, log 33; DEDUCED, log 57.) -/
def State.sendMsix (s : State) (v : Nat) : State :=
  if !s.busMaster || !s.msixEnable || s.functionMask || bitOf (s.word (R.MSIX_TABLE (4 * v + 3))) 0 then
    s.setWord R.MSIX_PBA (Nat.lor (s.word R.MSIX_PBA) (2 ^ v))
  else s.emit (.msix v)

/-- An unmasked vector that waits in its PBA bit is sent. -/
def State.unmaskMsix (s : State) (v : Nat) : State :=
  let p := s.word R.MSIX_PBA
  if bitOf p v && s.busMaster && s.msixEnable && !s.functionMask && !bitOf (s.word (R.MSIX_TABLE (4 * v + 3))) 0 then
    (s.setWord R.MSIX_PBA (p - 2 ^ v)).emit (.msix v)
  else s

/-- Source `i` is claimable by target `k` (R632). -/
def State.claimable (s : State) (k i : Nat) : Bool :=
  (s.src i).offered == some k && decide (s.get (F.TGT_CTRL_THRESHOLD k) ≤ s.irqPrio i) && !(s.tgt k).frozen &&
  match (s.tgt k).stack with
  | (_, p) :: _ => decide (p < s.irqPrio i)
  | [] => true

/-- The claimable source of a target of highest priority, lowest number on a tie (R633). -/
def State.bestClaim (s : State) (k : Nat) : Option Nat :=
  (s.irqSrc.map (·.1)).foldl (fun b i =>
    if !s.claimable k i then b
    else match b with
    | none => some i
    | some j => if s.irqPrio j < s.irqPrio i ∨ (s.irqPrio j = s.irqPrio i ∧ i < j) then some i else b) none

/-- A target's line is driven: a host's rise sends its vector, `again` where a claim or completion leaves a source
claimable; a core in WFI runs on (R787). -/
def State.driveLine (s : State) (k : Nat) (again : Bool) : State :=
  let on := (s.bestClaim k).isSome
  let was := (s.tgt k).line
  let s := if on = was then s else s.setTgt k { s.tgt k with line := on }
  let s := s.cond (decide (8 ≤ k) && on && (again || !was)) (·.sendMsix (k - 8))
  s.cond (decide (k < 8) && on && s.get (F.CC_STAT_STATE k) == 1) (·.set (F.CC_STAT_STATE k) 0)

/-! ## Offers (R626 to R630) -/

/-- The first available target of a set after the last one. -/
def State.nextTarget (s : State) (set last : Nat) : Option Nat :=
  ((List.range 12).map (fun d => (last + 1 + d) % 12)).find? (fun k => bitOf set k && s.available k)

/-- An offer that no longer stands (R629). -/
def State.offerVoid (s : State) (i : Nat) : Bool :=
  match (s.src i).offered with
  | some k => !bitOf (s.irqTargets i) k || !s.available k || !s.irqEn i || !s.irqPending i
  | none => false

/-- The group of a source is held off (R630). -/
def State.heldOff (s : State) (g : Nat) : Bool :=
  g != 31 && Tbl.get (fun _ => 0) s.irqTimer g != 0

/-- Source `i` is offered where a target is available. (DEDUCED, log 57.) -/
def State.offer (s : State) (i : Nat) : State :=
  let r := s.src i
  match s.nextTarget (s.irqTargets i) r.last with
  | some k => s.setSrc i { r with offered := some k, last := k }
  | none => s

/-- Source `i` may be offered, its group's hold-off apart (R626). -/
def State.offerable (s : State) (i : Nat) : Bool :=
  decide (i < 496) && s.irqPending i && s.irqEn i && (s.src i).inService.isNone && (s.src i).offered.isNone

/-- One source at a delivery point; `held` are the groups held off at its start. A withdrawn source is eligible whatever
its group's hold-off. The answer tells whether a group's timer is to start. -/
def State.deliverOne (held : List Nat) (acc : List Nat × State) (i : Nat) : List Nat × State :=
  let (started, s) := acc
  let void := s.offerVoid i
  let s := if void then s.setSrc i { s.src i with offered := none } else s
  if !s.offerable i || (!void && held.contains (i / 16)) then (started, s)
  else
    let s := s.offer i
    ((if void || (s.src i).offered.isNone then started else (i / 16) :: started), s)

/-- A delivery point (IRQ_DELIVERY_POINT). -/
def State.deliver (s : State) : State :=
  if s.inReset.isSome then s
  else
    let held := (List.range 32).filter s.heldOff
    let (started, s) := (List.range 496).foldl (State.deliverOne held) ([], s)
    let s := (List.range 31).foldl (fun s g =>
      let h := s.get (F.IRQ_HOLDOFF_US g)
      if started.contains g && h != 0 then
        { s with irqTimer := Tbl.set (fun _ => 0) s.irqTimer g (s.ns + h * 1000 + 1) }
      else s) s
    (List.range 12).foldl (fun s k => s.driveLine k false) s

/-- The hold-off of a group expires (HOLDOFF_EXPIRY). -/
def State.holdoffEnds (s : State) (g : Nat) : State :=
  let t := Tbl.get (fun _ => 0) s.irqTimer g
  if t = 0 ∨ s.ns + 1 < t then s else { s with irqTimer := Tbl.del s.irqTimer g }

/-- A write of SWI_SET (R622, R643). -/
def State.writeSwiSet (s : State) (w : Wr) : State :=
  s.guarded G.IRQ_SWI_SET w fun s =>
    (List.range 16).foldl (fun s i => if bitOf w.data.toNat i then s.setSrc i { s.src i with edge := true } else s) s

/-! ## Claim and completion (R631 to R636) -/

/-- What a claim returns. -/
def claimWord (i prio : Nat) : W32 :=
  BitVec.ofNat 32 (2 ^ 31 + prio * 2 ^ 16 + i)

/-- A read of CLAIM by a master (R633): the debug master claims nothing. -/
def State.claim (s : State) (k master : Nat) : W32 × State :=
  match s.bestClaim k with
  | none => (0, s)
  | some i =>
    let v := claimWord i (s.irqPrio i)
    if master = 9 then (v, s)
    else
      let s := s.setTgt k { s.tgt k with stack := (i, s.irqPrio i) :: (s.tgt k).stack }
      let s := s.setSrc i { s.src i with edge := false, offered := none, inService := some k }
      (v, (s.inc (F.TGT_CLAIMS_CNT k)).driveLine k true)

/-- A stack fault (R635). (DEDUCED, log 57.) -/
def State.stackFault (s : State) (inj : Bool) (k i : Nat) : State :=
  let t := s.tgt k
  let top := match t.stack with | (j, _) :: _ => j | [] => 0x1FF
  let s := s.setWord (R.TGT_FAULT_INFO k) (2 ^ 31 + top * 2 ^ 16 + i % 512)
  let s := (s.inc (F.TGT_FAULTS_CNT k)).setTgt k { t with frozen := true }
  let s := s.detectWith inj 0x3A k (s.word (R.TGT_FAULT_INFO k))
  (s.cond (!t.frozen) (·.sendMsix 4)).driveLine k false

/-- IRQ_FAULT of target `k`: the non-maskable interrupt input of CCk, and source 496 + k (R625, R635). -/
def State.irqFault (s : State) (k : Nat) : Bool := (s.tgt k).frozen

/-- A completion at a target (R634, R635); a frozen stack does not pop. -/
def State.complete (s : State) (k i : Nat) : State :=
  let inj := s.injArmed 0x3A k
  let s := s.injSpend 0x3A k
  let t := s.tgt k
  match t.stack with
  | (j, _) :: rest =>
    if i ≠ j ∨ inj then s.stackFault inj k i
    else if t.frozen then s
    else ((s.setTgt k { t with stack := rest }).setSrc j { s.src j with inService := none }).driveLine k true
  | [] => s.stackFault inj k i

/-- A write of COMPLETE (R634, R645): a number above 511 is UNPREDICTABLE, confined to the target. (DEDUCED, log 57.) -/
def State.writeComplete (s : State) (k : Nat) (w : Wr) : State :=
  s.guarded { G.TGT_COMPLETE k with valid := 0xFFFFFFFF } w fun s =>
    let v := w.data.toNat
    if 511 < v then s.unpredictable w.master (R.TGT_CTRL k) (R.TGT_COMPLETE k) else s.complete k v

/-- A write of STACK_RESET (R636, R643). -/
def State.writeStackReset (s : State) (k : Nat) (w : Wr) : State :=
  s.guarded (G.TGT_STACK_RESET k) w fun s =>
    let v := w.data.toNat
    if bitsOf v 31 24 ≠ 0xA5 ∨ !bitOf v 0 then s
    else
      let s := (s.tgt k).stack.foldl (fun s (i, _) => s.setSrc i { s.src i with inService := none }) s
      ((s.setTgt k { s.tgt k with stack := [], frozen := false }).setWord (R.TGT_FAULT_INFO k) 0).driveLine k false

/-! ## Views (R641, R643) -/

/-- TGT.STAT. -/
def State.tgtStat (s : State) (k : Nat) : Nat :=
  let t := s.tgt k
  b2n t.frozen * 2 ^ 31 + b2n (s.awake k) * 2 ^ 30 + b2n t.line * 2 ^ 29 + t.stack.length * 2 ^ 16 +
  match t.stack with
  | (i, p) :: _ => p * 2 ^ 12 + i
  | [] => 0

/-- STACK entry `e`, bottom first. -/
def State.stackEntry (s : State) (k e : Nat) : Nat :=
  match (s.tgt k).stack.reverse[e]? with
  | some (i, p) => 2 ^ 31 + p * 2 ^ 16 + i
  | none => 0

/-- Word `j` of PEND and of INSERV. -/
def State.pendWord (s : State) (j : Nat) : Nat :=
  bitsFrom ((List.range 32).map (fun k => s.irqPending (32 * j + k)))

def State.inservWord (s : State) (j : Nat) : Nat :=
  bitsFrom ((List.range 32).map (fun k => (s.src (32 * j + k)).inService.isSome))

/-- Routing, hold-offs and offers at plan apply (R104, R623, R637). -/
def State.irqApply (s : State) (p : Plan) : State :=
  let s := s.resetRange (R.IRQ_CFG 0) (R.IRQ_CFG 511 + 4)
  let s := s.resetRange (R.IRQ_HOLDOFF 0) (R.IRQ_HOLDOFF 31 + 4)
  let s := { s with irqTimer := [], irqSrc := s.irqSrc.map (fun (i, r) => (i, { r with offered := none, last := 11 })) |>.filter (·.2 ≠ {}) }
  p.irq.foldl (fun s r =>
    if r.type = 1 then
      let s := (s.raise (F.IRQ_CFG_EN r.index)).set (F.IRQ_CFG_PRIORITY r.index) r.priority
      (s.set (F.IRQ_CFG_TARGETS r.index) r.value).put (F.IRQ_CFG_LOCKED r.index) r.locked
    else s.set (F.IRQ_HOLDOFF_US r.index) r.value) s

end Sys2Proof.Machine
end

