-- ==== Sys2Proof/Machine/LaneOps.lean ====
section
/-! DEFINITION. The serial lanes (chapter 17): power states, receivers, bit slip, raw lanes and their checker, plan
apply. -/

namespace Sys2Proof.Machine

/-- Lanes that the plan in force gives a function (R662). -/
def State.laneList (s : State) : List Nat :=
  match s.plan with
  | some p => (p.res.filter (fun r => r.kind == 0x0A && r.param % 16 != 0)).map (·.index)
  | none => []

/-- The unit that owns a lane, and the lane within it (R91). -/
def State.laneUnit (s : State) (l : Nat) : Nat × Nat :=
  match s.res 0x0A l with
  | some p => (bitsOf p 11 8, bitsOf p 18 16)
  | none => (0, 0)

/-- The function uses the transmitter; the receiver (R663). -/
def laneTx (fn : Nat) : Bool := fn == 1 || (3 ≤ fn && fn ≤ 6)
def laneRx (fn : Nat) : Bool := 2 ≤ fn && fn ≤ 6

/-- The lane is in use and out of reset. -/
def State.laneLive (s : State) (l : Nat) : Bool :=
  s.inReset.isNone && s.unitPresent .lane l 0 && s.get (F.LANE_STAT_STATE l) != 0

/-- The lane is planned as raw. -/
def State.laneRaw (s : State) (l : Nat) : Bool :=
  s.laneFn l == 6

/-- Head of an eDP port is in Panel Self Refresh (R383). -/
def State.psrActive (s : State) (k : Nat) : Bool :=
  s.isEdp k && (s.mapped k).any (fun (_, n) => s.get (F.HEAD_PSR_STAT_STATE n) == 2)

/-- State that the owning function gives a lane (R667): 1 DEEP, 2 QUIET, 3 ACTIVE. -/
def State.laneWish (s : State) (l : Nat) : Nat :=
  let (u, i) := s.laneUnit l
  match s.laneFn l with
  | 1 =>
    let r := s.srcPort u
    if (r.phase == 2 || r.phase == 3) && decide (i < r.lanes) then (if s.psrActive u then 2 else 3) else 1
  | 2 => if s.flag (F.SNK_STAT_SRC_DET u) then 3 else 1
  | 3 => 3
  | 4 => if s.flag F.WLK_CTRL_EN then 3 else 1
  | 5 => match s.plan with | some p => if p.twin.mode != 0 then 3 else 1 | none => 1
  | 6 => match s.get (F.LANE_CTRL_PWR l) with | 0 => 3 | 1 => 2 | _ => 1
  | _ => 1

/-- A lane whose function wants another state begins to change (R666, R667, R680). -/
def State.laneFollow (s : State) (l : Nat) : State :=
  let st := s.get (F.LANE_STAT_STATE l)
  let w := s.laneWish l
  if st = 0 ∨ 3 < st ∨ st = w then s
  else (s.set (F.LANE_STAT_STATE l) 4).setLane l { s.lane l with goal := some w }

/-- Every lane follows its function. -/
def State.laneWatch (s : State) : State :=
  if s.inReset.isSome then s else s.laneList.foldl State.laneFollow s

/-- A rate within the limits of R665. -/
def rateHeld (v : Nat) : Nat :=
  max 1250 (min 16000 v)

/-- RATE within its limits (R665). -/
def State.laneRate (s : State) (l : Nat) : Nat :=
  rateHeld (s.get (F.LANE_RATE_MBPS l))

/-! ## Checked bits (R673) -/

/-- The checker runs: locked, on an ACTIVE lane. -/
def State.prbsRuns (s : State) (l : Nat) : Bool :=
  s.laneRaw l && s.flag (F.LANE_STAT_PRBS_LOCK l) && s.get (F.LANE_STAT_STATE l) == 3

/-- Bits checked since the last count go into BITS; how many of them differed is free. (DEDUCED, log 59.) -/
def State.prbsSettle (s : State) (l : Nat) : State :=
  let bits := if s.prbsRuns l then (s.lane l).rate * (s.ns - (s.lane l).countNs) / 1000 else 0
  let s := s.setLane l { s.lane l with countNs := s.ns }
  if bits = 0 then s
  else
    let errs := Config.freeValue s.free % (bits + 1)
    let s := s.useFree.setPair (R.LANE_BITS_LO l) (R.LANE_BITS_HI l) (sat 64 (s.pair (R.LANE_BITS_LO l) (R.LANE_BITS_HI l) + bits))
    s.add (F.LANE_ERR_CNT_CNT l) errs

/-! ## Receivers (R664, R676, R679) -/

/-- A trim of a lane shell set to a free value of `k` choices. -/
def State.freeTrim (s : State) (l i k : Nat) : State :=
  (s.setWord (R.SH_TRIM (shLaneBase l) i) (Config.freeValue s.free % k)).useFree

/-- Receive adaptation sets TRIM3 to TRIM9 (R679). -/
def State.laneAdapt (s : State) (l : Nat) : State :=
  let s := (s.freeTrim l 3 25).freeTrim l 4 16
  ((((s.freeTrim l 5 128).freeTrim l 6 128).freeTrim l 7 128).freeTrim l 8 128).freeTrim l 9 128

/-- Training of a sink port, in which its lanes adapt (SNK_TRAINING, R679). (DEDUCED, log 59.) -/
def State.sinkTraining (s : State) (j rate lanes : Nat) (ok : Bool) : State :=
  let t := s.snkTrained j rate lanes ok
  if !s.snkTrains j rate lanes then t
  else (t.laneList.filter (fun l => t.laneFn l == 2 && (t.laneUnit l).1 == j && decide ((t.laneUnit l).2 < lanes))).foldl
    State.laneAdapt t

/-- A training attempt of a source port ends; swing and de-emphasis of its trained lanes are then the training's own
(SRC_TRAIN_ATTEMPT_END, R413, R678). (DEDUCED, log 59.) -/
def State.sourceTrained (s : State) (k : Nat) (ok : Bool) : State :=
  let t := s.attemptEnds k ok
  if (s.srcPort k).phase = 2 ∧ (t.srcPort k).phase = 3 then
    (t.laneList.filter (fun l => t.laneFn l == 1 && (t.laneUnit l).1 == k && decide ((t.laneUnit l).2 < (t.srcPort k).lanes))).foldl
      (fun s l => ((s.freeTrim l 0 25).freeTrim l 1 9).freeTrim l 2 25) t
  else t

/-- The function adapts at every entry to ACTIVE (R679). -/
def laneAdapts (fn : Nat) : Bool := fn == 3 || fn == 4 || fn == 5

/-- Adaptation runs or tracks on the lane (R679). -/
def State.laneAdapting (s : State) (l : Nat) : Bool :=
  (laneAdapts (s.laneFn l) || s.laneFn l == 2) && s.get (F.LANE_STAT_STATE l) == 3 && s.flag (F.LANE_STAT_CDR_LOCK l)

/-- A receiver locks (CDR_LOCK). -/
def State.cdrLocks (s : State) (l : Nat) : State :=
  let st := s.get (F.LANE_STAT_STATE l)
  if !s.laneLive l || !laneRx (s.laneFn l) || (st != 2 && st != 3) || s.flag (F.LANE_STAT_CDR_LOCK l) then s
  else
    let s := ((s.raise (F.LANE_STAT_CDR_LOCK l)).raise (F.LANE_STAT_SIGNAL l)).set (F.LANE_STAT_BOUNDARY l) 0
    s.cond (laneAdapts (s.laneFn l)) (·.laneAdapt l)

/-- Lock is gone: a pending slip with it (R676, R680). -/
def State.cdrDrops (s : State) (l : Nat) : State :=
  ((s.drop (F.LANE_STAT_CDR_LOCK l)).drop (F.LANE_STAT_SLIP_PEND l)).set (F.LANE_STAT_BOUNDARY l) 0

/-- A receiver loses lock (CDR_LOCK_LOSS, R683, R802); whether a signal is still there is free. (DEDUCED, log 59.) -/
def State.cdrLoses (s : State) (l : Nat) : State :=
  if !s.laneLive l || !s.flag (F.LANE_STAT_CDR_LOCK l) then s
  else
    let s := s.prbsSettle l
    let inj := s.injArmed 0x3C l
    let s := (s.injSpend 0x3C l).cdrDrops l
    let s := (s.set (F.LANE_STAT_SIGNAL l) (s.freeValue 1)).useFree
    if s.get (F.LANE_STAT_STATE l) = 3 then
      ((s.inc (F.LANE_LOCK_LOSS_CNT l)).raise (F.LANE_EVT_LOCK_LOSS_EV l)).detectWith inj 0x3C l (s.word (R.LANE_STAT l))
    else s

/-! ## Power states (R666) -/

/-- A change of state completes (LANE_STATE_CHANGE_DONE). -/
def State.laneReached (s : State) (l goal : Nat) : State :=
  let s := s.set (F.LANE_STAT_STATE l) goal
  let s := (s.raise (F.LANE_EVT_STATE_EV l)).put (F.LANE_STAT_PLL_LOCK l) (laneTx (s.laneFn l) && goal != 1)
  s.cond (goal == 1) fun s => (s.cdrDrops l).drop (F.LANE_STAT_SIGNAL l)

/-- A change that runs completes; a raw lane that leaves DEEP takes RATE (R665). -/
def State.laneChanged (s : State) (l : Nat) : State :=
  match (s.lane l).goal with
  | none => s
  | some goal =>
    if !s.laneLive l then s
    else
      let deep := !s.flag (F.LANE_STAT_PLL_LOCK l)
      let rec' := { s.lane l with goal := none, countNs := s.ns }
      let rec' := if s.laneRaw l && deep && goal == 3 then { rec' with rate := s.laneRate l } else rec'
      (s.setLane l rec').laneReached l goal

/-- A lane powers off (R669, R670). -/
def State.laneOff (s : State) (l : Nat) : State :=
  let s := (s.prbsSettle l).setLane l { s.lane l with goal := none }
  ((s.set (F.LANE_STAT_STATE l) 0).cdrDrops l).drop (F.LANE_STAT_PLL_LOCK l) |>.drop (F.LANE_STAT_SIGNAL l)

/-! ## Bit slip (R675) -/

/-- A wall-link lane has block lock. -/
def State.laneBlockLock (s : State) (l : Nat) : Bool :=
  s.laneFn l == 4 && (s.link .wall).locks.contains (s.laneUnit l).2

/-- A SLIP is taken. -/
def State.slipOk (s : State) (l : Nat) : Bool :=
  !s.flag (F.LANE_STAT_SLIP_PEND l) && s.get (F.LANE_STAT_STATE l) == 3 && (s.laneRaw l || s.laneFn l == 4) &&
  !s.laneBlockLock l

/-- The word boundary moves by one UI (SLIP_APPLIED). -/
def State.slipMoves (s : State) (l : Nat) : State :=
  if !s.laneLive l || !s.flag (F.LANE_STAT_SLIP_PEND l) then s
  else
    let width := if s.laneRaw l then 40 else 66
    let s := s.set (F.LANE_STAT_BOUNDARY l) ((s.get (F.LANE_STAT_BOUNDARY l) + 1) % width)
    (s.drop (F.LANE_STAT_SLIP_PEND l)).inc (F.LANE_SLIPS_CNT l)

/-! ## Register writes -/

/-- First and last address of lane `l`, to which R686 confines an outcome. -/
def State.laneUnpred (s : State) (l master : Nat) : State :=
  s.unpredictable master (R.LANE_INFO l) (R.LANE_LOCK_LOSS l)

/-- A write of CTRL (R668, R675, R682, R686). (DEDUCED, log 59.) -/
def State.writeLaneCtrl (s : State) (l : Nat) (w : Wr) : State :=
  s.guarded (G.LANE_CTRL l) w fun s =>
    let v := w.data.toNat
    let s := s.cond (bitOf v 8) fun s =>
      if s.slipOk l then s.raise (F.LANE_STAT_SLIP_PEND l) else s.raise (F.LANE_EVT_CFG_REJ_EV l)
    if s.laneRaw l then
      if v % 4 = 3 then s.laneUnpred l w.master else s.plainWrite w (R.LANE_CTRL l)
    else s.cond (v % 4 != s.get (F.LANE_CTRL_PWR l)) (·.raise (F.LANE_EVT_CFG_REJ_EV l))

/-- A write of RAW_CFG (R673, R684, R686). -/
def State.writeRawCfg (s : State) (l : Nat) (w : Wr) : State :=
  s.guarded (G.LANE_RAW_CFG l) w fun s =>
    let v := w.data.toNat
    if !s.laneRaw l then s
    else if v % 4 = 3 ∨ bitsOf v 5 4 = 3 ∨ bitsOf v 13 12 = 3 then s.laneUnpred l w.master
    else
      let was := s.flag (F.LANE_RAW_CFG_CHK_EN l)
      let s := (s.prbsSettle l).plainWrite w (R.LANE_RAW_CFG l)
      let now := s.flag (F.LANE_RAW_CFG_CHK_EN l)
      let s := s.cond (was && !now) (·.drop (F.LANE_STAT_PRBS_LOCK l))
      s.cond (now && !was) fun s =>
        ((s.setWord (R.LANE_ERR_CNT l) 0).setPair (R.LANE_BITS_LO l) (R.LANE_BITS_HI l) 0).setWord (R.LANE_LOSS_CNT l) 0

/-- A write of RATE (R665): ignored on lanes of other functions. (DEDUCED, log 59.) -/
def State.writeLaneRate (s : State) (l : Nat) (w : Wr) : State :=
  s.guarded (G.LANE_RATE l) w fun s => s.cond (s.laneRaw l || s.laneFn l == 4) (·.plainWrite w (R.LANE_RATE l))

/-- The checker locks (PRBS_LOCK): its register holds bits received, which the 64 that follow continue by the sequence of
RX_PRBS (R672, R673). -/
def State.prbsLocks (s : State) (l : Nat) : State :=
  if !s.laneLive l || !s.laneRaw l || !s.flag (F.LANE_RAW_CFG_CHK_EN l) || s.flag (F.LANE_STAT_PRBS_LOCK l) ||
      s.get (F.LANE_STAT_STATE l) != 3 || !s.flag (F.LANE_STAT_CDR_LOCK l) then s
  else
    let code := s.get (F.LANE_RAW_CFG_RX_PRBS l)
    let s := s.useFree.setLane l { s.lane l with countNs := s.ns, chk := prbsReg code (Config.freeValue s.free) }
    (s.raise (F.LANE_STAT_PRBS_LOCK l)).raise (F.LANE_EVT_PRBS_LOCK_EV l)

/-- What the locked checker predicts for the `k` bits received next after its lock, as RX_INV leaves them (R671 to R673). -/
def State.prbsPredicts (s : State) (l k : Nat) : List Bool :=
  prbsBits (s.get (F.LANE_RAW_CFG_RX_PRBS l)) (s.lane l).chk k

/-- 256 errors within 65,536 bits (PRBS_LOSS): they are among those counted. -/
def State.prbsLoses (s : State) (l : Nat) : State :=
  if !s.laneLive l || !s.flag (F.LANE_STAT_PRBS_LOCK l) then s
  else
    let s := (s.prbsSettle l).drop (F.LANE_STAT_PRBS_LOCK l)
    (s.inc (F.LANE_LOSS_CNT_CNT l)).raise (F.LANE_EVT_PRBS_LOSS_EV l)

/-- A 40-bit word is received (RX_WORD_READ, R671, R674). (DESIGN CHOICE, log 74.) -/
def State.rxWord (s : State) (l word : Nat) : State :=
  if !s.laneLive l || !s.laneRaw l then s
  else
    let v := word % 2 ^ 40
    let v := if s.flag (F.LANE_RAW_CFG_RX_INV l) then 2 ^ 40 - 1 - v else v
    s.setPair (R.LANE_RX_WORD_LO l) (R.LANE_RX_WORD_HI l) v

/-- What a raw lane's transmitter sends in the first `words` 40-bit words after it begins (R671, R672): PRBS bits, or TX_WORD
repeated, least significant bit first, inverted where TX_INV is 1; none while it is not ACTIVE or sends electrical idle. -/
def State.rawSent (s : State) (l words : Nat) : Option (List Bool) :=
  if !s.laneLive l || !s.laneRaw l || s.get (F.LANE_STAT_STATE l) != 3 then none
  else
    let out : List Bool → Option (List Bool) := fun bs => some (bs.map (· != s.flag (F.LANE_RAW_CFG_TX_INV l)))
    match s.get (F.LANE_RAW_CFG_TX_SRC l) with
    | 1 =>
      let code := s.get (F.LANE_RAW_CFG_TX_PRBS l)
      out (prbsBits code (prbsReg code (Config.prbsSeed l)) (40 * words))
    | 2 =>
      let word := s.pair (R.LANE_TX_WORD_LO l) (R.LANE_TX_WORD_HI l)
      out ((List.replicate words ((List.range 40).map (bitOf word))).flatten)
    | _ => none

/-! ## Plan apply (R670, R680) -/

/-- What a plan says of a lane; none where it leaves it unused. -/
def Plan.laneParam (p : Plan) (l : Nat) : Option Nat :=
  match p.find 0x0A l with
  | some r => if r.param % 16 = 0 then none else some r.param
  | none => none

/-- The lane whose RATE governs lane `l` of a plan (R663, R665): its own on a raw lane, that of lane 0 on the wall link; none
on lanes of other functions. -/
def Plan.rateLane (p : Plan) (l param : Nat) : Option Nat :=
  match param % 16 with
  | 6 => some l
  | 4 => (p.res.find? (fun r => r.kind == 0x0A && r.param % 16 == 4 && bitsOf r.param 18 16 == 0)).map (·.index)
  | _ => none

/-- RATE of lane `l` as the LOCKS records of a plan give it; its reset value where they give none (R109, R111). -/
def Plan.laneRateGiven (p : Plan) (l : Nat) : Nat :=
  p.locks.foldl (fun x k => if k.covers (R.LANE_RATE l) then maskIn x k.value k.mask else x) 0 % 2 ^ 15

/-- Apply gives the lane the rate it had (R663, R670): that of its Ethernet port where it has one, or RATE where that
governs it. -/
def State.laneSameRate (s : State) (old new : Plan) (l param : Nat) : Bool :=
  (param % 16 != 3 ||
    (old.find 0x09 (bitsOf param 11 8)).map (fun r => bitOf r.param 0) ==
      (new.find 0x09 (bitsOf param 11 8)).map (fun r => bitOf r.param 0)) &&
  (match new.rateLane l param with
   | some g => rateHeld (new.laneRateGiven g) == s.laneRate g
   | none => true)

/-- Lanes that keep their state through apply (R670): function, unit, lane within unit and rate are unchanged. -/
def State.keptLanes (s : State) (p : Plan) : List Nat :=
  match s.plan with
  | none => []
  | some old => (List.range s.variant.lanes).filter (fun l =>
      match p.laneParam l with
      | some q => old.laneParam l == some q && s.laneSameRate old p l q
      | none => false)

/-- The registers of a lane and its shell after the reset of its instance. -/
def State.laneFresh (s : State) (l : Nat) : State :=
  let s := (s.resetRange (R.LANE_INFO l) (R.LANE_INFO l + 0x100)).resetRange (shLaneBase l) (shLaneBase l + 0x1000)
  s.setLane l {}

/-- The lanes at the start of apply (R670, R680): a PRBS run ends on those that are kept, and every other lane that either plan
names is reset. -/
def State.laneReset (s : State) (p : Plan) : State :=
  let kept := s.keptLanes p
  let s := (List.range s.variant.lanes).foldl (fun s l =>
    if kept.contains l then
      s.cond (s.laneRaw l && s.flag (F.LANE_RAW_CFG_CHK_EN l)) fun s =>
        ((s.prbsSettle l).drop (F.LANE_RAW_CFG_CHK_EN l)).drop (F.LANE_STAT_PRBS_LOCK l)
    else if s.laneFn l != 0 || (p.laneParam l).isSome then s.laneFresh l
    else s) s
  { s with loader := { s.loader with lanesKept := kept } }

/-- The lanes as the new plan leaves them (R111, R670): those it names anew enter DEEP, but stay OFF after STOP unless they were
and are SRC lanes; RATE takes its reset value where the plan gives none. `s.plan` is still the old plan. -/
def State.laneGive (s : State) (p : Plan) : State :=
  (List.range s.variant.lanes).foldl (fun s l =>
    match p.laneParam l with
    | none => s
    | some q =>
      let s := s.setWord (R.LANE_RATE l) 0
      if s.loader.lanesKept.contains l then s
      else s.set (F.LANE_STAT_STATE l) (if s.bulkCut && (q % 16 != 1 || (s.laneFn l != 0 && s.laneFn l != 1)) then 0 else 1)) s

/-! ## Shells (R678) -/

/-- The owning function calibrates a lane's core (R680). -/
def State.laneOwnsCal (s : State) (l : Nat) : Bool :=
  laneAdapts (s.laneFn l) || s.laneFn l == 2

/-- A TRIM register whose value the owning function gives (R678). -/
def State.laneOwnsTrim (s : State) (l i : Nat) : Bool :=
  (s.laneFn l == 1 && i < 3) || (3 ≤ i && i ≤ 9 && s.laneAdapting l)

/-- Highest value of a lane's TRIM register `i` (R678, R686). -/
def laneTrimMax (i : Nat) : Nat :=
  match i with
  | 0 => 24 | 1 => 8 | 2 => 24 | 3 => 24 | 4 => 15 | 10 => 7 | 11 => 0 | _ => 127

end Sys2Proof.Machine
end

