-- ==== Sys2Proof/Machine/FltOps.lean ====
section
/-! DEFINITION. The analogue-core shells (chapter 24), the fault ledger and fault injection (chapter 23). -/

namespace Sys2Proof.Machine

/-! ## Shells (R834) -/

/-- KIND, first window and number of windows of each kind of core. -/
def shellKinds : List (Nat × Nat × Nat) :=
  [(1, shLaneBase 0, 96), (2, shSysPllBase 0, 8), (3, shPixPllBase 0, 32), (4, shHbmBase 0, 16), (5, shPsenseBase 0, 8),
   (6, shTouchBase 0, 4), (7, shAudioBase, 1)]

/-- Kind and instance of the core whose window starts at `b`. -/
def shellOf (b : Nat) : Option (Nat × Nat) :=
  match shellKinds.find? (fun (_, lo, n) => lo ≤ b && (b - lo) % 0x1000 == 0 && (b - lo) / 0x1000 < n) with
  | some (k, lo, _) => some (k, (b - lo) / 0x1000)
  | none => none

/-- The unit behind the window at `b` runs. -/
def State.shellLive (s : State) (b : Nat) : Bool :=
  s.inReset.isNone && match placeOf b with
  | some p => s.answers p.region.unit p.n p.m
  | none => false

/-- The owning function calibrates the core at `b` (R680, R836). -/
def State.shellOwned (s : State) (b : Nat) : Bool :=
  match shellOf b with
  | some (1, l) => s.laneOwnsCal l
  | _ => false

/-- A write to a register of a shell. -/
def State.shellGuarded (s : State) (a : Nat) (w : Wr) (act : State → State) : State :=
  match placeOf a with
  | some p => s.guarded ⟨a, p.region.unit, p.n, p.m, p.reg.fields.foldl (fun v f => v + maskBits f.hi f.lo) 0⟩ w act
  | none => s

/-- A write of CAL_CTRL (R836). -/
def State.writeCal (s : State) (b : Nat) (w : Wr) : State :=
  if (shellOf b).isNone then s
  else s.shellGuarded (R.SH_CAL_CTRL b) w fun s =>
    let v := w.data.toNat
    s.cond (bitsOf v 31 24 == 0xA5 && v % 2 == 1 && !s.shellOwned b && !s.flag (F.SH_CAL_STAT_BUSY b))
      (·.raise (F.SH_CAL_STAT_BUSY b))

/-- A calibration ends (CAL_DONE): on a raw lane adaptation has run (R679). (DEDUCED, log 31.) -/
def State.calDone (s : State) (b : Nat) (ok : Bool) (us : Nat) : State :=
  match shellOf b with
  | none => s
  | some (k, i) =>
    if !s.shellLive b || !s.flag (F.SH_CAL_STAT_BUSY b) then s
    else
      let s := s.drop (F.SH_CAL_STAT_BUSY b)
      let s := s.set (F.SH_CAL_STAT_DURATION b) (sat 16 (min us (if k = 1 then 100 else 1000)))
      let s := s.raise (if ok then F.SH_CAL_STAT_DONE b else F.SH_CAL_STAT_FAIL b)
      s.cond (k == 1 && s.laneRaw i) (·.laneAdapt i)

/-- Detector and unit of a core's health (R802, R837). -/
def shellDetector (b k i : Nat) : Nat × Nat :=
  if k = 4 then (0x35, i) else if k = 5 then (0x41, i) else (0x3E, bitsOf b 27 20 * 256 + i)

/-- HEALTH as read: FAULT where any cause is 1 (R837). -/
def State.shellHealth (s : State) (b : Nat) : Nat :=
  let v := s.word (R.SH_HEALTH b) % 32
  if v = 0 then 0 else v + 2 ^ 31

/-- A health evaluation (SHELL_HEALTH_EVAL, R837, R838). -/
def State.healthEval (s : State) (b causes : Nat) : State :=
  match shellOf b with
  | none => s
  | some (k, i) =>
    if !s.shellLive b then s
    else
      let inj := s.flag (F.SH_INJ_PEND b)
      let left := Tbl.get (fun _ => 0) s.injLeft (R.SH_INJ b)
      let s := s.cond inj fun s =>
        ({ s with injLeft := Tbl.set (fun _ => 0) s.injLeft (R.SH_INJ b) (left - 1) }).put (F.SH_INJ_PEND b) (2 ≤ left)
      let found := causes % 16 + (if inj then 16 else 0)
      if found = 0 then s
      else
        let s := s.setWord (R.SH_HEALTH b) (maskIn (s.word (R.SH_HEALTH b)) 0xFFFFFFFF found)
        let s := s.cond (k == 5) (·.raise F.THERM_EVT_PSENSE_EV)
        let (d, u) := shellDetector b k i
        s.detectWith inj d u (s.shellHealth b)

/-! ## The ledger (R803 to R807) -/

/-- Order in which due entries are written (R805): by AON clock, then detector, then unit. -/
def Due.before (a b : Due) : Bool :=
  if a.ns / 20 ≠ b.ns / 20 then a.ns / 20 < b.ns / 20
  else if a.code ≠ b.code then a.code < b.code
  else a.unit < b.unit

/-- The entry that is written next, and the others. -/
def nextDue : List Due → Option (Due × List Due)
  | [] => none
  | d :: ds => match nextDue ds with
    | none => some (d, ds)
    | some (e, es) => if e.before d then some (e, d :: es) else some (d, ds)

/-- Within 1 ms of the last entry of its pair (R806). (DEDUCED, log 25.) -/
def State.suppressed (s : State) (d : Due) : Bool :=
  let last := Tbl.get (fun _ => 0) s.lastEntry (d.code * 65536 + d.unit % 65536)
  !switchClass.contains d.code && d.code != 0x50 && last != 0 && decide (d.ns + 1 - last ≤ 1000000)

/-- FLAGS of an entry (R803). (DEDUCED, log 25.) -/
def Due.flags (d : Due) : Nat :=
  b2n d.locked + 2 * b2n d.aonTime + 4 * b2n d.injected

/-- A 32-bit index advanced by one. -/
def State.bump32 (s : State) (f : Fld) : State :=
  s.set f ((s.get f + 1) % 2 ^ 32)

/-- The four words of an entry go into its slot (R803, R804). -/
def State.putEntry (s : State) (d : Due) : State :=
  let e := s.word R.FLT_WR_CNT
  let i := e % 256 * 4
  let s := (s.setWord (R.FLT_ENTRY i) (d.time % 2 ^ 32)).setWord (R.FLT_ENTRY (i + 1))
    (d.time / 2 ^ 32 % 65536 + d.flags * 65536 + d.code * 2 ^ 24)
  (s.setWord (R.FLT_ENTRY (i + 3)) d.detail).setWord (R.FLT_ENTRY (i + 2)) (d.unit % 65536 + e % 65536 * 65536)

/-- An entry is written over the slot of an unread one (R804). -/
def State.overwrites (s : State) : State :=
  let unread := (s.word R.FLT_WR_CNT + 2 ^ 32 - s.word R.FLT_RD_IDX) % 2 ^ 32
  s.cond (256 ≤ unread) fun s => ((s.inc F.FLT_LOST_CNT).raise F.FLT_EVT_LOST_EV).bump32 F.FLT_RD_IDX_IDX

/-- The island writes the next due entry, or suppresses it (LEDGER_WRITE). (DEDUCED, log 25.) -/
def State.ledgerWrite (s : State) : State :=
  match nextDue s.due with
  | none => s
  | some (d, rest) =>
    let s := { s with due := rest }
    if s.suppressed d then s.inc F.FLT_SUPPRESSED_CNT
    else
      let s := (s.overwrites.putEntry d).bump32 F.FLT_WR_CNT_CNT
      let last := Tbl.set (fun _ => 0) s.lastEntry (d.code * 65536 + d.unit % 65536) (d.ns + 1)
      ({ s with lastEntry := last }).raise F.FLT_EVT_NEW_EV

/-! ## Injection (R808 to R812) -/

/-- How a detector names its unit (R802). -/
inductive UnitCode where
  | head | headStall | headRect | pipe | pipeStall | src | snk | decCore | encCore | lane | timeBase | checker | pin | wall
  | twin | bist | master | upTo (lo hi : Nat)
deriving DecidableEq, Repr

/-- The detectors with an injection point in FLT, and the coding of their units. -/
def unitCode (d : Nat) : Option UnitCode :=
  match d with
  | 0x01 | 0x03 | 0x05 => some .headStall
  | 0x02 | 0x04 | 0x06 | 0x07 | 0x08 | 0x09 | 0x0B | 0x0C | 0x2A | 0x2B => some .head
  | 0x0A => some .headRect
  | 0x10 | 0x11 | 0x12 => some .pipeStall
  | 0x13 => some .pipe
  | 0x18 | 0x19 => some (.upTo 0 511)
  | 0x1A | 0x1B => some .src
  | 0x1C => some .snk
  | 0x1D | 0x1E => some .wall
  | 0x1F | 0x28 | 0x29 | 0x2C | 0x2E => some .twin
  | 0x20 => some .decCore
  | 0x21 | 0x22 => some (.upTo 0 127)
  | 0x23 => some .encCore
  | 0x24 => some (.upTo 0 63)
  | 0x2D => some .bist
  | 0x30 | 0x31 => some (.upTo 0 15)
  | 0x33 => some .checker
  | 0x38 | 0x39 => some .timeBase
  | 0x3A => some (.upTo 0 11)
  | 0x3B => some (.upTo 0 7)
  | 0x3C => some .lane
  | 0x3D => some .pin
  | 0x40 | 0x52 => some (.upTo 0 2)
  | 0x48 => some (.upTo 1 3)
  | 0x4B => some (.upTo 0 1)
  | 0x50 => some (.upTo 1 6)
  | 0x4F | 0x5F => some .master
  | 0x32 | 0x34 | 0x42 | 0x43 | 0x44 | 0x4A | 0x4C | 0x4D | 0x4E | 0x51 | 0x53 | 0x54 | 0x55 => some (.upTo 0 0)
  | _ => none

/-- Unit kinds of BIST_STAT.KIND (R556). -/
def bistUnit (k : Nat) : UnitKind :=
  match k with
  | 1 => .decCore
  | 2 => .encCore
  | 3 => .scaler
  | 4 => .pipe
  | 5 => .head
  | 6 => .snk
  | _ => .eth

/-- UNIT names a unit that is present and used (R812). -/
def State.injUnit (s : State) (c : UnitCode) (u : Nat) : Bool :=
  match c with
  | .head => s.unitPresent .head u 0
  | .headStall => s.unitPresent .stall (u / 8) (u % 8)
  | .headRect => s.unitPresent .head (u / 8) 0
  | .pipe => s.unitPresent .writeBack u 0
  | .pipeStall => s.unitPresent .compStall (u / 8) (u % 8)
  | .src => s.unitPresent .src u 0
  | .snk => s.unitPresent .snk u 0
  | .decCore => s.unitPresent .decCore u 0
  | .encCore => s.unitPresent .encCore u 0
  | .lane => s.unitPresent .lane u 0
  | .timeBase => s.unitPresent .timeBase u 0
  | .checker => s.checkerPresent u
  | .pin => s.unitPresent .touch (u / 64) 0
  | .wall => u == 0 && s.unitPresent .wallLink 0 0
  | .twin => u == 0 && s.paired
  | .bist => decide (1 ≤ u / 64 ∧ u / 64 ≤ 7) && s.unitPresent (bistUnit (u / 64)) (u % 64) 0
  | .master => s.checkerPresent u || u == 9
  | .upTo lo hi => decide (lo ≤ u ∧ u ≤ hi)

/-- Detectors on which CH names a channel (R816, R818). -/
def votedDetectors : List Nat := [0x01, 0x02, 0x03, 0x04, 0x06, 0x07, 0x08, 0x09, 0x40, 0x52]

/-- Every armed injection of the part and its shells disarmed without effect (R812). -/
def State.disarmAll (s : State) : State :=
  let s := { s.disarm with injLeft := [] }
  shellKinds.foldl (fun s (_, lo, n) => (List.range n).foldl (fun s i =>
    let f := F.SH_INJ_PEND (lo + i * 0x1000)
    s.cond (s.flag f) (·.drop f)) s) s

/-- Fields of an arming write are stored and its count starts. -/
def State.arm (s : State) (a : Nat) (w : Wr) (pend : Fld) : State :=
  let k := bitsOf w.data.toNat 7 4
  let s := s.plainWrite w a
  ({ s with injLeft := Tbl.set (fun _ => 0) s.injLeft a (if k = 0 then 1 else k) }).raise pend

/-- An arming write is refused whole (R809); an injection of that detector presents a refusal. (DEDUCED, log 31.) -/
def State.injRefused (s : State) (master d : Nat) (inj : Bool) : State :=
  ((s.inc F.FLT_INJ_REFUSED_CNT).raise F.FLT_EVT_INJ_REF_EV).detectWith inj 0x5F master d

/-- A write of FLT.INJ[d] (R809, R812, R813, R816, R818); INJ of a shell's detector is not there (R808). (DEDUCED, log 31.) -/
def State.writeInj (s : State) (d : Nat) (w : Wr) : State :=
  s.guarded (G.FLT_INJ d) w fun s =>
    let v := w.data.toNat
    if d = 0x35 ∨ d = 0x3E ∨ d = 0x41 ∨ bitsOf v 31 24 ≠ 0xA5 then s
    else match unitCode d with
    | none => s.unpredictable w.master 0 everywhere
    | some c =>
      if v % 2 = 0 then s.plainWrite w (R.FLT_INJ d)
      else
        let inj := s.injArmed 0x5F w.master
        let s := s.injSpend 0x5F w.master
        if inj || w.master == 9 || !s.injOk || !s.injUnit c (bitsOf v 23 8) then s.injRefused w.master d inj
        else if bitsOf v 3 2 = 3 ∨ (bitsOf v 3 2 ≠ 0 ∧ !votedDetectors.contains d) then
          s.unpredictable w.master 0 everywhere
        else s.arm (R.FLT_INJ d) w (F.FLT_INJ_PEND d)

/-- A write of the INJ of a shell (R838, R840). -/
def State.writeShellInj (s : State) (b : Nat) (w : Wr) : State :=
  match shellOf b with
  | none => s
  | some (k, i) =>
    s.shellGuarded (R.SH_INJ b) w fun s =>
      let v := w.data.toNat
      if bitsOf v 31 24 ≠ 0xA5 then s
      else if bitsOf v 23 8 ≠ 0 ∨ bitsOf v 3 2 ≠ 0 then s.unpredictable w.master b (b + 0xFFF)
      else if v % 2 = 0 then s.plainWrite w (R.SH_INJ b)
      else
        let inj := s.injArmed 0x5F w.master
        let s := s.injSpend 0x5F w.master
        if inj || w.master == 9 || !s.injOk then s.injRefused w.master (shellDetector b k i).1 inj
        else s.arm (R.SH_INJ b) w (F.SH_INJ_PEND b)

/-- A write of a TRIM register (R678, R686, R835, R840). -/
def State.writeTrim (s : State) (b i : Nat) (w : Wr) : State :=
  let a := R.SH_TRIM b i
  match shellOf b with
  | some (1, l) => s.shellGuarded a w fun s =>
      if s.laneOwnsTrim l i then s
      else if laneTrimMax i < w.data.toNat then s.unpredictable w.master b (b + 0xFFF)
      else s.plainWrite w a
  | some (6, _) => s.shellGuarded a w fun s =>
      if w.data.toNat ≠ Config.testTrim a % 2 ^ 32 then s.unpredictable w.master b (b + 0xFFF) else s
  | _ => s.shellGuarded a w id

/-- A write of RD_IDX (R804, R813): ignored beyond WR_CNT. -/
def State.writeRdIdx (s : State) (w : Wr) : State :=
  s.guarded G.FLT_RD_IDX w fun s =>
    let rd := s.word R.FLT_RD_IDX
    s.cond ((w.data.toNat + 2 ^ 32 - rd) % 2 ^ 32 ≤ (s.word R.FLT_WR_CNT + 2 ^ 32 - rd) % 2 ^ 32) (·.plainWrite w R.FLT_RD_IDX)

end Sys2Proof.Machine
end

