-- ==== Sys2Proof/Machine/TouchOps.lean ====
section
/-! DEFINITION. Capacitive touch sensing (chapter 19): run and stop, calibration, scans, the evaluation of a channel,
events. -/

namespace Sys2Proof.Machine

/-- Identifier of the touch queues' checker (R721). -/
def touchMaster : Nat := 0x60

/-- Group `g` is in use. -/
def State.tchLive (s : State) (g : Nat) : Bool :=
  s.inReset.isNone && s.unitPresent .touch g 0

/-- Channels that CH_EN enables, channel c in bit c. -/
def State.tchEn (s : State) (g : Nat) : Nat :=
  s.pair (R.TCH_CH_EN_LO g) (R.TCH_CH_EN_HI g)

/-- Channels of a group's mask, in order. -/
def maskList (v : Nat) : List Nat :=
  (List.range 64).filter (bitOf v)

/-- Record of a channel. -/
def TouchGrp.chan (t : TouchGrp) (c : Nat) : TouchCh :=
  Tbl.get (fun _ => {}) t.chans c
def TouchGrp.setChan (t : TouchGrp) (c : Nat) (v : TouchCh) : TouchGrp :=
  { t with chans := Tbl.set (fun _ => {}) t.chans c v }

/-- An event record of a channel (R720, R721). -/
def State.tchEmit (s : State) (g c event : Nat) (value : Int) : State :=
  let bs := s.inputBytes (s.get (F.TCH_CFG_TB g)) 1 (g * 64 + c) event (unsign 32 value)
  s.queueRecord touchMaster (s.addrPair (R.TCH_Q_BASE_LO g) (R.TCH_Q_BASE_HI g)) (s.get (F.TCH_Q_CFG_Q_LOG2 g))
    (F.TCH_Q_WR_IDX g) (F.TCH_Q_RD_IDX g) (F.TCH_Q_DROPS_CNT g) (F.TCH_EVT_OVF_EV g) (F.TCH_EVT_Q_EV g) bs

/-- TOUCHED as of now (R722). -/
def State.tchTouched (s : State) (g : Nat) : State :=
  let v := (List.range 64).foldl (fun v c => v + b2n (s.flag (F.TCHC_STAT_TOUCHED g c)) * 2 ^ c) 0
  s.setPair (R.TCH_TOUCHED_LO g) (R.TCH_TOUCHED_HI g) v

/-- A touched channel is released because it or its group stops. -/
def State.tchRelease (s : State) (g c : Nat) : State :=
  s.cond (s.flag (F.TCHC_STAT_TOUCHED g c)) fun s => (s.tchEmit g c 5 0).drop (F.TCHC_STAT_TOUCHED g c)

/-- What touches a group alone (R730). -/
def State.tchUnpred (s : State) (g master : Nat) : State :=
  s.unpredictable master (R.TCH_CTRL g) (R.TCH_CTRL g + 0xFFF)

/-! ## Run, stop and calibration (R715, R716, R724) -/

/-- A setting with which RUN is refused (R715). -/
def State.tchBad (s : State) (g : Nat) : Bool :=
  let p := s.get (F.TCH_SCAN_PERIOD g)
  let w := s.get (F.TCH_CFG_WINDOW g)
  decide (p < 4167 ∨ p < 4 * (8 + w) ∨ w < 16 ∨ 4000 < w)

/-- Calibration of the channels of a mask begins. -/
def State.tchCalibrate (s : State) (g mask : Nat) : State :=
  let t := s.tch g
  let t := (maskList mask).foldl (fun t c => t.setChan c { t.chan c with cal := false }) { t with calib := t.calib ||| mask }
  (s.setTch g t).put (F.TCH_STAT_CAL_BUSY g) (t.calib != 0)

/-- The group starts. -/
def State.tchStart (s : State) (g : Nat) : State :=
  ((s.setTch g { fromNs := some s.ns }).raise (F.TCH_STAT_RUNNING g)).tchCalibrate g (s.tchEn g)

/-- The group stops; where RUN was set again meanwhile, it starts afresh. -/
def State.tchStop (s : State) (g : Nat) : State :=
  let s := ((List.range 64).foldl (fun s c => s.tchRelease g c) s).tchTouched g
  let s := (((s.setTch g {}).drop (F.TCH_STAT_RUNNING g)).drop (F.TCH_STAT_SCANNING g)).drop (F.TCH_STAT_CAL_BUSY g)
  s.cond (s.flag (F.TCH_CTRL_RUN g)) (·.tchStart g)

/-- A write of CTRL (TCH_RUN_SET, TCH_RUN_CLEAR). (DESIGN CHOICE, log 60.) -/
def State.writeTchCtrl (s : State) (g : Nat) (w : Wr) : State :=
  s.guarded (G.TCH_CTRL g) w fun s =>
    let was := s.flag (F.TCH_CTRL_RUN g)
    let now := w.data.toNat % 2 == 1
    if now && !was then
      if s.tchBad g then s.raise (F.TCH_EVT_CFG_REJ_EV g)
      else if s.inUseClash (.touch g) (s.touchAreas g) then s.tchUnpred g w.master
      else
        let s := s.plainWrite w (R.TCH_CTRL g)
        s.cond (!(s.tch g).stopping) (·.tchStart g)
    else if was && !now then
      let s := s.plainWrite w (R.TCH_CTRL g)
      if (s.tch g).scan.isSome then s.setTch g { s.tch g with stopping := true } else s.tchStop g
    else s

/-- A write of CFG or SCAN: ignored while RUN is 1 (R715). -/
def State.writeTchCfg (s : State) (g : Nat) (scan : Bool) (w : Wr) : State :=
  s.guarded (if scan then G.TCH_SCAN g else G.TCH_CFG g) w fun s =>
    if s.flag (F.TCH_CTRL_RUN g) then s.raise (F.TCH_EVT_CFG_REJ_EV g)
    else s.plainWrite w (if scan then R.TCH_SCAN g else R.TCH_CFG g)

/-- A write of CH_EN_LO is held; one of CH_EN_HI changes both halves (TCH_CH_EN_WRITE, R25). -/
def State.writeChEn (s : State) (g : Nat) (hi : Bool) (w : Wr) : State :=
  if !hi then s.guarded (G.TCH_CH_EN_LO g) w (·.holdLow (R.TCH_CH_EN_LO g) w.data)
  else s.guarded (G.TCH_CH_EN_HI g) w fun s =>
    let old := s.tchEn g
    let s := s.highWrite w (R.TCH_CH_EN_HI g)
    let added := (maskList (s.tchEn g)).foldl (fun v c => if bitOf old c then v else v + 2 ^ c) 0
    s.cond (s.flag (F.TCH_STAT_RUNNING g) && s.flag (F.TCH_CTRL_RUN g) && added != 0) (·.tchCalibrate g added)

/-- A write of the queue's base or size: one that lays the queue in use over another ring or buffer in use is UNPREDICTABLE
(R730). -/
def State.writeTchQueue (s : State) (g : Nat) (w : Wr) (write : State → State) : State :=
  let t := write s
  if s.flag (F.TCH_CTRL_RUN g) && decide (t.touchAreas g ≠ s.touchAreas g) && t.inUseClash (.touch g) (t.touchAreas g) then
    s.tchUnpred g w.master
  else t

/-- A write of Q_RD (R730). -/
def State.writeTchRd (s : State) (g : Nat) (w : Wr) : State :=
  s.guarded (G.TCH_Q_RD g) w fun s =>
    let rd := s.get (F.TCH_Q_RD_IDX g)
    if (s.get (F.TCH_Q_WR_IDX g) + 65536 - rd) % 65536 < (w.data.toNat + 65536 - rd) % 65536 then
      s.tchUnpred g w.master
    else s.plainWrite w (R.TCH_Q_RD g)

/-- A channel found faulty; the ledger's unit is its pin. -/
def State.tchFault (s : State) (g c : Nat) (inj : Bool) : State :=
  ((s.raise (F.TCHC_STAT_FAULT g c)).raise (F.TCH_EVT_FAULT_EV g)).detectWith inj 0x3D (g * 64 + c)
    (s.word (R.TCHC_RAW g c))

/-- What a list of pairs gives for a channel. -/
def listedAt (l : List (Nat × Nat)) (c : Nat) : Option Nat :=
  (l.find? (fun e => e.1 == c)).map (·.2)

/-- COMP for a pad capacitance in 10 fF (R713, R716): the highest at which at least 5.00 pF remain; free where the pad has
less. (DESIGN CHOICE, log 60.) -/
def State.tchComp (s : State) (cap : Nat) : Nat × State :=
  if cap < 500 then (s.freeValue 32 % 241, s.useFree) else (min 240 ((cap - 500) / 25), s)

/-- Calibration of one channel. -/
def State.tchCal1 (s : State) (g c : Nat) (cap : Option Nat) : State :=
  let u := g * 64 + c
  let inj := s.injArmed 0x3D u
  let s := s.injSpend 0x3D u
  match cap with
  | none => s.tchFault g c inj
  | some cap =>
    if inj || 6000 + 2000 < cap then s.tchFault g c inj
    else
      let (k, s) := s.tchComp cap
      let s := ((s.set (F.TCHC_COMP_COMP g c) k).drop (F.TCHC_STAT_FAULT g c))
      s.setTch g ((s.tch g).setChan c { cal := true, first := true })

/-- The channels whose calibration runs are calibrated (TCH_CALIBRATION_DONE); `caps` lists the pads' capacitance, a
channel that it leaves out has an oscillator that does not start. -/
def State.tchCalDone (s : State) (g : Nat) (caps : List (Nat × Nat)) : State :=
  let m := (s.tch g).calib
  if !s.tchLive g || m == 0 then s
  else
    let s := (s.setTch g { s.tch g with calib := 0 }).drop (F.TCH_STAT_CAL_BUSY g)
    (maskList m).foldl (fun s c => s.tchCal1 g c (listedAt caps c)) s

/-! ## Scans (R714, R717) -/

/-- Time in ns since the last scan of a group began, or since the group started, has reached `us` µs (R714). -/
def State.tchPast (s : State) (g us : Nat) : Bool :=
  match (s.tch g).fromNs with
  | some t => decide (t + us * 1000 ≤ s.ns)
  | none => true

/-- A scan starts, SCAN_PERIOD after the last one; the first, SCAN_PERIOD after the group (TCH_SCAN_START, R714).
(DEDUCED, log 91.) -/
def State.tchScan (s : State) (g : Nat) : State :=
  let t := s.tch g
  if !s.tchLive g || !s.tchPast g (s.get (F.TCH_SCAN_PERIOD g)) || !s.flag (F.TCH_STAT_RUNNING g) ||
      !s.flag (F.TCH_CTRL_RUN g) || t.scan.isSome then s
  else
    let en := s.tchEn g
    let s := (List.range 64).foldl (fun s c => s.cond (!bitOf en c) (·.tchRelease g c)) s
    let mask := (maskList en).foldl (fun v c => if (t.chan c).cal then v + 2 ^ c else v) 0
    let longest := max 1 (min 3600 (s.get (F.TCH_MAX_TOUCH_S g)))
    (s.setTch g { t with scan := some (mask, 0), fromNs := some s.ns, thresh := s.rd (R.TCH_THRESH g), filter := s.rd (R.TCH_FILTER g),
                         longest := longest }).raise (F.TCH_STAT_SCANNING g)

/-- A channel after its evaluation: record, BASE, touched, event. -/
structure TouchStep where
  ch : TouchCh
  base : Nat
  touched : Bool
  event : Option Nat := none
deriving DecidableEq, Repr

/-- A field of 0 acts as 1. -/
def atLeast1 (v : Nat) : Nat := max 1 v

/-- An untouched channel (R717). -/
def touchIdle (t : TouchGrp) (now raw base : Nat) (ch : TouchCh) : TouchStep :=
  let delta : Int := raw - base
  let tcnt := if delta ≥ bitsOf t.thresh.toNat 15 0 then ch.tcnt + 1 else 0
  let acnt := if delta ≤ -(bitsOf t.filter.toNat 31 24 : Int) then ch.acnt + 1 else 0
  if atLeast1 (bitsOf t.filter.toNat 19 16) ≤ tcnt then
    ⟨{ ch with tcnt := 0, acnt := acnt, since := now }, base, true, some 1⟩
  else if atLeast1 (bitsOf t.filter.toNat 23 20) ≤ acnt then ⟨{ ch with tcnt := tcnt, acnt := 0 }, raw, false, some 4⟩
  else if tcnt = 0 ∧ acnt = 0 ∧ raw ≠ base then
    if atLeast1 (bitsOf t.filter.toNat 15 0) ≤ ch.dcnt + 1 then
      ⟨{ ch with tcnt := 0, acnt := 0, dcnt := 0 }, if base < raw then base + 1 else base - 1, false, none⟩
    else ⟨{ ch with tcnt := 0, acnt := 0, dcnt := ch.dcnt + 1 }, base, false, none⟩
  else ⟨{ ch with tcnt := tcnt, acnt := acnt }, base, false, none⟩

/-- A touched channel (R717, R718). -/
def touchHeld (t : TouchGrp) (now raw base : Nat) (ch : TouchCh) : TouchStep :=
  let delta : Int := raw - base
  let rcnt := if delta < (bitsOf t.thresh.toNat 15 0 : Int) - bitsOf t.thresh.toNat 31 16 then ch.rcnt + 1 else 0
  if atLeast1 (bitsOf t.filter.toNat 19 16) ≤ rcnt then ⟨{ ch with rcnt := 0 }, base, false, some 2⟩
  else if t.longest * 1000000000 ≤ now - ch.since then ⟨{ ch with rcnt := 0 }, raw, false, some 3⟩
  else ⟨{ ch with rcnt := rcnt }, base, true, none⟩

/-- One evaluation (R716, R717). -/
def touchEval (t : TouchGrp) (now raw base : Nat) (touched : Bool) (ch : TouchCh) : TouchStep :=
  if ch.first then ⟨{ ch with first := false }, raw, false, none⟩
  else if touched then touchHeld t now raw base ch
  else touchIdle t now raw base ch

/-- A channel whose oscillator is lost or saturated (R717, R720). -/
def State.tchLost (s : State) (g c : Nat) (inj : Bool) : State :=
  let was := s.flag (F.TCHC_STAT_FAULT g c)
  let s := s.cond (s.flag (F.TCHC_STAT_TOUCHED g c)) fun s => (s.tchEmit g c 6 0).drop (F.TCHC_STAT_TOUCHED g c)
  s.cond (inj || !was) (·.tchFault g c inj)

/-- A channel's reading at the end of its phase window. (DESIGN CHOICE, log 60.) -/
def State.tchRead (s : State) (g c raw : Nat) : State :=
  let base := s.get (F.TCHC_BASE_BASE g c)
  let r := touchEval (s.tch g) s.ns raw base (s.flag (F.TCHC_STAT_TOUCHED g c)) ((s.tch g).chan c)
  let delta : Int := if ((s.tch g).chan c).first then 0 else raw - base
  let s := s.setTch g ((s.tch g).setChan c r.ch)
  let s := ((s.set (F.TCHC_RAW_RAW g c) raw).set (F.TCHC_BASE_BASE g c) r.base).set (F.TCHC_STAT_DELTA g c) (unsign 16 delta)
  let s := (s.put (F.TCHC_STAT_TOUCHED g c) r.touched).drop (F.TCHC_STAT_FAULT g c)
  match r.event with
  | some e => s.tchEmit g c e delta
  | none => s

/-- One channel of a phase; `net` is its net capacitance in 10 fF. -/
def State.tchChannel (s : State) (g c : Nat) (net : Option Nat) : State :=
  let u := g * 64 + c
  let inj := s.injArmed 0x3D u
  let s := s.injSpend 0x3D u
  match net with
  | none => s.tchLost g c inj
  | some v => if inj || 5000 ≤ v then (s.set (F.TCHC_RAW_RAW g c) (min 5000 v)).tchLost g c inj else s.tchRead g c v

/-- A scan ends (R722, R724). -/
def State.tchScanEnd (s : State) (g : Nat) : State :=
  let s := ((s.setTch g { s.tch g with scan := none }).drop (F.TCH_STAT_SCANNING g)).inc (F.TCH_SCANS_CNT g)
  if (s.tch g).stopping then s.tchStop g else s.tchTouched g

/-- A phase window ends, 8 + WINDOW µs after the one before (TCH_PHASE_END, R714). -/
def State.tchPhase (s : State) (g : Nat) (nets : List (Nat × Nat)) : State :=
  match (s.tch g).scan with
  | none => s
  | some (mask, k) =>
    if !s.tchLive g || !s.tchPast g ((k + 1) * (8 + s.get (F.TCH_CFG_WINDOW g))) then s
    else
      let s := ((maskList mask).filter (fun c => c % 4 == k)).foldl (fun s c => s.tchChannel g c (listedAt nets c)) s
      if 3 ≤ k then s.tchScanEnd g else s.setTch g { s.tch g with scan := some (mask, k + 1) }

/-- A group's reset (R724). -/
def State.tchReset (s : State) (g : Nat) : State :=
  (s.resetRange (R.TCH_CTRL g) (R.TCH_CTRL g + 0x1000)).setTch g {}

end Sys2Proof.Machine
end

