-- ==== Sys2Proof/Machine/ThermOps.lean ====
section
/-! DEFINITION. The thermal model, its levels, and what STOP and TRIP do (chapter 20). -/

namespace Sys2Proof.Machine

/-! ## The model (R731 to R736) -/

/-- A temperature register of 1/16 °C in units of 1/256 °C, and back. -/
def fromSixteenths (v : Nat) : Int := signed 16 v * 16
def toSixteenths (t : Int) : Nat := unsign 16 (t / 16)

/-- The valid word of BND_CONST has 16 bits (R759): it counts as programmed with at least 12 ones, the share of R760 (DESIGN
CHOICE: the spec gives no number for a word of 16 bits). -/
def programmed16 (w : Nat) : Bool :=
  12 ≤ ((List.range 16).filter (fun i => bitOf w i)).length

/-- The boundary constant of OTP, or 85 °C (R735, R754). -/
def State.bndOtp (s : State) : Nat :=
  if programmed16 s.otp.bndValid then s.otp.bndConst % 65536 else 0x550

/-- The boundary temperature in 1/256 °C (R735). (DEDUCED, log 29.) -/
def State.boundary (s : State) : Int :=
  if s.plan.isNone then fromSixteenths s.bndOtp
  else if s.flag F.THERM_BND_CFG_SRC && s.therm.fails < 3 then
    s.therm.sensed.getD (fromSixteenths (s.get F.THERM_BND_CONST_T))
  else fromSixteenths (s.get F.THERM_BND_CONST_T)

/-- Highest temperature of the die nodes and the first node that has it (R731). -/
def hottest (nodes : List Int) : Int × Nat :=
  (nodes.take 36).zipIdx.foldl (fun (best : Int × Nat) e => if best.1 < e.1 then e else best) (nodes.headD 0, 0)

/-- Power of node `i` in µW from the powers of the domains in mW (R733). -/
def nodePower (doms : List Nat) (i : Nat) : Nat :=
  doms.zipIdx.foldl (fun v (mw, d) => v + mw * 1000 * (Config.thermWeight d i % 65537)) 0 / 65536

/-- New temperature of node `i` (R732), in 1/256 °C. (DESIGN CHOICE, log 30.) -/
def nodeNext (nodes : List Int) (tb : Int) (doms : List Nat) (i : Nat) : Int :=
  let t := nodes.getD i 0
  let gb : Int := if 44 ≤ i then Config.thermGb i else 0
  let q := nodes.zipIdx.foldl (fun v (u, j) => v - Config.thermG i j * (t - u)) (nodePower doms i * 256 - gb * (t - tb))
  let c := Config.thermCap i * 1000000
  t + q * 50 / (c : Int) + (Config.thermRound (q * 50) c % 2 : Nat)

/-- The model advanced by 50 µs. -/
def advance (tb : Int) (doms : List Nat) (nodes : List Int) : List Int :=
  (List.range 48).map (nodeNext nodes tb doms)

/-- 125 °C and 100 °C in 1/256 °C. -/
def t125 : Int := 125 * 256
def t100 : Int := 100 * 256

/-- Steps of 50 µs until modelled Tj reaches 125 °C (R742). -/
def stepsToTrip (tb : Int) (doms : List Nat) : Nat → Nat → List Int → Option Nat
  | 0, k, nodes => if t125 ≤ (hottest nodes).1 then some k else none
  | fuel + 1, k, nodes =>
    if t125 ≤ (hottest nodes).1 then some k else stepsToTrip tb doms fuel (k + 1) (advance tb doms nodes)

/-- Share of domain `d` that is of the bulk class, in 1/256: decode and encode whole, pipes and heads none. -/
def bulkShare (d : Nat) : Nat :=
  match d with
  | 0 | 1 => 256
  | 2 | 3 => 0
  | _ => Config.thermBulk d % 257

/-- PRED_TRIP in ms (R742). (DESIGN CHOICE, log 30.) -/
def predTrip (tb : Int) (doms : List Nat) (nodes : List Int) : Nat :=
  if (hottest nodes).1 < t100 then 0xFFFF
  else
    let held := doms.zipIdx.map (fun (mw, d) => mw * (256 - bulkShare d) / 256)
    match stepsToTrip tb held 4000 0 nodes with
    | some k => k * 50 / 1000
    | none => 0xFFFF

/-- A power-sense core's shell reports a fault (R733). -/
def State.psenseBad (s : State) (core : Nat) : Bool :=
  s.shellHealth (shPsenseBase core) != 0

/-- Power of a domain over the last update (R733). -/
def State.domPower (s : State) (d : Nat) : Nat :=
  if (List.range 8).any (fun k => s.psenseBad k && Config.thermFeeds k d) then Config.thermMax d % 2 ^ 20
  else match s.therm.samples with
  | [] => s.get (F.THERM_DOM_PWR_MW d)
  | l => sat 20 (l.foldl (fun v x => v + x.getD d 0) 0 / l.length)

/-! ## Levels (R737) -/

/-- What an update decides: the level, whether WARN and THROTTLE were entered or left, whether THROTTLE was entered,
whether STOP and TRIP were entered. -/
structure LevelStep where
  level : Nat
  warn : Bool := false
  throttle : Bool := false
  entered : Bool := false
  stop : Bool := false
  trip : Bool := false
deriving DecidableEq, Repr

/-- A run of updates, held at 40, beyond which it says nothing more. -/
def runOn (hit : Bool) (n : Nat) : Nat :=
  if hit then min 40 (n + 1) else 0

/-- The runs after an update at `tj`. -/
def runsNext (tj : Int) (runs : List Nat) : List Nat :=
  [runOn (t100 ≤ tj) (nth 0 runs 0), runOn (108 * 256 ≤ tj) (nth 0 runs 1), runOn (115 * 256 ≤ tj) (nth 0 runs 2),
   runOn (tj ≤ 97 * 256) (nth 0 runs 3), runOn (tj ≤ 105 * 256) (nth 0 runs 4)]

/-- WARN and THROTTLE entered in turn, then left in turn. -/
def lowLevels (runs : List Nat) (level : Nat) : LevelStep :=
  let w := level = 0 ∧ nth 0 runs 0 = 40
  let l1 := if w then 1 else level
  let t := l1 = 1 ∧ nth 0 runs 1 = 40
  let l2 := if t then 2 else l1
  let u := l2 = 2 ∧ nth 0 runs 4 = 40
  let l3 := if u then 1 else l2
  let v := l3 = 1 ∧ nth 0 runs 3 = 40
  { level := if v then 0 else l3, warn := w ∨ v, throttle := t ∨ u, entered := t }

/-- The decision of an update; `stop` and `trip` are presented by injection (R810). -/
def levelNext (tj : Int) (runs : List Nat) (level : Nat) (stop trip : Bool) : LevelStep :=
  let d := lowLevels runs level
  let goStop := decide (d.level < 3) && (stop || decide (2 ≤ nth 0 runs 2))
  let d := if goStop then { d with level := 3, stop := true } else d
  if d.level < 4 ∧ (trip ∨ t125 ≤ tj) then { d with level := 4, trip := true } else d

/-- One channel's update. -/
def ThermChan.update (c : ThermChan) (tb : Int) (doms : List Nat) (stop trip : Bool) : ThermChan × LevelStep :=
  let nodes := advance tb doms c.nodes
  let tj := (hottest nodes).1
  let runs := runsNext tj c.runs
  let d := levelNext tj runs c.level stop trip
  ({ nodes := nodes, level := d.level, runs := runs }, d)

/-- Corrupted node temperatures of a channel. -/
def ThermChan.upset (c : ThermChan) (ch : Nat) (us : List NodeUpset) : ThermChan :=
  us.foldl (fun c u => if u.ch = ch then { c with nodes := c.nodes.set u.node u.temp } else c) c

/-- The vote (R736): the decision, the channel reported, dissenting channels, and the channels after overwriting. Where no
two agree, the most severe decision is taken. (DESIGN CHOICE, log 30.) -/
def thermVote (cs : List (ThermChan × LevelStep)) : LevelStep × Nat × List Nat × List ThermChan :=
  match cs with
  | [a, b, c] =>
    if a.2 = b.2 then (a.2, 0, if c.2 = a.2 then [] else [2], [a.1, b.1, if c.2 = a.2 then c.1 else a.1])
    else if a.2 = c.2 then (a.2, 0, [1], [a.1, a.1, c.1])
    else if b.2 = c.2 then (b.2, 1, [0], [b.1, b.1, c.1])
    else
      let worst := if b.2.level ≤ a.2.level ∧ c.2.level ≤ a.2.level then 0 else if c.2.level ≤ b.2.level then 1 else 2
      let d := if worst = 0 then a.2 else if worst = 1 then b.2 else c.2
      (d, worst, [], [{ a.1 with level := d.level }, { b.1 with level := d.level }, { c.1 with level := d.level }])
  | _ => ({ level := 0 }, 0, [], cs.map (·.1))

/-! ## The classes (R739 to R744) -/

/-- The entries enabled at the cut count as silent (R741). -/
def State.ingressSilent (s : State) : State :=
  (List.range 512).foldl (fun s i => s.cond (s.flag (F.INGR_CTRL_ENABLE i)) fun s =>
    ((s.drop (F.INGR_STAT_ACTIVE i)).raise (F.INGR_STAT_SILENT i)).postTimeout i) s

/-- The bulk class is cut (R669, R741, R787). -/
def State.cutBulk (s : State) : State :=
  let s := s.ingressSilent
  let s := (s.laneList.filter (fun l => s.laneFn l != 1)).foldl State.laneOff s
  let s := (List.range 7).foldl (fun s k => s.set (F.CC_STAT_STATE (k + 1)) 4) s
  let s := s.cond (s.get F.WLK_STAT_STATE != 0) (·.linkOff .wall)
  s.cond (s.get F.TWIN_STAT_LINK != 0) (·.linkDown .twin 1 false)

/-- The display class powers down (R743, R744). -/
def State.displayOff (s : State) : State :=
  let s := { s.set F.THERM_STATUS_DISPLAY 2 with install := none }
  let s := (List.range 16).foldl (fun s k => s.cond (s.named 0x07 k) (·.portCut k)) s
  let s := s.headList.foldl (fun s n => (s.drop (F.HEAD_STAT_RUNNING n)).drop (F.HEAD_CTRL_RUN n)) s
  (s.laneList.filter (fun l => s.laneFn l == 1)).foldl State.laneOff s

/-- Heads of the port of head `n`. -/
def State.portHeads (s : State) (n : Nat) : List Nat :=
  (s.mapped (s.portOf n).1).map (·.2)

/-- Head `n` takes step 3 of the closing bell (R743): its port powers off once every head of the port has. -/
def State.bellReach (s : State) (n : Nat) : State :=
  let s := s.setHead n { s.head n with bell := 3 }
  s.cond ((s.portHeads n).all (fun h => 3 ≤ (s.head h).bell)) (·.portOff (s.portOf n).1)

/-- An FLP of head `n` after STOP. -/
def State.bellFlp (s : State) (n : Nat) : State :=
  if s.get F.THERM_STATUS_DISPLAY ≠ 1 ∨ 3 ≤ (s.head n).bell then s
  else if (s.head n).bell = 2 then s.bellReach n
  else s.setHead n { s.head n with bell := (s.head n).bell + 1 }

/-- A head stops during the bell. -/
def State.bellHalt (s : State) (n : Nat) : State :=
  s.cond (s.get F.THERM_STATUS_DISPLAY == 1 && decide ((s.head n).bell < 3)) (·.bellReach n)

/-- Every head has completed step 4 (R743). -/
def State.bellWatch (s : State) : State :=
  s.cond (s.get F.THERM_STATUS_DISPLAY == 1 &&
      s.headList.all (fun n => decide (3 ≤ (s.head n).bell) && s.portIsOff (s.portOf n).1)) (·.displayOff)

/-- Heads that run. -/
def State.runningHeads (s : State) : List Nat :=
  s.headList.filter s.headLive

/-- The time test of R742, with PRED_TRIP in ms. -/
def State.bellRuns (s : State) (pred : Nat) : Bool :=
  let slow := s.runningHeads.foldl (fun m n => max m (s.periodNs n)) 0
  pred == 0xFFFF || decide (3 * slow + 5000000 ≤ pred * 1000000)

/-- Closing bell, or immediate blanking, or power-down at once. -/
def State.closeDisplay (s : State) (pred : Nat) : State :=
  if s.get F.THERM_STATUS_DISPLAY ≠ 0 then s
  else if s.runningHeads.isEmpty || !s.bellRuns pred then s.displayOff
  else
    let s := s.set F.THERM_STATUS_DISPLAY 1
    let s := s.headList.foldl (fun s n => s.setHead n { s.head n with bell := 0 }) s
    (s.headList.filter (fun n => !s.headLive n)).foldl State.bellReach s

/-- The update enters STOP (R741). -/
def State.enterStop (s : State) (pred : Nat) (inj : Bool) : State :=
  let s := (s.raise F.THERM_STATUS_STOP_LATCH).raise F.THERM_EVT_STOP_EV
  ((s.detectWith inj 0x43 0 pred).cutBulk).closeDisplay pred

/-- The update enters TRIP (R745). -/
def State.enterTrip (s : State) (inj : Bool) : State :=
  let s := s.cond (!s.bulkCut) fun s => (s.raise F.THERM_STATUS_STOP_LATCH).cutBulk
  let s := (s.raise F.THERM_STATUS_TRIP_LATCH).raise F.THERM_EVT_TRIP_EV
  (s.detectWith inj 0x44 0 (s.word R.THERM_TJ % 65536)).displayOff

/-! ## The update (THERMAL_UPDATE) -/

/-- The registers that report temperatures and the write window (R736, R742, R748, R754). -/
def State.putTemps (s : State) (nodes : List Int) (pred : Nat) : State :=
  let (t, hot) := hottest nodes
  let tj := toSixteenths t
  let s := (s.set F.THERM_TJ_TJ tj).set F.THERM_TJ_HOT hot
  let s := s.cond (decide (signed 16 (s.get F.THERM_TJ_PEAK_PEAK) < signed 16 tj)) (·.set F.THERM_TJ_PEAK_PEAK tj)
  let s := (s.set F.THERM_PRED_TRIP_MS pred).put F.THERM_STATUS_WRITE_OK (decide (5 * 256 ≤ t ∧ t ≤ 85 * 256))
  let hotNs := if t100 ≤ t then s.ns else s.therm.hotNs
  { s with therm := { s.therm with hotNs := hotNs } }

/-- A slot write stops at its next boundary where the window is left (R121, R748). (DEDUCED, log 43.) -/
def State.windowStop (s : State) : State :=
  s.cond (!s.flag F.THERM_STATUS_WRITE_OK && s.loader.stage.writesSlot) (·.slotStop 0x36)

/-- Dissents are counted and recorded (R736). -/
def State.thermDissent (s : State) (real : List Nat) : State :=
  (List.range 3).foldl (fun s c =>
    let inj := s.injArmed 0x40 c
    let s := s.injSpend 0x40 c
    s.cond (inj || real.contains c) fun s =>
      (s.raise F.THERM_STATUS_CH_SPLIT).detectWith inj 0x40 c (s.word R.THERM_TJ % 65536)) s

/-- Events and actions of the voted decision. -/
def State.thermAct (s : State) (d : LevelStep) (pred : Nat) (stop trip : Bool) : State :=
  let s := s.settleCores.set F.THERM_STATUS_LEVEL d.level
  let s := (s.cond d.warn (·.raise F.THERM_EVT_WARN_EV)).cond d.throttle (·.raise F.THERM_EVT_THROTTLE_EV)
  let s := s.cond d.entered (·.inc F.THERM_THROTTLES_CNT)
  let s := s.cond d.stop (·.enterStop pred stop)
  s.cond d.trip (·.enterTrip trip)

/-- Domain powers of the update go into their registers; the samples are used up. -/
def State.putPowers (s : State) : State :=
  let doms := (List.range 10).map s.domPower
  let s := doms.zipIdx.foldl (fun s (v, d) => s.set (F.THERM_DOM_PWR_MW d) v) s
  { s with therm := { s.therm with samples := [] } }

/-- One update. -/
def State.thermalUpdate (s : State) (us : List NodeUpset) : State :=
  if s.inReset == some .powerOn || s.inReset == some .brownOut then s
  else
    let s := s.putPowers
    let doms := (List.range 10).map (fun d => s.get (F.THERM_DOM_PWR_MW d))
    let stop := s.injArmed 0x43 0
    let trip := s.injArmed 0x44 0
    let s := (s.injSpend 0x43 0).injSpend 0x44 0
    let tb := s.boundary
    let cs := s.therm.chans.zipIdx.map (fun (c, i) => (c.upset i us).update tb doms stop trip)
    let (d, shown, real, chans) := thermVote cs
    let s := { s with therm := { s.therm with chans := chans, shown := shown } }
    let nodes := (chans.getD shown {}).nodes
    let pred := predTrip tb doms nodes
    let s := s.cond (real.isEmpty && !(cs.all (fun c => c.2 == d))) (·.raise F.THERM_STATUS_CH_SPLIT)
    let s := ((s.putTemps nodes pred).windowStop).thermDissent real
    s.thermAct d pred stop trip

/-- The power-sense cores measure (POWER_SENSE_SAMPLE, R733). -/
def State.powerSample (s : State) (mw : List Nat) : State :=
  if s.inReset == some .powerOn || s.inReset == some .brownOut then s
  else { s with therm := { s.therm with samples := s.therm.samples ++ [mw] } }

/-! ## The board sensor (BND_READ, R735) -/

/-- A reading in 1/256 °C; none where it lies outside −40 °C to 150 °C. -/
def bndValue (swap : Bool) (raw : Nat) : Option Int :=
  let v := raw % 65536
  let t := signed 16 (if swap then v % 256 * 256 + v / 256 else v)
  if -40 * 256 ≤ t ∧ t ≤ 150 * 256 then some t else none

/-- A failed read. -/
def State.bndFails (s : State) (inj : Bool) : State :=
  let s := s.inc F.THERM_BND_FAILS_CNT
  let s := s.cond (s.therm.good || inj) (fun s => s.detectWith inj 0x42 0 (s.word R.THERM_BND_FAILS))
  let fails := s.therm.fails + 1
  let s := { s with therm := { s.therm with fails := fails, good := false } }
  s.cond (fails == 3) fun s => (s.raise F.THERM_STATUS_BND_FALLBACK).raise F.THERM_EVT_BND_EV

/-- A good read. -/
def State.bndGood (s : State) (t : Int) : State :=
  let s := { s with therm := { s.therm with sensed := some t, fails := 0, good := true } }
  s.cond (s.flag F.THERM_STATUS_BND_FALLBACK) fun s =>
    (s.drop F.THERM_STATUS_BND_FALLBACK).raise F.THERM_EVT_BND_EV

/-- The board sensor is read; the read waits while its port is BUSY (R833). -/
def State.bndRead (s : State) (r : BndResult) : State :=
  let port := s.get F.THERM_BND_CFG_BND_PORT
  if s.inReset.isSome || s.plan.isNone || !s.flag F.THERM_BND_CFG_SRC || s.flag (F.I2C_STAT_BUSY port) then s
  else
    let inj := s.injArmed 0x42 0
    let s := s.injSpend 0x42 0
    let s := s.emit (.i2c port 3 (s.get F.THERM_BND_CFG_BND_ADDR) (bytesLE 1 (s.get F.THERM_BND_CFG_BND_CMD)))
    match r with
    | .fail => s.bndFails inj
    | .value raw =>
      match if inj then none else bndValue (s.flag F.THERM_BND_CFG_BND_SWAP) raw with
      | some t => s.bndGood t
      | none => s.bndFails inj

/-! ## Reads -/

/-- BELOW_MS and REARM_OK (R746, R754). -/
def State.belowMs (s : State) : Nat :=
  sat 32 ((s.ns - s.therm.hotNs) / 1000000)
def State.rearmOk (s : State) : Bool :=
  s.get F.THERM_STATUS_DISPLAY == 2 && decide (5000 ≤ s.belowMs)

/-- A read of TJ_PEAK (TJ_PEAK_READ, R754). -/
def State.tjPeakRead (s : State) : Nat × State :=
  (s.get F.THERM_TJ_PEAK_PEAK, s.set F.THERM_TJ_PEAK_PEAK (s.get F.THERM_TJ_TJ))

end Sys2Proof.Machine
end

