-- ==== Sys2Proof/Machine/SecOps.lean ====
section
/-! DEFINITION. The security controller (chapter 21): OTP, the mailbox and its commands, identity, key store, debug. -/

namespace Sys2Proof.Machine

/-- Identifier of the security controller's checker (R756). -/
def secMaster : Nat := 0xB

/-- A byte string cut or filled with zeros to `n` bytes. -/
def fit (n : Nat) (bs : List Byte) : List Byte :=
  (bs ++ List.replicate n 0).take n

/-- DIE_ID (R759). (DESIGN CHOICE, log 6.) -/
def State.dieId (s : State) : List Byte := fit 16 s.otp.dieId

/-! ## OTP by word (R759 to R761)

This model numbers the words that the controller programs: LC_WORDS 0 to 8; slot k from 16 × (k + 1), hash words 0 to 11 and
the revocation word 12; floor words from 96; debug hash from 112, its valid word 124; boundary constant 128, its valid word
129. -/

def otpGet (o : Otp) (n : Nat) : Nat :=
  if n < 9 then nth 0 o.lcWords n
  else if n < 96 then
    let k := nth {} o.planKeys (n / 16 - 1)
    if n % 16 = 12 then k.revWord else nth 0 k.hash (n % 16)
  else if n < 112 then nth 0 o.floors (n - 96)
  else if n < 124 then nth 0 o.debugHash (n - 112)
  else if n = 124 then o.debugValid
  else if n = 128 then o.bndConst
  else o.bndValid

def otpPut (o : Otp) (n v : Nat) : Otp :=
  if n < 9 then { o with lcWords := o.lcWords.set n v }
  else if n < 96 then
    let k := nth {} o.planKeys (n / 16 - 1)
    let k := if n % 16 = 12 then { k with revWord := v } else { k with hash := k.hash.set (n % 16) v }
    { o with planKeys := o.planKeys.set (n / 16 - 1) k }
  else if n < 112 then { o with floors := o.floors.set (n - 96) v }
  else if n < 124 then { o with debugHash := o.debugHash.set (n - 112) v }
  else if n = 124 then { o with debugValid := v }
  else if n = 128 then { o with bndConst := v }
  else { o with bndValid := v }

/-- A marker word as the controller programs it. -/
def markerWord : Nat := 0xFFFFFFFF

/-- A slot whose twelve hash words have been programmed is enrolled (R760). -/
def otpEnrolled (o : Otp) (n : Nat) : Otp :=
  if 16 ≤ n ∧ n < 80 ∧ n % 16 = 11 then
    { o with planKeys := o.planKeys.set (n / 16 - 1) { nth {} o.planKeys (n / 16 - 1) with enrolled := true } }
  else o

/-- One word programmed: bits go from 0 to 1 only. (DEDUCED, log 61.) -/
def State.otpWord (s : State) (n v : Nat) : State :=
  { s with otp := otpPut s.otp n (otpGet s.otp n ||| v) }

/-- A read-back that fails (R761). -/
def State.otpFail (s : State) (n : Nat) (inj : Bool) : State :=
  s.detectWith inj 0x4C 0 (Config.otpWord n)

/-- Words programmed one by one with read-back (R761): whether all verified. `bad` is the position of a word whose bits do
not all take; which of them do is free. -/
def State.otpProgram (bad : Option Nat) : List (Nat × Nat) → Nat → State → Bool × State
  | [], _, s => (true, s)
  | (n, v) :: t, i, s =>
    let inj := s.injArmed 0x4C 0
    let s := s.injSpend 0x4C 0
    if bad = some i then (false, (((s.otpWord n (v &&& s.freeValue 32)).useFree).otpFail n inj))
    else
      let s := s.otpWord n v
      if inj || otpGet s.otp n != v then (false, s.otpFail n inj)
      else State.otpProgram bad t (i + 1) { s with otp := otpEnrolled s.otp n }

/-- The debug key is valid (R760, R768). -/
def State.debugKey (s : State) : Bool := programmed s.otp.debugValid

/-! ## STATUS (R773) -/

/-- STATUS and PLAN_FLOOR as the controller reads them. -/
def State.secSnapshot (s : State) : State :=
  let bits := fun (f : PlanKey → Bool) => (List.range 4).foldl (fun v k => v + b2n (f (nth {} s.otp.planKeys k)) * 2 ^ k) 0
  let s := (s.set F.SEC_STATUS_LIFECYCLE s.lifecycle).set F.SEC_STATUS_ENROLLED (bits PlanKey.isEnrolled)
  let s := (s.set F.SEC_STATUS_REVOKED (bits PlanKey.isRevoked)).put F.SEC_STATUS_DEBUG_KEY s.debugKey
  let s := s.set F.SEC_STATUS_FLOOR_USED (s.otp.floors.filter (· != 0)).length
  s.setWord R.SEC_PLAN_FLOOR s.planFloor

/-- The lifecycle state has changed (R763, R812). -/
def State.lifecycleMoved (s : State) (inj : Bool) : State :=
  ((s.disarmAll).raise F.SEC_EVT_LIFECYCLE_EV).detectWith inj 0x4D 0 s.lifecycle

/-! ## The key store (R757) -/

/-- Flash offset of a key-store copy. -/
def storeBase (copy : Nat) : Nat := 0x03000000 + copy * 0x10000

/-- The working copy goes to the other flash copy under the next generation. -/
def State.storeWrite (s : State) (keys : List (Nat × List Byte)) : State :=
  let copy := 1 - s.sec.copy
  let gen := s.sec.gen + 1
  let s := (s.flashErase (storeBase copy) 0x10000).flashStore (storeBase copy) ((Config.storeSeal gen keys).take 0x10000)
  ({ s with sec := { s.sec with keys := keys, gen := gen, copy := copy } }).raise F.SEC_STATUS_KEYSTORE_OK

/-- A copy as read: none where it is not authentic, or an injection says so. -/
def State.storeRead (s : State) (copy : Nat) : Option (Nat × List (Nat × List Byte)) × State :=
  let inj := s.injArmed 0x4B copy
  let s := s.injSpend 0x4B copy
  match if inj then none else Config.storeOpen (s.flashBytes (storeBase copy) 0x10000) with
  | some x => (some x, s)
  | none => (none, s.detectWith inj 0x4B copy 0)

/-- The store loaded from a copy. (DEDUCED, log 63.) -/
def State.storeTake (s : State) (copy : Nat) (x : Nat × List (Nat × List Byte)) : State :=
  ({ s with sec := { s.sec with keys := x.2, gen := x.1, copy := copy } }).raise F.SEC_STATUS_KEYSTORE_OK

/-- The load at start (KEYSTORE_LOAD): the authentic copy with the higher generation. -/
def State.keystoreLoad (s : State) : State :=
  if s.inReset.isSome || !s.holdsFlash .security || s.flag F.SEC_STATUS_KEYSTORE_OK || s.sec.cmd.isSome then s
  else
    let (a, s) := s.storeRead 0
    let (b, s) := s.storeRead 1
    let s := s.freeFlash .security
    match a, b with
    | some x, some y => if x.1 < y.1 then s.storeTake 1 y else s.storeTake 0 x
    | some x, none => s.storeTake 0 x
    | none, some y => s.storeTake 1 y
    | none, none => { s.drop F.SEC_STATUS_KEYSTORE_OK with sec := { s.sec with keys := [] } }

/-- Retirement after its words (R764): both key-store areas become zeros and every bit of the PUF helper data 1. -/
def State.retireRest (s : State) : State :=
  let s := s.flashStore (storeBase 0) (List.replicate 0x20000 0)
  { s with otp := { s.otp with pufDestroyed := true } }

/-- Steps of a transition that a reset cut short, at start (R764). -/
def State.lifecycleResume (s : State) : State :=
  let third := fun (s : State) (k : Nat) =>
    if lcAt s.otp.lcWords k then (List.range 3).foldl (fun s i => s.otpWord (3 * k + i) markerWord) s else s
  let s := (List.range 3).foldl third s
  s.cond (s.lifecycle == 3 && !s.otp.pufDestroyed) (·.retireRest)

/-! ## Mailbox data -/

/-- MB_DATA word `i`. -/
def State.mb (s : State) (i : Nat) : Nat := s.word (R.SEC_MB_DATA i)

/-- MB_DATA as bytes, word 0 first and low byte first. -/
def State.mbBytes (s : State) : List Byte := (List.range 32).flatMap (fun i => bytesLE 4 (s.mb i))

/-- A result goes into MB_DATA from its first byte. -/
def State.putMb (s : State) (bs : List Byte) : State :=
  let all := bs ++ s.mbBytes.drop bs.length
  (List.range 32).foldl (fun s i => s.setWord (R.SEC_MB_DATA i) (leAt all (4 * i) 4)) s

def State.mbBuf (s : State) : Nat := s.addrPair R.SEC_MB_BUF_LO R.SEC_MB_BUF_HI

/-! ## Authorisation (R765, R766, R769) -/

/-- The commands (R765). -/
def secOps : List Nat := [0x01, 0x02, 0x03, 0x04, 0x10, 0x11, 0x12, 0x13, 0x14, 0x15, 0x20, 0x21, 0x22, 0x23]

/-- The state permits the command (R763, R765). -/
def State.opAllowed (s : State) (op : Nat) : Bool :=
  let lc := s.lifecycle
  if op = 0x04 then true
  else if op ≤ 0x03 ∨ op = 0x10 ∨ op = 0x11 ∨ op = 0x12 then lc != 3
  else if op = 0x14 ∨ op = 0x15 then decide (lc ≤ 1)
  else if op = 0x13 then
    let goal := s.mb 0 % 4
    lc != 3 && (goal == 3 || (goal == lc + 1 && s.otp.planKeys.any (fun k => k.isEnrolled && !k.isRevoked)))
  else lc == 1 || lc == 2

/-- The command needs an authorisation block. -/
def State.opAuth (s : State) (op : Nat) : Bool :=
  s.lifecycle == 2 && ([0x10, 0x11, 0x12, 0x13, 0x20, 0x21] : List Nat).contains op

/-- The command needs the identity key. -/
def State.opIdentity (s : State) (op : Nat) : Bool :=
  op == 0x01 || s.opAuth op

/-- The command programs or erases flash. -/
def State.opFlash (s : State) (op : Nat) : Bool :=
  op == 0x20 || op == 0x21 || (op == 0x13 && s.mb 0 % 4 == 3)

/-- The authorisation block holds (R766). -/
def State.authHolds (s : State) (op master : Nat) (blk : List Byte) : Bool :=
  match s.sec.nonce with
  | none => false
  | some (m, nonce) =>
    let pub := slice blk 112 97
    let tag : List Byte := [0x49, 0x47, 0x41, 0x55, 0x54, 0x48, 0x31]
    let msg := tag ++ s.dieId ++ nonce ++ bytesLE 1 op ++ s.mbBytes
    m == master && s.keyInSlot (leAt blk 0 1) pub &&
    Config.ecdsaVerify pub (Config.sha384 msg) (slice blk 16 48) (slice blk 64 48)

/-- Authorisation of a command: 0, or the code it fails with. (DEDUCED, log 63.) -/
def State.authorise (s : State) (op master : Nat) : Nat × State :=
  if !s.opAuth op then (0, s)
  else
    let inj := s.injArmed 0x4F master
    let s := s.injSpend 0x4F master
    match s.unitRead secMaster s.mbBuf 209 with
    | (none, s) => (0x0C, s)
    | (some blk, s) =>
      let good := s.authHolds op master blk && !inj
      let s := { s with sec := { s.sec with nonce := none } }
      if good then (0, s) else (3, s.detectWith inj 0x4F master op)

/-! ## The commands one by one -/

/-- OTP words that a command programs, or the code it fails with (R763, R767). -/
def State.otpWords (s : State) (op : Nat) : Nat × List (Nat × Nat) :=
  let slot := s.mb 0 % 4
  let key := fun k => nth {} s.otp.planKeys k
  let hash := fun base => (List.range 12).map (fun i => (base + i, s.mb (i + 1)))
  match op with
  | 0x10 => if (key slot).isEnrolled then (4, []) else (0, hash (16 * (slot + 1)))
  | 0x11 =>
    if (List.range 4).any (fun k => k != slot && (key k).isEnrolled && !(key k).isRevoked) then
      (0, [(16 * (slot + 1) + 12, markerWord)])
    else (5, [])
  | 0x12 =>
    match s.plan with
    | none => (0x0E, [])
    | some p =>
      let used := s.otp.floors.zipIdx.foldl (fun m (v, i) => if v ≠ 0 then i + 1 else m) 0
      if !(decide (s.planFloor < s.mb 0 ∧ s.mb 0 ≤ p.planSeq)) then (6, [])
      else if 16 ≤ used then (7, []) else (0, [(96 + used, s.mb 0)])
  | 0x13 => (0, (List.range 3).map (fun i => (3 * (slot - 1) + i, markerWord)))
  | 0x14 => if s.debugKey then (4, []) else (0, hash 112 ++ [(124, markerWord)])
  | 0x15 => if programmed16 s.otp.bndValid then (4, []) else (0, [(128, s.mb 0 % 65536), (129, 0xFFFF)])
  | _ => (0, [])

/-- A command on OTP: its code. -/
def State.otpRun (s : State) (op : Nat) (bad : Option Nat) : Nat × State :=
  match s.otpWords op with
  | (0, ws) =>
    if !s.flag F.THERM_STATUS_WRITE_OK then (8, s)
    else
      let lc := s.lifecycle
      let inj := op == 0x13 && s.injArmed 0x4D 0
      let s := s.cond (op == 0x13) (·.injSpend 0x4D 0)
      let (ok, s) := State.otpProgram bad ws 0 s
      let s := s.cond (s.lifecycle != lc || inj) (·.lifecycleMoved inj)
      let s := s.cond (op == 0x13 && s.lifecycle == 3) (·.retireRest)
      (if ok then 0 else 9, s)
  | (code, _) => (code, s)

/-- The record of a KEY_PUT (R765, R766): in FIELD it follows the authorisation block and is encrypted. -/
def State.keyRecord (s : State) : Nat × List Byte × State :=
  if s.lifecycle ≠ 2 then
    match s.unitRead secMaster s.mbBuf Config.recordSize with
    | (some bs, s) => (0, bs, s)
    | (none, s) => (0x0C, [], s)
  else match s.unitRead secMaster (s.mbBuf + 209) (97 + Config.recordSize + 16) with
  | (none, s) => (0x0C, [], s)
  | (some bs, s) =>
    let info : List Byte := [0x49, 0x47, 0x4B, 0x50, 0x31]
    match Config.gcmOpen (Config.deriveKey Config.identityKey (bs.take 97) info) (bs.drop 97) with
    | some r => (0, r, s)
    | none => (0x0B, [], s)

/-- KEY_PUT. (DESIGN CHOICE, log 62.) -/
def State.keyPut (s : State) : Nat × State :=
  match s.keyRecord with
  | (0, r, s) =>
    match Config.recordEntry r with
    | none => (4, s)
    | some id =>
      if 64 ≤ id ∨ s.sec.keys.any (fun k => k.1 == id) then (4, s)
      else if 63 ≤ s.sec.keys.length then (0x0A, s)
      else if !s.flag F.THERM_STATUS_WRITE_OK then (8, s)
      else (0, (s.storeWrite (Tbl.ins id r s.sec.keys)).setWord (R.SEC_MB_DATA 0) id)
  | (code, _, s) => (code, s)

/-- KEY_DELETE. -/
def State.keyDelete (s : State) : Nat × State :=
  let id := s.mb 0 % 64
  if !s.sec.keys.any (fun k => k.1 == id) then (0x0A, s)
  else if !s.flag F.THERM_STATUS_WRITE_OK then (8, s)
  else (0, s.storeWrite (Tbl.del s.sec.keys id))

/-- A key of the store. -/
def State.storeKey (s : State) (id : Nat) : Option (List Byte) :=
  (s.sec.keys.find? (fun k => k.1 == id)).map (·.2)

/-- MACSEC_SAK (R767). -/
def State.installSak (s : State) : Nat × State :=
  let v := s.mb 0
  match s.storeKey (bitsOf v 13 8) with
  | none => (0x0A, s)
  | some cak =>
    match Config.unwrapSak cak (slice s.mbBytes 4 40) with
    | none => (0x0B, s)
    | some sak =>
      let k : Sak := { port := v % 8, an := bitsOf v 5 4, rx := bitOf v 6,
                       key := sak ++ bytesLE 1 (bitsOf v 16 16) ++ slice s.mbBytes 44 12 }
      (0, { s with saks := k :: s.saks.filter (fun x => !(x.port == k.port && x.an == k.an && x.rx == k.rx)) })

/-- MKA_ICV. -/
def State.icv (s : State) : Nat × State :=
  let (id, n) := Config.mkaArgs (s.mb 0)
  match s.storeKey id with
  | none => (0x0A, s)
  | some cak =>
    match s.unitRead secMaster s.mbBuf n with
    | (none, s) => (0x0C, s)
    | (some msg, s) => (0, s.putMb (fit 16 (Config.mkaIcv cak msg)))

/-- GET_NONCE. (DEDUCED, log 63.) -/
def State.giveNonce (s : State) (master : Nat) : Nat × State :=
  let n := fit 32 (Config.random s.free)
  (0, (({ s with sec := { s.sec with nonce := some (master, n) } }).useFree).putMb n)

/-- What a command does once it is permitted and authorised: its code. -/
def State.secRun (s : State) (op master : Nat) (bad : Option Nat) : Nat × State :=
  match op with
  | 0x01 => (0, s.putMb (fit 97 Config.identityKey ++ s.dieId))
  | 0x02 => (0, s.putMb (fit 96 s.otp.devCert))
  | 0x03 => s.giveNonce master
  | 0x04 => (0, s.secSnapshot)
  | 0x20 => s.keyPut
  | 0x21 => s.keyDelete
  | 0x22 => s.installSak
  | 0x23 => s.icv
  | _ => s.otpRun op bad

/-- The checks of a command in their order, and its effect (R769). (DEDUCED, log 63.) -/
def State.secExec (s : State) (op master : Nat) (bad : Option Nat) : Nat × State :=
  if !s.opAllowed op then (2, s)
  else if s.opIdentity op && !s.flag F.SEC_STATUS_ID_OK then (0x0D, s)
  else match s.authorise op master with
  | (0, s) => s.secRun op master bad
  | (code, s) => (code, s)

/-- A command ends with a code. -/
def State.mbEnd (s : State) (code : Nat) : State :=
  let s := (s.set F.SEC_MB_STAT_CODE code).raise F.SEC_EVT_MB_EV
  s.raise (if code = 0 then F.SEC_MB_STAT_DONE else F.SEC_MB_STAT_FAIL)

/-- The running command ends (MAILBOX_COMMAND_END). -/
def State.mailboxEnd (s : State) (bad : Option Nat) : State :=
  match s.sec.cmd with
  | none => s
  | some (op, master) =>
    if s.inReset.isSome || (s.opFlash op && !s.holdsFlash .security) then s
    else
      let (code, s) := s.secExec op master bad
      let s := ({ s with sec := { s.sec with cmd := none } }).freeFlash .security
      (s.drop F.SEC_MB_STAT_BUSY).mbEnd code

/-- A write of MB_CMD (R765, R766, R775, R776). -/
def State.writeMbCmd (s : State) (w : Wr) : State :=
  s.guarded G.SEC_MB_CMD w fun s =>
    let op := w.data.toNat % 256
    if bitsOf w.data.toNat 31 24 ≠ 0xA5 then s
    else if !secOps.contains op then s.unpredictable w.master 0 everywhere
    else
      let nonce := s.sec.nonce.filter (fun n => n.1 == w.master)
      let s := { s with sec := { s.sec with nonce := nonce } }
      if s.flag F.SEC_MB_STAT_BUSY then s.mbEnd 1
      else
        let s := (s.raise F.SEC_MB_STAT_BUSY).set F.SEC_MB_MASTER_MASTER w.master
        let s := { s with sec := { s.sec with cmd := some (op, w.master) } }
        s.cond (s.opFlash op) (·.askFlash .security)

/-- A write of MB_DATA or MB_BUF: ignored while BUSY is 1 (R775). -/
def State.mbFrozen (s : State) (a : Nat) : Bool :=
  s.flag F.SEC_MB_STAT_BUSY && (a == R.SEC_MB_BUF_LO || a == R.SEC_MB_BUF_HI ||
    decide (R.SEC_MB_DATA 0 ≤ a ∧ a ≤ R.SEC_MB_DATA 31))

/-- What a reset leaves in OTP of a command that it cuts short (R764): some number of its words. -/
def State.otpCut (s : State) : State :=
  match s.sec.cmd with
  | none => s
  | some (op, _) =>
    match s.otpWords op with
    | (0, ws) =>
      if !s.opAllowed op || !s.flag F.THERM_STATUS_WRITE_OK || s.opAuth op then s
      else
        let k := Config.freeValue s.free % (ws.length + 1)
        (ws.take k).foldl (fun s (n, v) => ({ s.otpWord n v with otp := otpEnrolled (s.otpWord n v).otp n })) s.useFree
    | _ => s

/-! ## Identity and debug (R758, R768) -/

/-- The identity key is reconstructed, or not (ID_RECONSTRUCT). -/
def State.idReconstruct (s : State) (ok : Bool) : State :=
  if s.inReset.isSome || s.flag F.SEC_STATUS_ID_OK then s
  else
    let inj := s.injArmed 0x4A 0
    let s := s.injSpend 0x4A 0
    if ok && !inj && !s.otp.pufDestroyed then
      let h := fit 48 (Config.sha384 Config.identityKey)
      (List.range 12).foldl (fun s i => s.setWord (R.SEC_ID_HASH i) (leAt h (4 * i) 4)) (s.raise F.SEC_STATUS_ID_OK)
    else (s.raise F.SEC_EVT_ID_FAIL_EV).detectWith inj 0x4A 0 0

/-- A fresh debug challenge. -/
def State.newChallenge (s : State) : State :=
  ({ s with sec := { s.sec with challenge := s.free } }).useFree

/-- A signature over the challenge at the debug access port (DEBUG_UNLOCK). (DEDUCED, log 63.) -/
def State.debugUnlock (s : State) (pub sigR sigS : List Byte) : State :=
  if s.inReset.isSome || s.lifecycle != 2 || !s.debugKey || s.flag F.SEC_STATUS_DEBUG_UNLOCKED then s
  else
    let inj := s.injArmed 0x4E 0
    let s := s.injSpend 0x4E 0
    let tag : List Byte := [0x49, 0x47, 0x44, 0x42, 0x47, 0x31]
    let msg := tag ++ s.dieId ++ fit 32 (Config.random s.sec.challenge)
    let good := decide (Config.sha384 pub = s.otp.debugHash.flatMap (bytesLE 4)) &&
      Config.ecdsaVerify pub (Config.sha384 msg) sigR sigS
    let s := s.newChallenge.cond good (·.raise F.SEC_STATUS_DEBUG_UNLOCKED)
    s.cond (good || inj) fun s => (s.raise F.SEC_EVT_DEBUG_EV).detectWith inj 0x4E 0 0

end Sys2Proof.Machine
end

