-- ==== Sys2Proof/Machine/ClkOps.lean ====
section
/-! DEFINITION. Clocks, the watchdog, control cores and the boot image (chapter 22), doorbells, GPIO and I2C (chapter 24). -/

namespace Sys2Proof.Machine

/-! ## REFCLK and the island (R779, R784) -/

/-- A window of the AON clock counted a number of REFCLK edges within ±5 % of 1,000. -/
def goodWindow (edges : Nat) : Bool :=
  decide (950 ≤ edges ∧ edges ≤ 1050)

/-- REFCLK_OK follows the last window while the part runs. -/
def State.refclkOk (s : State) (good : Bool) : State :=
  if s.inReset.isSome || s.flag F.CLKRST_STAT_REFCLK_OK == good then s
  else (s.put F.CLKRST_STAT_REFCLK_OK good).raise F.CLKRST_EVT_REFCLK_EV

/-- REFCLK is lost (R779): TWIN_ACT stays low until the next reset. -/
def State.refclkLost (s : State) (inj : Bool) (edges : Nat) : State :=
  ({ s with twin := { s.twin with actHold := true } }).detectWith inj 0x51 0 edges

/-- The end of a window (REFCLK_CHECK). -/
def State.refclkCheck (s : State) (edges : Nat) : State :=
  let good := goodWindow edges
  let bad := if good then 0 else min 4 (s.clk.bad + 1)
  let s := { s with clk := { s.clk with good := if good then min 10 (s.clk.good + 1) else 0, bad := bad } }
  if s.inReset.isSome then s
  else
    let inj := s.injArmed 0x51 0
    let s := (s.injSpend 0x51 0).refclkOk good
    s.cond (inj || bad == 3) (·.refclkLost inj edges)

/-- The island's channels split among all three (AON_SPLIT). (DEDUCED, log 68.) -/
def State.aonSplit (s : State) : State :=
  if s.inReset == some .powerOn then s
  else
    let inj := s.injArmed 0x53 0
    let s := ((s.injSpend 0x53 0).raise F.CLKRST_STAT_AON_SPLIT).raise F.CLKRST_EVT_AON_SPLIT_EV
    s.detectWith inj 0x53 0 0

/-- One channel of the island dissents and is overwritten (AON_DISSENT). (DEDUCED, log 65; DEDUCED, log 68.) -/
def State.aonDissent (s : State) (ch : Nat) : State :=
  if s.inReset == some .powerOn || 3 ≤ ch then s
  else
    let inj := s.injArmed 0x52 ch
    (s.injSpend 0x52 ch).detectWith inj 0x52 ch 0

/-! ## The watchdog (R798) -/

/-- TIMEOUT in ns. -/
def State.wdogLimit (s : State) : Nat :=
  max 1 (s.get F.CLKRST_WDOG_CFG_TIMEOUT) * 1000000

/-- WDOG_LEFT in ms. -/
def State.wdogLeft (s : State) : Nat :=
  if s.flag F.CLKRST_WDOG_CFG_EN then (s.wdogLimit - (s.ns - s.clk.wdogNs)) / 1000000 else 0

/-- The count starts again. -/
def State.wdogRestart (s : State) : State :=
  { s with clk := { s.clk with wdogNs := s.ns } }

/-- First and last register of the control cores, to which R801 confines an outcome. -/
def State.coreUnpred (s : State) (master k : Nat) : State :=
  s.unpredictable master (R.CC_CTRL k) (R.CC_STAT k)

/-- A write of WDOG_CFG (WDOG_CFG_WRITE, R801). -/
def State.writeWdogCfg (s : State) (w : Wr) : State :=
  s.guarded G.CLKRST_WDOG_CFG w fun s =>
    if s.flag F.CLKRST_WDOG_CFG_EN && s.flag F.CLKRST_WDOG_CFG_LOCK then s
    else if 2 ≤ bitsOf w.data.toNat 29 28 then s.unpredictable w.master (R.CC_CTRL 0) (R.CC_STAT 7)
    else
      let s := s.plainWrite w R.CLKRST_WDOG_CFG
      s.cond (s.flag F.CLKRST_WDOG_CFG_EN) (·.wdogRestart)

/-- A write of WDOG_KICK (WDOG_KICK). -/
def State.writeWdogKick (s : State) (w : Wr) : State :=
  s.guarded G.CLKRST_WDOG_KICK w fun s =>
    s.cond (bitsOf w.data.toNat 31 24 == 0xA5) fun s => s.wdogRestart.drop F.CLKRST_STAT_WDOG_FIRST

/-- The watchdog's time is up, or an injection says so. -/
def State.wdogDue (s : State) : Bool :=
  s.inReset.isNone && s.flag F.CLKRST_WDOG_CFG_EN &&
  (decide (s.wdogLimit ≤ s.ns - s.clk.wdogNs) || s.injArmed 0x55 0)

/-- A second expiry asks for a WARM reset (R780). -/
def State.wdogResets (s : State) : Bool :=
  s.flag F.CLKRST_STAT_WDOG_FIRST && s.get F.CLKRST_WDOG_CFG_ACTION == 1

/-- An expiry that is recorded. -/
def State.wdogRecord (s : State) : State :=
  let inj := s.injArmed 0x55 0
  let s := (s.injSpend 0x55 0).raise F.CLKRST_STAT_WDOG_FIRST
  ((s.raise F.CLKRST_EVT_WDOG_EV).detectWith inj 0x55 0 (s.word R.CLKRST_STAT)).wdogRestart

/-! ## Control cores (R787, R788, R799) -/

/-- The start address lies in the boot ROM or control SRAM. -/
def State.bootAddrOk (s : State) (k : Nat) : Bool :=
  let sp := spaceOf (s.addrPair (R.CC_BOOT_LO k) (R.CC_BOOT_HI k))
  sp == .rom || sp == .sram

/-- The state of a core after its CTRL has gone from `old` to `new`. -/
def ccNext (state old new : Nat) : Nat :=
  if state = 4 then 4
  else if bitOf new 0 then 3
  else if bitOf old 0 then 0
  else if state = 2 ∧ !bitOf new 1 then 0
  else state

/-- A write of CC[k].CTRL (CC_RESET_WRITE, CC_PARK_WRITE). -/
def State.writeCcCtrl (s : State) (k : Nat) (w : Wr) : State :=
  s.guarded (G.CC_CTRL k) w fun s =>
    if w.master = k then s
    else
      let old := s.word (R.CC_CTRL k)
      let new := w.data.toNat
      if bitOf old 0 && !bitOf new 0 && !s.bootAddrOk k then s.coreUnpred w.master k
      else (s.plainWrite w (R.CC_CTRL k)).set (F.CC_STAT_STATE k) (ccNext (s.get (F.CC_STAT_STATE k)) old new)

/-- A core waits for an interrupt (CC_WFI): a line that asserts already ends the wait at once. -/
def State.ccWfi (s : State) (k : Nat) : State :=
  if 8 ≤ k || s.inReset.isSome || s.get (F.CC_STAT_STATE k) != 0 then s
  else if s.flag (F.CC_CTRL_PARK k) then s.set (F.CC_STAT_STATE k) 2
  else s.cond (!(s.tgt k).line) (·.set (F.CC_STAT_STATE k) 1)

/-! ## The boot image (R789, R790) -/

/-- The boot ROM waits for a host image. -/
def State.bootWait (s : State) : State :=
  { s with clk := { s.clk with boot := none, waits := true } }

/-- A write of BOOT_CTRL (HOST_BOOT_GO, R800). -/
def State.writeBootCtrl (s : State) (w : Wr) : State :=
  s.guarded G.CLKRST_BOOT_CTRL w fun s =>
    s.cond (bitsOf w.data.toNat 31 24 == 0xA5 && bitOf w.data.toNat 0 && s.clk.waits) fun s =>
      ({ s with clk := { s.clk with boot := some 1, waits := false } }).raise F.CLKRST_BOOT_STAT_BUSY

/-- `n` bytes of the boot image. (DEDUCED, log 73.) -/
def State.bootRead (s : State) (host : Bool) (o n : Nat) : Option (List Byte) × State :=
  if host then s.unitRead 0 (s.addrPair R.CLKRST_BOOT_ADDR_LO R.CLKRST_BOOT_ADDR_HI + o) n
  else (if s.qspi.present then some (s.flashBytes o n) else none, s)

/-- The code of an image's signature block (R87, R790). -/
def State.bootSigCode (s : State) (img : List Byte) (size : Nat) : Nat :=
  let sig := img.drop (size - 256)
  let pub := slice sig 8 97
  let key := leAt sig 4 1
  if s.lifecycle = 0 ∧ !s.otp.planKeys.any PlanKey.isEnrolled then 0
  else if leAt sig 0 4 ≠ 0x47495350 then 0x11
  else if !(if key = 0xFF then decide (Config.sha384 pub = fit 48 s.otp.fwKeyHash) else s.keyInSlot key pub) then 0x15
  else if !Config.ecdsaVerify pub (Config.sha384 (img.take (size - 256))) (slice sig 0x70 48) (slice sig 0xA0 48) then 0x16
  else 0

/-- The image read and verified: its code, its bytes. -/
def State.bootCheck (s : State) (host : Bool) : Nat × List Byte × State :=
  if s.lifecycle = 3 then (0x33, [], s)
  else match s.bootRead host 0 64 with
  | (none, s) => (0x32, [], s)
  | (some h, s) =>
    let size := leAt h 8 4
    if leAt h 0 4 ≠ 0x47494254 ∨ leAt h 4 2 ≠ 0x0100 then (0x11, [], s)
    else if size % 64 ≠ 0 ∨ size < 4096 ∨ 3840 * 1024 < size then (0x13, [], s)
    else match s.bootRead host 64 (size - 64) with
    | (none, s) => (0x32, [], s)
    | (some rest, s) => (s.bootSigCode (h ++ rest) size, h ++ rest, s)

/-- A verification has ended: CC0 is at the entry point, or waits for a host image. -/
def State.bootEnd (s : State) (host : Bool) (code : Nat) (img : List Byte) : State :=
  let s := ((s.set F.CLKRST_BOOT_STAT_CODE code).raise F.CLKRST_BOOT_STAT_DONE).drop F.CLKRST_BOOT_STAT_BUSY
  let s := (s.cond host (·.raise F.CLKRST_EVT_BOOT_EV)).freeFlash .bootRom
  if code = 0 then
    (({ s with clk := { s.clk with boot := none } }).dmaWrite 0 sramBase img).2.raise F.CLKRST_STAT_BOOT_DONE
  else s.bootWait

/-- The boot ROM verifies an image (BOOT_IMAGE_VERIFY). -/
def State.bootVerify (s : State) : State :=
  match s.clk.boot with
  | none => s
  | some src =>
    let host := src == 1
    if s.inReset.isSome || (!host && !s.holdsFlash .bootRom) || (host && !s.flag F.MEMC_STATUS_INIT_DONE) then s
    else
      let (code, img, s) := s.bootCheck host
      s.bootEnd host code img

/-- HBM is trained and its tags are written (HBM_INIT_DONE, R559). -/
def State.hbmReady (s : State) : State :=
  if s.inReset.isSome then s else s.raise F.MEMC_STATUS_INIT_DONE

/-! ## Doorbells (R827) -/

/-- Writes of DB_SET and DB_CLR; DB_SET's register holds DOORBELL. -/
def State.writeDbSet (s : State) (w : Wr) : State :=
  s.guarded G.SYS_DB_SET w (·.plainWrite w R.SYS_DB_SET)
def State.writeDbClr (s : State) (w : Wr) : State :=
  s.guarded G.SYS_DB_CLR w fun s => s.setWord R.SYS_DB_SET (maskIn (s.word R.SYS_DB_SET) 0 w.data.toNat)

/-! ## GPIO (R829, R830) -/

/-- Identifier of the GPIO queue's checker (R830). -/
def gpioMaster : Nat := 0x61

/-- A record of a counted edge. -/
def State.gpioRecord (s : State) (pin : Nat) (level : Bool) : State :=
  let bs := s.inputBytes (s.get F.MISC_GQ_CFG_TB) 2 pin (b2n level) 0
  s.queueRecord gpioMaster (s.addrPair R.MISC_GQ_BASE_LO R.MISC_GQ_BASE_HI) (s.get F.MISC_GQ_CFG_Q_LOG2) F.MISC_GQ_WR_IDX
    F.MISC_GQ_RD_IDX F.MISC_GQ_DROPS_CNT F.MISC_EVT_GQ_OVF_EV F.MISC_EVT_GQ_EV bs

/-- A counted edge (GPIO_EDGE). (DEDUCED, log 65.) -/
def State.gpioEdge (s : State) (pin : Nat) (level : Bool) : State :=
  let pins := s.word R.MISC_GPIO_IN
  if 32 ≤ pin || s.inReset.isSome || bitOf pins pin == level then s
  else
    let s := s.setWord R.MISC_GPIO_IN (if level then pins + 2 ^ pin else pins - 2 ^ pin)
    let trig := s.gpioTrig pin
    let s := s.cond ((trig == 2 && level) || (trig == 3 && !level)) fun s =>
      s.setSrc (320 + pin) { s.src (320 + pin) with edge := true }
    s.cond (bitOf (s.word R.MISC_GPIO_QEN) pin) (·.gpioRecord pin level)

/-- A write of GPIO_QEN or of the queue's base or size: one that lays the queue in use over another ring or buffer in use is
UNPREDICTABLE (R840). -/
def State.writeGpioQueue (s : State) (w : Wr) (write : State → State) : State :=
  let t := write s
  if decide (t.areasOf .gpio ≠ s.areasOf .gpio) && t.inUseClash .gpio (t.areasOf .gpio) then
    s.unpredictable w.master R.MISC_GPIO_IN R.MISC_GQ_DROPS
  else t

/-- A write of GQ_RD (R840). -/
def State.writeGqRd (s : State) (w : Wr) : State :=
  s.guarded G.MISC_GQ_RD w fun s =>
    let rd := s.get F.MISC_GQ_RD_IDX
    if (s.get F.MISC_GQ_WR_IDX + 65536 - rd) % 65536 < (w.data.toNat + 65536 - rd) % 65536 then
      s.unpredictable w.master R.MISC_GPIO_IN R.MISC_GQ_DROPS
    else s.plainWrite w R.MISC_GQ_RD

/-! ## I2C (R832, R833) -/

/-- Data bytes of a controller. -/
def State.i2cBytes (s : State) (b : Nat) : List Byte :=
  (List.range 8).flatMap (fun i => bytesLE 4 (s.word (R.I2C_DATA b i)))

/-- A write of CMD (I2C_TRANSACTION, R840). -/
def State.writeI2cCmd (s : State) (b : Nat) (w : Wr) : State :=
  s.guarded (G.I2C_CMD b) w fun s =>
    let v := w.data.toNat
    if !bitOf v 31 || s.flag (F.I2C_STAT_BUSY b) || !s.flag (F.I2C_CFG_EN b) then s
    else
      let op := bitsOf v 27 24
      if op = 0 ∨ 3 < op then s.unpredictable w.master (R.I2C_CFG b) (R.I2C_DATA b 7)
      else
        let sent := if op = 2 then [] else (s.i2cBytes b).take (bitsOf v 12 8 + 1)
        let s := { s with i2c := Tbl.set (fun _ => 0) s.i2c b v }
        (s.raise (F.I2C_STAT_BUSY b)).emit (.i2c b op (bitsOf v 22 16) sent)

/-- Read bytes are stored from byte 0. -/
def State.putI2c (s : State) (b : Nat) (bs : List Byte) : State :=
  let all := bs ++ (s.i2cBytes b).drop bs.length
  (List.range 8).foldl (fun s i => s.setWord (R.I2C_DATA b i) (leAt all (4 * i) 4)) s

/-- A transaction ends (I2C_DONE); a timeout ends one only where CFG enables it. (DEDUCED, log 65.) -/
def State.i2cDone (s : State) (b result : Nat) (bs : List Byte) : State :=
  if 2 ≤ b || s.inReset.isSome || !s.flag (F.I2C_STAT_BUSY b) || 4 < result ||
      (result == 3 && !s.flag (F.I2C_CFG_SMBUS b)) then s
  else
    let v := Tbl.get (fun _ => 0) s.i2c b
    let s := { s with i2c := Tbl.set (fun _ => 0) s.i2c b 0 }
    let s := s.cond (result == 0 && decide (2 ≤ bitsOf v 27 24)) (·.putI2c b (fit (bitsOf v 4 0 + 1) bs))
    ((s.drop (F.I2C_STAT_BUSY b)).set (F.I2C_STAT_RESULT b) result).raise
      (if b = 0 then F.MISC_EVT_I2C0_EV else F.MISC_EVT_I2C1_EV)

end Sys2Proof.Machine
end

