-- ==== Sys2Proof/Machine/Latch.lean ====
section
/-! DEFINITION. The frame latch point of a head (R28, R390): what its frame gave, the commit, the stalls, the judgement, the
awning, Panel Self Refresh and the ports, in their order. -/

namespace Sys2Proof.Machine

/-! ## The judgement of a head -/

/-- The silent entry to which a stall is bound (R174). -/
def State.silentEntry (s : State) (n m : Nat) : Option Nat :=
  (s.entryOf n m).filter (fun i => s.flag (F.INGR_STAT_SILENT i))

/-- TIMEOUT holds for a stall: posted since the last latch, or held while its entry is silent (R174). One that becomes
bound to a silent entry at this latch has it posted after it. -/
def State.timeoutHeld (s : State) (n m : Nat) : Bool :=
  let f := s.fstall n m
  f.evTimeout || (match s.silentEntry n m with | some i => f.bound == some i | none => false)

/-- UNPLUG holds for a stall: its entry is that of a sink port from which the source has gone (R421). -/
def State.unplugHeld (s : State) (n m : Nat) : Bool :=
  match s.entryOf n m with
  | some i => s.unplugged.any (fun j => s.snkEntry j == some i)
  | none => false

/-- The first latch of head `n` after the part has taken over (R56). (DEDUCED, log 39.) -/
def State.takeoverLatch (s : State) (n : Nat) : Bool :=
  s.role == 5 && !(s.pairHead n).enabled

/-- The verdict held from the active part at that latch (R56); none while the plan hashes differ (R130). -/
def State.heldNow (s : State) (n m : Nat) : Option Nat :=
  if s.takeoverLatch n && s.sameHash then (s.fstall n m).held else none

/-- What the channels of head `n` judge stall `m` on. -/
def State.judgeIn (s : State) (n m : Nat) : JudgeIn :=
  let p := s.judgeParams n m
  let f := s.fstall n m
  { stamp := f.stamp, rebound := f.rebound, liveClass := s.liveClass n m, motion := p.1, budget := p.2.1,
    freezeWin := p.2.2.1, sigWin := p.2.2.2.1, hyst := p.2.2.2.2, tbs := s.tbSamples, timeout := s.timeoutHeld n m,
    unplug := s.unplugHeld n m, fault := f.evFetchFault, underrun := f.evUnderrun,
    aliveErr := s.injArmed 0x05 (n * 8 + m), takeover := s.takeoverLatch n, held := s.heldNow n m }

/-- Events of a stall that its judgement consumes (R48, R50). -/
def State.consume (s : State) (n m : Nat) : State :=
  let f := s.fstall n m
  s.setFstall n m { f with rebound := false, evFetchFault := false, evUnderrun := false,
                           held := if s.takeoverLatch n then none else f.held }

/-- The hold of a TIMEOUT over one latch ends, and a stall bound at this latch to a silent entry has it posted (R174). -/
def State.postBound (s : State) (n m : Nat) : State :=
  let f := s.fstall n m
  let e := s.entryOf n m
  s.setFstall n m { f with bound := e, evTimeout := (s.silentEntry n m).isSome && f.bound != e }

/-- Every judged stall of a head judged and voted (R28), and every unstamped one in fresh state (R50); the channels that
dissented. (DEDUCED, log 39.) -/
def State.judgeHead (s : State) (n : Nat) : List Nat × State :=
  let ms := s.judgedList n
  let (ds, s) := ms.foldl (fun (ds, s) m =>
    let (d, s) := s.judgeStall n m (s.judgeIn n m)
    (ds ++ d.toList, s.consume n m)) (([] : List Nat), s)
  let s := (List.range (s.stallCount n)).foldl (fun s m => (s.freshUnstamped n m).postBound n m) s
  (ds, s.set (F.FRESH_SUMMARY_JUDGED n) (ms.foldl (fun v m => v + 2 ^ m) 0))

/-- A shortfall of channels that is not yet a head fault becomes one (R376); it has an entry of its own where no channel
failed at this latch. (DEDUCED, log 41.) -/
def State.shortFault (s : State) (n k det : Nat) (ok : List Nat) (entry : Bool) : State :=
  if 2 ≤ ok.length ∨ bitOf (s.get (F.HEAD_STAT_FAULT_CAUSE n)) k then s
  else if entry then
    s.headFault n k det n ((List.range 3).foldl (fun a c => if ok.contains c then a else c) 0) false
  else
    let s := s.set (F.HEAD_STAT_FAULT_CAUSE n) (Nat.lor (s.get (F.HEAD_STAT_FAULT_CAUSE n)) (2 ^ k))
    (s.raise (F.HEAD_STAT_FAULT n)).raise (F.HEAD_EVT_FAULT_EV n)

/-- The shortfalls of FRESH and AWN (R375). -/
def State.shortFaults (s : State) (n : Nat) (entry : Bool) : State :=
  let s := s.shortFault n 2 0x02 (s.chansOk n) entry
  s.cond (s.hasPipe n) fun s => s.shortFault n 3 0x07 (s.awnOk n) entry

/-- The supervisor at a latch: shortfalls, judgement, channel failures, and whether the voted verdicts reach the awning in
time (R41). -/
def State.supervise (s : State) (n : Nat) : State :=
  let s := s.shortFaults n true
  let injD := (List.range 8).any (fun m => s.injArmed 0x01 (n * 8 + m))
  let (ds, s) := s.judgeHead n
  let s := s.countDissents n ds injD
  let late := s.injArmed 0x04 n
  let short := decide ((s.chansOk n).length < 2)
  let s := s.injSpend 0x04 n
  let s := s.setFhead n { s.fhead n with missed := if late then some true else if short then some false else none }
  s.shortFaults n false

/-! ## The awning at a latch -/

/-- The elements of the next frame drawn, or none on a slate (R314), with the bitmaps they need. -/
def State.drawElems (s : State) (n : Nat) (es : List Elem) : State :=
  let es := if s.flag (F.HEAD_STAT_SLATE n) then [] else es
  let s := s.fetchBitmaps n es
  let s := s.setAwn n { s.awn n with elems := es }
  let e := s.get (F.AWN_LAYOUT_ELEMENTS n)
  s.put (F.AWN_STAT_TIME_VARYING n) (bitOf e 1 || bitOf e 2 || !es.isEmpty)

/-- The awning of a head with a pipe at a latch (R298, R299, R305, R312). Where the verdicts miss the deadline, the frame's
elements, and so its picks, are those of R294 (`verdictLate`). (DEDUCED, log 40.) -/
def State.awningLatch (s : State) (n : Nat) : State :=
  if !s.hasPipe n then s
  else
    let s := (s.awnFrameEnd n).bundleLatch n
    let s := s.setAwn n { s.awn n with glyphs := [], picks := [] }
    let s := if (s.fhead n).missed.isSome then s.drawElems n (s.overlayElems n)
      else (s.drawElems n (s.awningElems n)).pick n
    (s.awnInjected n).shortFaults n false

/-- The verdicts of the last latch have missed the deadline (VERDICT_DEADLINE, R41, R294): the elements and the one pick of
that latch (R312). (DEDUCED, log 39.) -/
def State.verdictLate (s : State) (n : Nat) : State :=
  let f := s.fhead n
  match f.missed with
  | none => s
  | some inj =>
    if !s.headLive n || s.ns < (s.head n).lastLatchNs + 4000 then s
    else
      let s := s.setFhead n { f with missed := none }
      let s := s.cond (s.hasPipe n) fun s => (s.drawElems n (s.lateElems n)).pick n
      s.detectWith inj 0x04 n (s.word (R.FRESH_LATCH_CNT_LO n))

/-! ## Panel Self Refresh (R381 to R384) -/

/-- Conditions of R382 that fail at a latch, bit 0 for BLOCK bit 8: `busy` says that a snapshot applied, a slot was taken
or a bind is pending, `under` that the frame before underran, `slate` that a slate was shown. -/
def State.psrBlock (s : State) (n : Nat) (busy under slate : Bool) : Nat :=
  let port := (s.portOf n).1
  let allowed := (match s.res 0x05 n with | some p => bitOf p 7 | none => false) &&
    s.flag (F.HEAD_PSR_CTRL_EN n) && !(s.head n).psrCleared && s.flag (F.SRC_STAT_PSR_CAP port) && decide (100000 ≤ s.blankNs n)
  let calm := (s.judgedList n).all (fun m => emptyRect (s.markRect n m) ||
    (!s.liveClass n m && s.get (F.FSTALL_STATUS_SHOWN n m) == 0 && s.get (F.FSTALL_STATUS_RAW n m) == 0))
  bitsFrom [!allowed, !calm, s.flag (F.AWN_STAT_TIME_VARYING n), s.getLive (F.HEAD_DITHER_MODE n) == 2,
            busy || (s.head n).psrUpdate, under, slate || s.flag (F.HEAD_STAT_SLATE n)]

/-- Self-refresh left or the count of latches broken off. -/
def State.psrOff (s : State) (n : Nat) : State :=
  let s := s.setHead n { s.head n with psrRun := 0, psrDue := false }
  (s.set (F.HEAD_PSR_STAT_STATE n) 0).set (F.HEAD_PSR_STAT_HOLD_CNT n) 0

/-- Exit, signalled to the panel (R384, R418). -/
def State.psrExit (s : State) (n : Nat) (forced : Bool) : State :=
  (((s.psrOff n).emit (.psr (s.portOf n).1 false)).raise (F.HEAD_EVT_PSR_EV n)).cond forced (·.inc (F.HEAD_PSR_FORCED_CNT n))

/-- Entry at the FLP after the frame that carried the indication (R383). -/
def State.psrEnter (s : State) (n : Nat) : State :=
  let s := s.setHead n { s.head n with psrRun := 0, psrDue := false }
  let s := (s.set (F.HEAD_PSR_STAT_STATE n) 2).set (F.HEAD_PSR_STAT_HOLD_CNT n) 0
  (s.inc (F.HEAD_PSR_ENTRIES_CNT n)).raise (F.HEAD_EVT_PSR_EV n)

/-- A latch counted towards entry (R383): the frame after the last one carries the entry indication (R418). -/
def State.psrCount (s : State) (n : Nat) : State :=
  let k := (s.head n).psrRun + 1
  let s := s.set (F.HEAD_PSR_STAT_STATE n) 1
  let due := decide (max 2 (s.get (F.HEAD_PSR_CTRL_ENTRY_LATCHES n)) ≤ k)
  (s.setHead n { s.head n with psrRun := k, psrDue := due }).cond due (·.emit (.psr (s.portOf n).1 true))

/-- Panel Self Refresh at a latch. (DEDUCED, log 40.) -/
def State.psrLatch (s : State) (n : Nat) (busy under slate : Bool) : State :=
  let block := s.psrBlock n busy under slate
  let s := s.set (F.HEAD_PSR_STAT_BLOCK n) block
  let s := s.cond (s.get (F.HEAD_PSR_STAT_STATE n) == 2) (·.inc (F.HEAD_PSR_STAT_HOLD_CNT n))
  let s := s.cond (s.head n).psrDue (·.psrEnter n)
  if s.get (F.HEAD_PSR_STAT_STATE n) = 2 then
    let forced := decide (max 1 (s.get (F.HEAD_PSR_CTRL_MAX_HOLD n)) ≤ s.get (F.HEAD_PSR_STAT_HOLD_CNT n))
    if block ≠ 0 ∨ forced then s.psrExit n forced else s
  else if block = 0 then s.psrCount n
  else s.psrOff n

/-! ## The latch -/

/-- The frame that ends: its write-back, region CRCs and underrun (R270, R368, R373); whether it underran. -/
def State.frameEnd (s : State) (n : Nat) : Bool × State :=
  let s := s.wbPublish n
  if (s.head n).scan then ((s.rgnEnd n).keepPixel n).underrunEnd n else (false, s)

/-- Latches counted (R69, R396). -/
def State.countLatch (s : State) (n : Nat) : State :=
  let k := s.pair (R.FRESH_LATCH_CNT_LO n) (R.FRESH_LATCH_CNT_HI n) + 1
  (s.setPair (R.FRESH_LATCH_CNT_LO n) (R.FRESH_LATCH_CNT_HI n) (k % 2 ^ 64)).setWord (R.HEAD_FRAME_CNT n) (k % 2 ^ 32)

/-- The slate of the next frame (R380), and the pause of the pipe during a replan (R272). (DEDUCED, log 40.) -/
def State.slateLatch (s : State) (n : Nat) : State :=
  let s := s.put (F.HEAD_STAT_SLATE n) (s.slateCause n != 0)
  s.setPipe n { s.pipe n with paused := (s.head n).replan }

/-- Decode contexts whose output rings a head's stalls follow. -/
def State.followedDecs (s : State) (n : Nat) : List Nat :=
  (List.range 8).filterMap (fun m => match s.follows n m with
    | some (1, c) => some c
    | _ => none)

/-- The stalls of a pipe: commit, take, retirement and validity; a paused pipe takes nothing (R272). A decode context whose
slots they release goes on (R207, R208). -/
def State.stallsLatch (s : State) (n : Nat) (old : Nat → SrcSel) (binds : List (Nat × Nat)) : State :=
  if !s.hasPipe n then s
  else
    let decs := s.followedDecs n
    let s := (List.range 8).foldl (fun s m =>
      let s := s.cond (s.pipe n).paused fun s => s.setStall n m { s.stall n m with take := none }
      let (b, s) := s.takeBind n m binds
      (s.stallLatch n m (old m) b).stallCheck n m) s
    decs.foldl State.decReleased s

/-- The slots and binds of a head's stalls, by which PSR sees a change (R382). (DEDUCED, log 36.) -/
def State.stallBufs (s : State) (n : Nat) : List (Option Buf) :=
  (List.range 8).map (fun m => (s.stall n m).buf)

/-- A bind is pending. -/
def State.bindsPend (s : State) (n : Nat) : Bool :=
  (List.range 8).any (fun m => !(s.stall n m).binds.isEmpty || (s.stall n m).late.isSome)

/-- The step record of a latch of the active part (R529). -/
def State.sendStep (s : State) (n : Nat) (applied crc : Option Nat) : State :=
  if s.inStep && s.role == 2 then
    s.linkSay .twin { type := 0x11, vc := 15, payload := s.stepBytes n applied crc }
  else s

/-- The commit, the stalls, the verdicts and the awning at a latch; the tag applied, and whether PSR sees a change. -/
def State.contentLatch (s : State) (n : Nat) : Option Nat × Bool × State :=
  let (act, s) := s.stepLatch n
  let s := (s.countLatch n).slateLatch n
  let tag := if act.apply then (s.head n).armed.map (·.tag) else none
  let sels := (List.range 8).map (s.srcSel n)
  let bufs := s.stallBufs n
  let (binds, s) := if act.apply then s.applySnapshot n else ([], s)
  let s := s.followSlots n act
  let s := s.stallsLatch n (fun m => nth (s.srcSel n m) sels m) binds
  let busy := tag.isSome || s.stallBufs n != bufs || s.bindsPend n
  (tag, busy, (s.supervise n).awningLatch n)

/-- Write-back, direct scan and the ports for the frame that starts. -/
def State.outputLatch (s : State) (n : Nat) : State :=
  let stopped := s.get (F.HEAD_PSR_STAT_STATE n) == 2
  let s := s.cond (!stopped && !(s.pipe n).paused) (·.wbLatch n)
  let s := s.dsLatch n (!stopped && !s.flag (F.HEAD_STAT_SLATE n))
  ((s.handLatch n).portLatch n).bellFlp n

/-- The frame that starts. -/
def State.frameStart (s : State) (n : Nat) : State :=
  (s.setHead n { s.head n with scan := true, under := [], rgn := [], lastLatchNs := s.ns, flp := some s.ns,
                                 psrUpdate := false, psrCleared := false }).tolUpdate n

/-- The latch of a running head (HEAD_LATCH). (DEDUCED, log 40.) -/
def State.latch (s : State) (n : Nat) : State :=
  if !s.headLive n || !s.flag (F.HEAD_CTRL_RUN n) || s.applying.isSome || s.frameOn n then s
  else
    let s := s.verdictLate n
    let slate := s.flag (F.HEAD_STAT_SLATE n)
    let (under, s) := s.frameEnd n
    let crc := if s.inStep && s.role == 2 then s.outCrc n else none
    let (tag, busy, s) := s.contentLatch n
    let s := (s.psrLatch n busy under slate).outputLatch n
    ((s.sendStep n tag crc).attestLatch n).frameStart n

/-- The halt of a head with its port and the closing bell (HEAD_HALT). -/
def State.halt (s : State) (n : Nat) : State :=
  if !s.headLive n || s.flag (F.HEAD_CTRL_RUN n) || s.frameOn n then s
  else (((s.wbPublish n).headHalts n).portHalt n).bellHalt n

end Sys2Proof.Machine
end

