-- ==== Sys2Proof/Machine/MemOps.lean ====
section
/-! DEFINITION. Commands of the memory controller (chapter 13): masters' accesses, scrubbing, self-refresh, recolouring. -/

namespace Sys2Proof.Machine

/-! ## Accesses -/

/-- Errors that have come up in stored codes (R560, R561, R571). (DEDUCED, log 26.) -/
def State.upset (s : State) (u : Upsets) (a : Nat) : State :=
  let m := s.memc
  let ue := m.ue ++ u.double.filter (fun w => !m.ue.contains w)
  let ce := (m.ce ++ u.single.filter (fun w => !m.ce.contains w)).filter (fun w => !ue.contains w)
  let s := { s with memc := { m with ue := ue, ce := ce } }
  s.cond (u.tag && spaceOf a == .hbm) (·.tagError false (hbmPage a))

/-- The internal address of an access: the host's is an offset in the BAR 2 window (R575, R585). (DEDUCED, log 26.) -/
def State.accessAddr (s : State) (a : Access) : Nat :=
  if a.master = 8 then s.addrPair R.MEMC_HWIN_LO R.MEMC_HWIN_HI + a.addr else a.addr

/-- The page of an address as a recolouring counts it: space and page. -/
def recolourPage (a : Nat) : Option (Nat × Nat) :=
  match spaceOf a with
  | .hbm => some (0, hbmPage a)
  | .sram => some (1, (a - sramBase) / 4096)
  | _ => none

/-- Software accesses a page that a running recolouring has not yet passed (R591). -/
def State.recolourClash (s : State) (master a n : Nat) : Bool :=
  match s.memc.recolour with
  | none => false
  | some r => decide (master ≤ 9) && [a, a + max n 1 - 1].any (fun b => match recolourPage b with
      | some (sp, p) => sp == r.space && decide (r.page ≤ p) && decide (p < r.page + r.left)
      | none => false)

/-- A master's read, and its write: one access up to 256 bytes, wherever it lies, which is checked and refused whole; beyond
that a transfer in several (R577). -/
def State.masterRead (s : State) (master a n : Nat) : Xfer × State :=
  if n ≤ 256 then s.readOne master a n else s.dmaRead master a n
def State.masterWrite (s : State) (master a : Nat) (bs : List Byte) : Xfer × State :=
  if bs.length ≤ 256 then s.writeOne master a bs else s.dmaWrite master a bs

/-- One access of a master outside control space (MEM_ACCESS, R577): refused, failed, UNPREDICTABLE or performed.
(DEDUCED, log 26.) -/
def State.memAccess (s : State) (x : Access) : State :=
  let a := s.accessAddr x
  let n := if x.write then x.data.length else x.size
  let s := s.upset x.upsets a
  if s.recolourClash x.master a n then
    { s.useFree.unpredictable x.master 0 everywhere with
        resp := some ⟨if x.write then [] else bytesLE n (s.freeValue (8 * n)), false⟩ }
  else if x.write then
    let (t, s) := s.masterWrite x.master a x.data
    { s with resp := some ⟨[], t.refused || t.failed⟩ }
  else
    let (t, s) := s.masterRead x.master a n
    { s with resp := some ⟨t.data, t.refused || t.failed⟩ }

/-! ## Scrubbing (R563) -/

/-- 64-byte units of the mapped range. -/
def scrubUnits : Nat := hbmSize / 64

/-- The scrubber reads its next unit (SCRUB_READ). -/
def State.scrubRead (s : State) (u : Upsets) : State :=
  if !s.flag F.MEMC_SCRUB_CTRL_EN || s.inReset.isSome || !s.flag F.MEMC_STATUS_INIT_DONE ||
      s.flag F.MEMC_STATUS_SELF_REFRESH || s.flag F.MEMC_STATUS_EXITING then s
  else
    let k := s.memc.scrubPos
    let a := hbmBase + k * 64
    let (_, s) := (s.upset { u with tag := false } a).readCodes a 64
    let next := if k + 1 < scrubUnits then k + 1 else 0
    let s := { s with memc := { s.memc with scrubPos := next } }
    if next = 0 then (s.inc F.MEMC_SCRUB_PASSES_CNT).drop F.MEMC_STATUS_SCRUBBING else s.raise F.MEMC_STATUS_SCRUBBING

/-! ## Self-refresh (R565, R566) -/

/-- The stack enters self-refresh where every condition has held (SR_ENTRY). -/
def State.srEntry (s : State) : State :=
  let idle := max 1 (s.get F.MEMC_SR_CTRL_IDLE)
  let margin := max 2 (s.get F.MEMC_SR_CTRL_MARGIN)
  if s.flag F.MEMC_SR_CTRL_EN && s.inReset.isNone && s.flag F.MEMC_STATUS_INIT_DONE &&
      !s.flag F.MEMC_STATUS_SELF_REFRESH && !s.flag F.MEMC_STATUS_EXITING && s.memc.recolour.isNone &&
      decide (s.memc.lastReqNs + idle * 1000 ≤ s.ns) && decide (4 + margin ≤ s.minTol) then
    (s.raise F.MEMC_STATUS_SELF_REFRESH).inc F.MEMC_SR_ENTRIES_CNT
  else s

/-- Exit begins because MIN_TOL has fallen to 6 µs (SR_EXIT); the exit that a request begins is the request's own. -/
def State.srExit (s : State) : State :=
  let inj := s.injArmed 0x34 0
  if !s.flag F.MEMC_STATUS_SELF_REFRESH || !(decide (s.minTol ≤ 6) || inj) then s
  else
    let s := ((s.injSpend 0x34 0).drop F.MEMC_STATUS_SELF_REFRESH).raise F.MEMC_STATUS_EXITING
    ((s.inc F.MEMC_SR_LATE_CNT).raise F.MEMC_EVT_SR_LATE_EV).detectWith inj 0x34 0 s.minTol

/-- Exit is complete (SR_EXIT_DONE). -/
def State.srExitDone (s : State) : State :=
  s.drop F.MEMC_STATUS_EXITING

/-! ## Recolouring (R572 to R574) -/

/-- A recolouring ends with a code (R589). -/
def State.recolourEnd (s : State) (code : Nat) : State :=
  let s := { s with memc := { s.memc with recolour := none } }
  let s := (s.drop F.TAG_RC_STAT_BUSY).set F.TAG_RC_STAT_CODE code
  s.raise (if code = 0 then F.TAG_RC_STAT_DONE else F.TAG_RC_STAT_FAIL)

/-- Pages of a space. -/
def spacePages (space : Nat) : Nat :=
  if space = 0 then hbmSize / 4096 else 1024

/-- A write of RC_CTRL (RECOLOUR_REQUEST). -/
def State.writeRcCtrl (s : State) (w : Wr) : State :=
  s.guarded G.TAG_RC_CTRL w fun s =>
    let v := w.data.toNat
    if bitsOf v 31 24 ≠ 0xA5 then s
    else if s.flag F.TAG_RC_STAT_BUSY || s.applying.isSome then
      (s.set F.TAG_RC_STAT_CODE 1).raise F.TAG_RC_STAT_FAIL
    else
      let space := s.get F.TAG_RC_PAGE_SPACE
      let page := s.get F.TAG_RC_PAGE_PAGE
      let count := s.get F.TAG_RC_COUNT_COUNT
      let s := (s.setWord R.TAG_RC_MASTER w.master).setWord R.TAG_RC_DONE 0
      if count = 0 ∨ spacePages space < page + count then s.recolourEnd 2
      else
        let s := (s.raise F.TAG_RC_STAT_BUSY).set F.TAG_RC_STAT_CODE 0
        let r : Recolour := { requester := w.master, space := space, page := page, left := count, new := v % 16,
                              zero := bitOf v 8 }
        { s with memc := { s.memc with recolour := some r } }

/-- Colour of a page of a space. -/
def State.pageColour (s : State) (space page : Nat) : Nat :=
  if space = 0 then s.hbmColour page else s.sramColour page

/-- Address of a page of a space. -/
def pageAddr (space page : Nat) : Nat :=
  (if space = 0 then hbmBase else sramBase) + page * 4096

/-- A colour that no recolouring gives or takes (R572). -/
def fixedColour (c : Nat) : Bool :=
  decide (13 ≤ c)

/-- The code with which a page fails step 1; 0 passes (R572, R574). -/
def State.pageCode (s : State) (r : Recolour) (failed : Bool) : Nat :=
  let holds := fun c => c == 0 || bitOf (s.maskOf r.requester true) c
  let old := s.pageColour r.space r.page
  if fixedColour r.new || (if r.space = 0 then planStorePage ≤ r.page else 960 ≤ r.page) then 3
  else if failed then (if !r.zero then 5 else if holds r.new then 0 else 4)
  else if fixedColour old then 3
  else if holds old && holds r.new then 0 else 4

/-- The 64-byte units of an HBM page as a change of its confidential status leaves them (R568): what was stored is read
through the cipher, or without it. (DEDUCED, log 26.) -/
def State.cipherPage (s : State) (page : Nat) (was now : Bool) : State :=
  if was = now then s
  else (List.range 64).foldl (fun s i =>
    let a := pageAddr 0 page + i * 64
    let bs := s.bytes a 64
    s.store a ((if now then Config.xtsOpen a bs else Config.xtsSeal a bs).take 64)) s

/-- Steps 2 to 4 of a page. -/
def State.paintPage (s : State) (r : Recolour) : State :=
  let old := s.pageColour r.space r.page
  let conf := fun c => bitOf s.memc.confColours c
  let s := if r.space = 0 then
      { s with tags := Tbl.set s.baseColour s.tags r.page r.new
               memc := { s.memc with badTags := s.memc.badTags.filter (· != r.page) } }
    else { s with sramTags := Tbl.set (fun _ => 1) s.sramTags r.page r.new }
  let a := pageAddr r.space r.page
  if r.zero then (s.writeCodes a 4096).store a (List.replicate 4096 0#8)
  else s.cond (r.space == 0) (·.cipherPage r.page (conf old) (conf r.new))

/-- The next page of a recolouring (RECOLOUR_PAGE). -/
def State.recolourNext (s : State) (u : Upsets) : State :=
  match s.memc.recolour with
  | none => s
  | some r =>
    let a := pageAddr r.space r.page
    let s := (s.upset u a).tagPoint a
    let failed := r.space == 0 && s.memc.badTags.contains r.page
    match s.pageCode r failed with
    | 0 =>
      let s := s.paintPage r
      let s := s.set F.TAG_RC_DONE_COUNT (s.get F.TAG_RC_DONE_COUNT + 1)
      if r.left ≤ 1 then s.recolourEnd 0
      else { s with memc := { s.memc with recolour := some { r with page := r.page + 1, left := r.left - 1 } } }
    | code => s.recolourEnd code

/-- The window of BAR 2 is moved over pages of colours that the host holds while another master recolours them (R591). -/
def State.windowClash (s : State) (base : Nat) : Bool :=
  match s.memc.recolour with
  | none => false
  | some r => r.requester != 8 && decide (base < pageAddr r.space (r.page + r.left)) &&
      (bitOf (s.maskOf 8 false) (s.pageColour r.space r.page) || bitOf (s.maskOf 8 true) (s.pageColour r.space r.page))

end Sys2Proof.Machine
end

