-- ==== Sys2Proof/Machine/Apply.lean ====
section
/-! DEFINITION. Plan apply (R123 to R125, R863), the re-arm of the display class (R746), and resets (chapter 22, R839). -/

namespace Sys2Proof.Machine

/-! ## What a plan says of the registers -/

/-- A register's value after the LOCKS records, locked or preset, that cover it (R109). -/
def Plan.presetAt (p : Plan) (a x : Nat) : Nat :=
  p.locks.foldl (fun x l => if l.covers a then maskIn x l.value l.mask else x) x

/-- A register written by the loader, in force at once where it is shadowed. -/
def State.plant (s : State) (a v : Nat) : State :=
  let s := s.setWord a v
  match placeOf a with
  | some pl => if pl.reg.shadowed then { s with inForce := Tbl.set resetWord s.inForce a (BitVec.ofNat 32 v) } else s
  | none => s

/-- LOCKS records written into the registers that `on` selects, in order (R109). -/
def State.putLocks (s : State) (p : Plan) (on : Nat → Bool) : State :=
  p.locks.foldl (fun s l => (List.range l.count).foldl (fun s i =>
    let a := l.addr i
    if on a then s.plant a (maskIn (s.word a) l.value l.mask) else s) s) s

/-- One CLASSES record (R98, R101). -/
def State.putClass (s : State) (c : ClassRec) : State :=
  if c.stall = 0xFF then s.plant (R.FSTALL_CFG c.pipe 0) 2
  else
    let n := c.pipe
    let m := c.stall
    let s := s.plant (R.FSTALL_CFG n m) (b2n c.mark * 8 + b2n c.motion * 4 + c.cls % 4)
    let s := s.plant (R.FSTALL_BUDGET n m) (c.budget % 2 ^ 20)
    s.plant (R.FSTALL_WINDOWS n m) (c.hyst % 16 * 2 ^ 16 + c.sigWin % 256 * 2 ^ 8 + c.freezeWin % 256)

/-- STALL[0] of a direct-scan head is static-class, with or without a record (R101, R387). -/
def State.putDirect (s : State) (p : Plan) : State :=
  (p.res.filter (fun r => r.kind == 0x05 && bitOf r.param 6)).foldl (fun s r => s.plant (R.FSTALL_CFG r.index 0) 2) s

/-- MARK_EN of a live-class stall reads 1, whatever a LOCKS record gives it (R73). -/
def State.liveMarks (s : State) (p : Plan) : State :=
  (p.classes.filter (fun c => c.stall != 0xFF && c.cls == 1)).foldl (fun s c =>
    let a := R.FSTALL_CFG c.pipe c.stall
    s.plant a (Nat.lor (s.word a) 8)) s

/-- The plan values of every stall (R31): what its fields hold at the end of apply. -/
def State.planValues (s : State) (p : Plan) : State :=
  p.classes.foldl (fun s c =>
    if c.stall = 0xFF then s
    else s.setFstall c.pipe c.stall { s.fstall c.pipe c.stall with
      planCfg := s.word (R.FSTALL_CFG c.pipe c.stall), planBudget := s.get (F.FSTALL_BUDGET_BUDGET c.pipe c.stall),
      planWindows := s.word (R.FSTALL_WINDOWS c.pipe c.stall) }) s

/-- One AWNING record (R102). -/
def State.putAwning (s : State) (a : AwnPlan) : State :=
  let n := a.head
  let s := s.plant (R.AWN_LAYOUT n)
    (a.clockTb % 16 * 2 ^ 24 + a.hatchPitch % 128 * 2 ^ 16 + a.borderW % 32 * 2 ^ 8 + a.elements % 8)
  let s := ((s.plant (R.AWN_AMBER n) a.amber).plant (R.AWN_HATCH n) a.hatch).plant (R.AWN_SLATE n) a.slate
  let s := s.plant (R.AWN_BUNDLE n) (a.minVer % 2 ^ 16 * 2 ^ 16 + a.bundleId % 2 ^ 16)
  let e := a.elements
  s.put (F.AWN_STAT_TIME_VARYING n) (bitOf e 1 || bitOf e 2)

/-- Bundles that a plan does not keep are freed (R309). -/
def State.freeBundles (s : State) (p : Plan) : State :=
  (List.range 5).foldl (fun s k =>
    let id := s.get (F.AWNG_REGION_BUNDLE_ID k)
    let v := s.get (F.AWNG_REGION_VERSION k)
    let users := p.awn.filter (fun a => a.bundleId == id)
    s.cond (id != 0 && (users.isEmpty || users.any (fun a => v < a.minVer))) (·.setWord (R.AWNG_REGION k) 0)) s

/-- The sections of the display blocks (R98, R102). -/
def State.putDisplay (s : State) (p : Plan) : State :=
  p.awn.foldl State.putAwning (p.classes.foldl State.putClass (s.putDirect p))

/-- Fixed grants of colours 13 to 15 as bits of CHK.MASK (R570). -/
def fixedMask (i : Nat) : Nat :=
  let g := fixedGrants i
  g.1 + g.2 * 2 ^ 16

/-- Every checker's masks (R576). -/
def State.putMasks (s : State) (p : Plan) : State :=
  ((List.range 128).filter s.checkerPresent).foldl (fun s i =>
    let v := match p.maskFor i with
      | some m => m.rmask % 2 ^ 16 + m.wmask % 2 ^ 16 * 2 ^ 16
      | none => 0
    s.setWord (R.CHK_MASK i) (Nat.lor v (fixedMask i))) s

/-- A range record covers the page. -/
def inRanges (rs : List RangeRec) (page : Nat) : Bool :=
  rs.any (fun r => r.start ≤ page && page < r.start + r.count)

/-- The pages whose colour the tag table or new range records say, each once. -/
def State.tagPages (s : State) (new : List RangeRec) : List Nat :=
  let pages := fun (rs : List RangeRec) => rs.flatMap (fun r => (List.range r.count).map (r.start + ·))
  pages s.tagRanges ++ (s.tags.map (·.1)).filter (fun k => !inRanges s.tagRanges k) ++
  (pages new).filter (fun k => !inRanges s.tagRanges k && !s.tags.any (fun e => e.1 == k))

/-- The page is confidential (R567). -/
def State.pageConf (s : State) (page : Nat) : Bool :=
  bitOf s.memc.confColours (s.hbmColour page)

/-- Pages whose confidential status differs from what it was keep their stored bytes (R124), so they read through the cipher,
or without it. -/
def State.recipher (s old : State) (pages : List Nat) : State :=
  pages.foldl (fun s k => s.cipherPage k (old.pageConf k) (s.pageConf k)) s

/-- The tag table and the confidential colours (R95, R96, R124, R567, R571). -/
def State.putTags (s : State) (p : Plan) : State :=
  let conf := p.ranges.foldl (fun v r => if r.conf then Nat.lor v (2 ^ r.colour) else v) 0x4000
  let old := s
  let s := { s with tagFill := 0, tagRanges := p.ranges, tags := [], memc := { s.memc with badTags := [], confColours := conf } }
  let s := (s.setWord R.MEMC_CONF_COLOURS conf).recipher old (old.tagPages p.ranges)
  (s.setWord (R.TAG_OUT_COLOUR 0) 0).setWord (R.TAG_OUT_COLOUR 1) 0

/-! ## Units that run on (R863, R423) -/

/-- Timing registers of a head. -/
def timingRegs (n : Nat) : List Nat :=
  [R.HEAD_TIMING_H n, R.HEAD_TIMING_HSYNC n, R.HEAD_TIMING_V n, R.HEAD_TIMING_VSYNC n]

/-- Lanes that a plan gives a source port, with their places in it. -/
def Plan.portLanes (p : Plan) (k : Nat) : List (Nat × Nat) :=
  (p.res.filter (fun r => r.kind == 0x0A && r.param % 16 == 1 && bitsOf r.param 11 8 == k)).map
    (fun r => (r.index, bitsOf r.param 18 16))

/-- PARAM of a head's record. -/
def Plan.headParam (p : Plan) (n : Nat) : Option Nat :=
  (p.find 0x05 n).map (·.param)

/-- A head that both plans name runs at the start of apply. -/
def State.runsOn (s : State) (p : Plan) (n : Nat) : Bool :=
  s.flag (F.HEAD_STAT_RUNNING n) && s.named 0x05 n && (p.headParam n).isSome

/-- Its port, stream, lanes, PIXCLK and timing stay as they were (R863). -/
def State.unbroken (s : State) (p : Plan) (n : Nat) : Bool :=
  match s.plan with
  | none => false
  | some old =>
    let port := match p.headParam n with | some v => v % 16 | none => 0
    s.runsOn p n && (old.headParam n).map (· % 64) == (p.headParam n).map (· % 64) &&
    old.portLanes port == p.portLanes port &&
    (timingRegs n).all (fun a => p.presetAt a (s.live a).toNat == (s.live a).toNat) &&
    p.presetAt (R.HEAD_PIXCLK n) (s.word (R.HEAD_PIXCLK n)) == s.word (R.HEAD_PIXCLK n)

/-- Heads that a plan maps to a source port, with their PARAM. -/
def Plan.mappedTo (p : Plan) (k : Nat) : List (Nat × Nat) :=
  (p.res.filter (fun r => r.kind == 0x05 && r.param % 16 == k)).map (fun r => (r.index, r.param))

/-- A source port keeps its trained link (R423). -/
def State.portKept (s : State) (p : Plan) (k : Nat) : Bool :=
  match s.plan with
  | none => false
  | some old =>
    (old.find 0x07 k).isSome && old.find 0x07 k == p.find 0x07 k && old.portLanes k == p.portLanes k &&
    old.mappedTo k == p.mappedTo k && (p.mappedTo k).all (fun (n, _) => s.unbroken p n)

/-! ## Resets of units -/

/-- FRESH and AWN of head `n` at apply: the plan fields, the counts and the stalls' state are reset; the channels in service,
events, interrupt enables and the attestation registers, with the end of a request that apply has ended, are kept (R63,
R839). (DEDUCED, log 44.) -/
def State.resetVerdicts (s : State) (n : Nat) : State :=
  let s := (s.setWord (R.FRESH_SUMMARY n) (resetWord (R.FRESH_SUMMARY n)).toNat).setWord (R.FRESH_CHANGED n) 0
  let s := s.resetRange (R.FRESH_LATCH_CNT_LO n) (R.FRESH_ATTEST_CTRL n)
  let s := s.resetRange (R.FSTALL_CFG n 0) (R.FSTALL_CFG n 8)
  let s := (s.resetRange (R.AWN_LAYOUT n) (R.AWN_STAT n)).drop (F.AWN_STAT_TIME_VARYING n)
  let s := s.resetRange (R.AWN_DISSENT_CNT n) (R.AWN_LAST_CHECK n + 4)
  { s with chans := Tbl.clear (fun k => k / 32 == n) s.chans, fstalls := Tbl.clear (fun k => k / 8 == n) s.fstalls,
           fheads := Tbl.del s.fheads n, awns := Tbl.del s.awns n }

/-- HEAD[n] but for its colour stage. -/
def State.resetHeadRegs (s : State) (n : Nat) : State :=
  (s.resetRange (R.HEAD_INFO n) (R.HEAD_INFO n + 0x1800)).resetRange (R.HEAD_INFO n + 0x1900) (R.HEAD_INFO n + 0x2000)

/-- A head at the start of apply (R863). -/
def State.applyHead (s : State) (p : Plan) (n : Nat) : State :=
  let h := s.head n
  let runs := s.runsOn p n
  let same := s.unbroken p n
  let live := (timingRegs n).map (fun a => (a, (s.live a).toNat))
  let pix := s.word (R.HEAD_PIXCLK n)
  let s := (s.resetHeadRegs n).resetVerdicts n
  let s := s.setHead n { lutReset := h.lutReset, bell := h.bell }
  let s := s.cond runs fun s =>
    (live.foldl (fun s (a, v) => s.plant a v) (s.setWord (R.HEAD_PIXCLK n) pix)).raise (F.HEAD_CTRL_RUN n)
  s.cond same fun s =>
    let s := ((s.raise (F.HEAD_STAT_RUNNING n)).raise (F.HEAD_STAT_PLL_LOCK n)).raise (F.HEAD_STAT_SLATE n)
    s.setHead n { s.head n with replan := true, lastLatchNs := h.lastLatchNs, flp := h.flp, lastPx := h.lastPx }

/-- Pipe `n` (R123). -/
def State.resetPipe (s : State) (n : Nat) : State :=
  let s := s.resetRange (R.COMP_INFO n) (R.COMP_INFO n + 0x4000)
  { s with stalls := Tbl.clear (fun k => k / 8 == n) s.stalls, pipes := Tbl.del s.pipes n,
           ringRetired := Tbl.del s.ringRetired (ringKey 2 n) }

/-- Source port `k`, with its hidden state. -/
def State.resetSrc (s : State) (k : Nat) : State :=
  (s.resetRange (R.SRC_INFO k) (R.SRC_INFO k + 0x1000)).srcReset k

/-- The wall link's registers and session. -/
def State.resetWall (s : State) : State :=
  ({ s with inputs := [] }.resetRange R.WLK_INFO (R.WLK_INFO + 0x400)).linkReset .wall

/-- One unit that apply resets, by kind and index (R123). (DEDUCED, log 44.) -/
def State.resetUnit (s : State) (kept : Bool) (kind i : Nat) : State :=
  match kind with
  | 0x02 => { s.resetRange (R.DECK_STAT i) (R.DECK_STAT i + 0x20) with decCores := Tbl.del s.decCores i }
  | 0x03 => { s.resetRange (R.ENCK_STAT i) (R.ENCK_STAT i + 0x20) with encCores := Tbl.del s.encCores i }
  | 0x04 => s.resetPipe i
  | 0x07 => s.cond (!kept) (·.resetSrc i)
  | 0x08 => (s.resetRange (R.SNK_INFO i) (R.SNK_INFO i + 0x1000)).snkReset i
  | 0x09 =>
    let s := s.resetRange (R.INGRP_RXQ_BASE_LO i) (R.INGRP_RXQ_BASE_LO i + 0x40)
    { s with saks := s.saks.filter (fun k => k.port != i) }
  | 0x0F => s.resetRange R.TWIN_EVT (R.TWIN_OWN_HEALTH 0)
  | 0x0C => { s.resetRange (R.SAP_CTRL i) (R.SAP_CTRL i + 0x100) with saps := Tbl.del s.saps i }
  | 0x0D => s.tchReset i
  | 0x0E => s.resetWall
  | _ => s

/-! ## Apply -/

/-- Units that either plan names. (DEDUCED, log 44.) -/
def State.planUnits (s : State) (p : Plan) : List (Nat × Nat) :=
  let old := match s.plan with | some q => q.res | none => []
  ((old ++ p.res).map (fun r => (r.kind, r.index))).eraseDups

/-- An install ends with ABORTED (R308). It changes no region: one that step 3 had already given to the bundle is free
again, and the old one keeps it. -/
def State.installAbort (s : State) : State :=
  match s.install with
  | none => s
  | some i =>
    let s := s.cond i.verified (·.setWord (R.AWNG_REGION i.region) 0)
    ({ s with install := none }.drop F.AWNG_BUNDLE_STAT_BUSY).installFail 0x0A

/-- Every head shows its slate (R128). (DEDUCED, log 43.) -/
def State.slatesShown (s : State) : Bool :=
  s.headList.all (fun n => !s.flag (F.HEAD_STAT_RUNNING n) || (s.flag (F.HEAD_STAT_SLATE n) && (s.head n).replan))

/-- What apply ends before it resets units: attestations, an install, a recolouring (R63, R308, R574). -/
def State.applyEnds (s : State) : State :=
  let s := (List.range 32).foldl (fun s n => s.attestFail n 7) s
  let s := s.installAbort
  s.cond s.memc.recolour.isSome (·.recolourEnd 6)

/-- The active part of a pair declares at the start of apply (R549); the peer's report goes with the twin link's block. -/
def State.applyDeclare (s : State) : State :=
  let s := s.cond (s.role == 2) (·.declare)
  s.resetRange (R.TWIN_OWN_HEALTH 0) (R.TWIN_PEER_HEALTH 8)

/-- Units reset at the start of apply. -/
def State.applyResets (s : State) (p : Plan) : State :=
  let us := s.planUnits p
  let ports := (us.filter (fun u => u.1 == 0x07 && s.portKept p u.2)).map (·.2)
  let old := s
  let s := us.foldl (fun s (k, i) => s.resetUnit (k == 0x07 && ports.contains i) k i) s
  let s := (us.filter (fun u => u.1 == 0x05)).foldl (fun s (_, n) => s.applyHead p n) { s with plan := old.plan }
  let s := (List.range s.variant.scalers).foldl State.resetSp s
  let s := s.cond (us.contains (0x0F, 0)) (·.applyDeclare)
  (s.laneReset p).ingrApply.decApply.encApply.linkReset .twin

/-- Apply starts once every head shows its slate (PLAN_APPLY_START, R122, R128): PHASE 5. (DEDUCED, log 44.) -/
def State.applyStart (s : State) : State :=
  match s.loader.stage, s.loader.plan with
  | .waitSlates, some p =>
    if !s.slatesShown || s.inReset.isSome then s
    else
      let s := s.applyEnds
      let s := { s with applying := some p, loader := { s.loader with stage := .apply } }.set F.PLAN_STATUS_PHASE 5
      s.applyResets p
  | _, _ => s

/-- Time bases that the new plan leaves unused are reset (R595). -/
def State.applyTime (s : State) (p : Plan) : State :=
  (List.range 8).foldl (fun s t => s.cond (p.find 0x0B t).isNone (·.resetTb t)) s

/-- Heads after apply: the PLLs of those whose PIXCLK a LOCKS record has written, and of halted ones, lock (R353, R863), and
the pipes of all that run wait for their first latch (R272). -/
def State.applyHeads (s : State) (p : Plan) : State :=
  (p.res.filter (fun r => r.kind == 0x05)).foldl (fun s r =>
    let n := r.index
    if !s.flag (F.HEAD_CTRL_RUN n) then
      let khz := s.get (F.HEAD_PIXCLK_KHZ n)
      s.cond (decide (25000 ≤ khz ∧ khz ≤ 600000)) fun s => s.setHead n { s.head n with pllPend := true }
    else
      let s := s.setHead n { s.head n with replan := false, pllPend := !s.flag (F.HEAD_STAT_RUNNING n) }
      s.cond (s.named 0x04 n) fun s => s.setPipe n { s.pipe n with paused := true }) s

/-- Sink ports assert HPD again where HPD_EN is set (R423). -/
def State.applySinks (s : State) : State :=
  (List.range 8).foldl (fun s j => s.cond (s.named 0x08 j) fun s =>
    s.put (F.SNK_STAT_HPD j) (s.flag (F.SNK_CTRL_HPD_EN j))) s

/-- The registers of the PLAN block after a load (R133, R137, R138). -/
def State.putLoaded (s : State) (p : Plan) : State :=
  let s := ((s.raise F.PLAN_STATUS_LOADED).set F.PLAN_STATUS_LOADED_FROM s.loader.src).set F.PLAN_STATUS_CODE 0
  let s := (s.setWord R.PLAN_PLAN_ID p.planId).setWord R.PLAN_PLAN_SEQ p.planSeq
  let s := (List.range 12).foldl (fun s i => s.setWord (R.PLAN_HASH i) (leAt p.hash (4 * i) 4)) s
  let s := (s.setWord R.PLAN_LOAD_TIME (s.usSince s.loader.startNs)).set F.PLAN_LOCK_HITS_COUNT 0
  let s := ((s.drop F.PLAN_STATUS_BUSY).set F.PLAN_STATUS_PHASE 0).raise F.PLAN_EVENT_LOAD_DONE
  { s with loader := { half := 1 - s.loader.half, markers := s.loader.markers } }

/-- Every table that the sections program (R123), with the fields of the kept blocks that a plan may lock at their reset values
where this one gives none (R111). (DEDUCED, log 44.) -/
def State.putSections (s : State) (p : Plan) : State :=
  let s := ((s.putTags p).putMasks p).irqApply p
  let s := (s.freeBundles p).putDisplay p
  let s := (s.laneGive p).setWord R.THERM_BND_CFG (resetWord R.THERM_BND_CFG).toNat |>.set F.THERM_BND_CONST_T s.bndOtp
  ((s.putLocks p (fun _ => true)).liveMarks p).planValues p

/-- An injected PLAN_FAIL at a load that succeeds: its entry alone (R810). (DEDUCED, log 31.) -/
def State.loadInjected (s : State) : State :=
  s.cond (s.injArmed 0x48 s.loader.src) fun s => s.detectWith true 0x48 s.loader.src (s.word R.PLAN_STATUS)

/-- Apply is complete (PLAN_APPLY_DONE, R122, R123): LOADED and LOAD_DONE. (DEDUCED, log 44.) -/
def State.applyDone (s : State) : State :=
  match s.applying with
  | none => s
  | some p =>
    if s.inReset.isSome then s
    else
      let s := s.ingrApply.decApply.encApply.putSections p
      let s := { s with plan := some p, applying := none }
      let s := ((s.applyTime p).applyHeads p).applySinks
      let s := (s.loadInjected.disarmAll).putLoaded p
      ((s.slotInfo.linkReset .wall).freeFlash .planLoader).twinApply

/-! ## The re-arm of the display class (R746) -/

/-- A register of a display-class block (R739). -/
def State.displayReg (s : State) (a : Nat) : Bool :=
  ([2, 3, 7, 8, 9] : List Nat).contains (blockOf a) ||
  (match placeOf a with | some p => displayUnit p.region.unit (s.laneFn p.n) | none => false)

/-- Hidden state of the display class after its reset, with the tables' fill running (R336). -/
def State.displayHidden (s : State) : State :=
  { s with chans := [], fstalls := [], fheads := [], stalls := [], pipes := [], spUnits := [], spCoef := [], lut := [],
           ringRetired := Tbl.clear (fun k => k / 512 == 2) s.ringRetired, srcs := s.srcsReset, awns := [], install := none,
           heads := (List.range s.variant.heads).map (fun n => (n, { lutReset := true })) }

/-- Registers of the display class at their reset values. -/
def State.displayRegsReset (s : State) : State :=
  { s with regs := s.regs.filter (fun e => !s.displayReg e.1), inForce := s.inForce.filter (fun e => !s.displayReg e.1),
           hiLatch := s.hiLatch.filter (fun e => !s.displayReg e.1), loHeld := s.loHeld.filter (fun e => !s.displayReg e.1) }

/-- The display class powered up, reset and given the plan in force, with every head stopped. -/
def State.displayRearm (s : State) : State :=
  let s := s.displayRegsReset.displayHidden
  let s := (List.range s.variant.scalers).foldl State.resetSp s
  let s := s.set F.THERM_STATUS_DISPLAY 0
  match s.plan with
  | none => s
  | some p =>
    let s := ((s.putDisplay p).putLocks p s.displayReg).liveMarks p |>.planValues p
    (s.laneList.filter (fun l => s.laneFn l == 1)).foldl (fun s l => (s.laneFresh l).set (F.LANE_STAT_STATE l) 1) s

/-- A re-arm requested. -/
def State.rearm (s : State) : State :=
  if s.rearmOk then s.displayRearm.raise F.THERM_EVT_REARM_EV else s.raise F.THERM_EVT_REARM_REJ_EV

/-- A write of THERM.CTRL (REARM, R755). -/
def State.writeThermCtrl (s : State) (w : Wr) : State :=
  s.guarded G.THERM_CTRL w fun s =>
    if bitsOf w.data.toNat 31 24 ≠ 0xA5 then s
    else if bitsOf w.data.toNat 3 0 = 1 then s.rearm
    else s.unpredictable w.master 0 everywhere

/-! ## Resets (R780 to R794, R839) -/

/-- Rank of a reset class: one that runs gives way to one of its rank or higher. (DEDUCED, log 64.) -/
def ResetClass.rank : ResetClass → Nat
  | .powerOn => 2
  | .brownOut => 1
  | .warm => 0

/-- A register that a reset class keeps (R782, R839). -/
def keptReg (c : ResetClass) (a : Nat) : Bool :=
  a == R.MISC_GPIO_IN ||
  (c != .powerOn && (blockOf a == 24 || a == R.CLKRST_CAUSE || a == R.CLKRST_RESET_CNT ||
    (R.MISC_SCRATCH 0 ≤ a && a ≤ R.MISC_SCRATCH 3))) ||
  (c == .warm && (blockOf a == 15 || blockOf a == 21))

/-- A byte of memory that a reset class keeps: what lies behind the outbound windows, and over a WARM reset HBM but its
confidential pages (R782). (DESIGN CHOICE, log 10; DEDUCED, log 64.) -/
def State.keptByte (s : State) (c : ResetClass) (a : Nat) : Bool :=
  spaceOf a == .outbound ||
  (c == .warm && spaceOf a == .hbm && !bitOf s.memc.confColours (s.hbmColour (hbmPage a)))

/-- The state with every block reset and nothing kept but what no reset reaches. -/
def State.bare (s : State) (c : ResetClass) (source phase : Nat) : State :=
  { pending := s.pending, ns := s.ns, free := s.free, out := s.out, resp := s.resp, otp := s.otp, fuses := s.fuses,
    flash := s.flash, qspi := { present := s.qspi.present, id := s.qspi.id }, inReset := some c,
    busMaster := false, msixEnable := false, functionMask := false, srcs := s.srcsReset,
    regs := s.regs.filter (fun e => keptReg c e.1), mem := s.mem.filter (fun e => s.keptByte c e.1),
    clk := { source := source, phase := phase, wdogNs := s.ns } }

/-- What BROWN-OUT and WARM keep (R782): the ledger with its injections disarmed, the island's split and clock. -/
def State.keepIsland (s old : State) : State :=
  let s := { s with due := old.due, lastEntry := old.lastEntry, clk := { s.clk with good := old.clk.good, bad := old.clk.bad } }
  s.disarm.put F.CLKRST_STAT_AON_SPLIT (old.flag F.CLKRST_STAT_AON_SPLIT)

/-- What WARM keeps besides: time bases and their queues, the thermal model, stored codes of HBM; the cores stay cut after
STOP (R747, R782). -/
def State.keepWarm (s old : State) : State :=
  let s := { s with tbs := old.tbs, tsq := old.tsq, therm := old.therm,
                    memc := { s.memc with ce := old.memc.ce, ue := old.memc.ue, lastReqNs := s.ns } }
  s.cond (s.flag F.THERM_STATUS_STOP_LATCH) fun s =>
    (List.range 7).foldl (fun s k => s.set (F.CC_STAT_STATE (k + 1)) 4) s

/-- The thermal manager after its reset (R736, R735): every node at the boundary. (DEDUCED, log 29.) -/
def State.thermReset (s : State) : State :=
  let s := s.set F.THERM_BND_CONST_T s.bndOtp
  { s with therm := { s.therm with chans := List.replicate 3 { nodes := List.replicate 48 s.boundary }, hotNs := s.ns } }

/-- PLAN.STATUS.PHASE of an operation in progress, else 0 (R794). -/
def State.loadPhase (s : State) : Nat :=
  if s.inReset.isSome then s.clk.phase else if s.flag F.PLAN_STATUS_BUSY then s.get F.PLAN_STATUS_PHASE else 0

/-- A reset of a class starts (R780): a lower class does not replace one that runs. (DEDUCED, log 64.) -/
def State.beginReset (s : State) (c : ResetClass) (source : Nat) : State :=
  if (match s.inReset with | some r => decide (c.rank < r.rank) | none => false) then s
  else
    let old := s.cond s.inReset.isNone (·.otpCut.flashCut)
    let new := old.bare c source s.loadPhase
    match c with
    | .powerOn => new.thermReset
    | .brownOut => (new.keepIsland old).thermReset
    | .warm => (new.keepIsland old).keepWarm old

/-- A write of SWRST (R780, R800, R801). -/
def State.writeSwrst (s : State) (w : Wr) : State :=
  s.guarded G.CLKRST_SWRST w fun s =>
    if bitsOf w.data.toNat 31 24 ≠ 0xA5 then s
    else if bitsOf w.data.toNat 3 0 = 1 then s.beginReset .warm 5
    else s.unpredictable w.master (R.CC_CTRL 0) (R.CC_STAT 7 + 3)

/-- The watchdog expires (WDOG_EXPIRY, R798). -/
def State.wdogExpires (s : State) : State :=
  if !s.wdogDue then s else if s.wdogResets then s.beginReset .warm 6 else s.wdogRecord

/-- The entry of a reset (R794, R813): its time is that of the AON clock where TB0 was reset. (DEDUCED, log 32.) -/
def State.resetEntry (s : State) (c : ResetClass) : State :=
  if c = .warm then s.detect 0x50 s.clk.source s.clk.phase
  else
    let e : Due :=
      { code := 0x50, unit := s.clk.source, detail := s.clk.phase, injected := false,
        ns := s.ns, time := s.ns / 1000 % 2 ^ 48, aonTime := true, locked := false }
    let s := s.inc (F.FLT_DET_CNT_CNT 0x50)
    { s with due := s.due ++ [e] }

/-- CAUSE, RESET_CNT and STAT as a reset ends (R789, R796, R797); the strap is sampled at the pins' resets only. -/
def State.putCause (s : State) (c : ResetClass) (gpio0 : Bool) : State :=
  let s := s.set F.CLKRST_CAUSE_SOURCE s.clk.source
  let s := s.cond (([1, 2, 4] : List Nat).contains s.clk.source) (·.put F.CLKRST_CAUSE_BOOT_SRC gpio0)
  let s := s.cond (c != .powerOn) (·.inc F.CLKRST_RESET_CNT_CNT)
  (s.raise F.CLKRST_STAT_REFCLK_OK).raise F.CLKRST_STAT_SYS_PLL_LOCK

/-- The boot ROM starts: it asks for the flash, or CC0 waits for the host (R789). -/
def State.startBoot (s : State) : State :=
  if s.flag F.CLKRST_CAUSE_BOOT_SRC then s.bootWait
  else ({ s with clk := { s.clk with boot := some 0 } }.askFlash .bootRom).raise F.CLKRST_BOOT_STAT_BUSY

/-- The tables and coefficient banks fill after the reset of their blocks (R332, R336). -/
def State.startTables (s : State) : State :=
  let s := { s with heads := (List.range s.variant.heads).map (fun n => (n, { lutReset := true })) }
  (List.range s.variant.scalers).foldl State.resetSp s

/-- A reset source ends (RESET_END, R791): REFCLK must be good. (DESIGN CHOICE, log 5; DEDUCED, log 64.) -/
def State.resetEnds (s : State) (gpio0 : Bool) : State :=
  match s.inReset with
  | none => s
  | some c =>
    if s.clk.good < 10 then s
    else
      let s := ({ s with inReset := none }.putCause c gpio0).resetEntry c
      let s := s.startTables.startBoot.askFlash .security
      s.lifecycleResume.secSnapshot.newChallenge

end Sys2Proof.Machine
end

