-- ==== Sys2Proof/Machine/Views.lean ====
section
/-! DEFINITION. What registers read as where that is more than their stored value (chapter 24 and the register tables of
the chapters): identification, summaries, states of other units, and fields that read zero. -/

namespace Sys2Proof.Machine

/-- Number of indices below `k` that satisfy a test. -/
def countTo (k : Nat) (p : Nat → Bool) : Nat :=
  ((List.range k).filter p).length

/-- Bits of the indices `32 j` to `32 j + 31`. -/
def word32 (j : Nat) (p : Nat → Bool) : Nat :=
  bitsFrom ((List.range 32).map (fun k => p (32 * j + k)))

/-! ## SYS (R7 to R12, R826, R827) -/

/-- A register of SYS at offset `o`; `v` is its stored value. -/
def State.viewSys (s : State) (o v : Nat) : Nat :=
  let u := s.variant
  match o with
  | 0x04 => 0x60 * 2 ^ 24 + s.fuses.pkg % 16 * 2 ^ 20 + s.fuses.step % 16 * 2 ^ 16 + s.fuses.partCode % 256 * 2 ^ 8
  | 0x10 => u.heads * 2 ^ 26 + u.dec * 2 ^ 21 + u.enc * 2 ^ 17 + u.snk * 2 ^ 13 + u.eth * 2 ^ 9 + u.lanes * 2 ^ 2
  | 0x14 => u.tb * 2 ^ 28 + u.twin * 2 ^ 27 + u.touch * 2 ^ 18 + u.heads * 2 ^ 12 + u.scalers * 2 ^ 5 + u.src
  | 0x44 => s.word R.SYS_DB_SET
  | 0x4C => b2n (s.enabled R.SYS_DB_SET R.SYS_DB_EN) + b2n (s.enabled R.MISC_EVT R.MISC_IRQ_EN) * 2
  | _ => v

/-! ## FRESH, AWN, COMP, SPOOL, HEAD -/

/-- Global registers of FRESH (R80) and AWN (R321). -/
def State.viewFreshg (s : State) (o v : Nat) : Nat :=
  match o with
  | 0x0 => word32 0 s.freshChanged
  | 0x4 => word32 0 s.freshFailed
  | _ => v

def State.viewAwng (s : State) (o v : Nat) : Nat :=
  match o with
  | 0x24 => word32 0 (fun n => s.answers .pipeHead n 0 && s.get (F.AWN_STAT_CH_OK n) != 7)
  | 0x28 => word32 0 s.awnEvt
  | _ => v

/-- COMP.INFO (R277). -/
def State.compInfo (s : State) (n : Nat) : Nat :=
  s.stallCount n + b2n (s.hasWb n) * 16 +
  bitsFrom ((List.range 8).map (fun m => (s.scalerOf n m).isSome)) * 256

/-- SP.INFO (R342). -/
def State.spInfo (s : State) (k : Nat) : Nat :=
  match s.res 0x06 k with
  | some p => 2 ^ 15 + bitsOf p 4 0 * 256 + bitsOf p 7 5
  | none => 0

/-- HEAD.INFO (R392). -/
def State.headInfo (s : State) (n : Nat) : Nat :=
  match s.res 0x05 n with
  | some p => b2n (s.hasPipe n) + b2n (bitOf p 6) * 2 + b2n (bitOf p 7) * 4 + bitsOf p 3 0 * 16 +
      bitsOf p 5 4 * 256 + 2 ^ 16
  | none => 0

/-- A register of HEAD[n] (R348, R392, R394). -/
def State.viewHead (s : State) (n o v : Nat) : Nat :=
  match o with
  | 0x0 => s.headInfo n
  | 0x8 => v % 2 ^ 24 + s.slateCause n * 2 ^ 24
  | 0x1814 => v % 2 + b2n (s.lutFree n 0).isNone * 2 ^ 8 + b2n (s.lutFree n 1).isNone * 2 ^ 9
  | _ => v

/-- RGN[r].CFG of the awning rectangles (R399). -/
def State.viewRgn (s : State) (n r o v : Nat) : Nat :=
  if o = 0 ∧ 6 ≤ r then (if s.hasPipe n then 4 else 0) else v

/-- Global registers of HEAD (R401). -/
def State.viewHeadg (s : State) (o v : Nat) : Nat :=
  let live := fun n => s.answers .head n 0
  match o with
  | 0x0 => s.minTol
  | 0x4 => word32 0 s.headEvt
  | 0x8 => word32 0 (fun n => live n && s.flag (F.HEAD_STAT_FAULT n))
  | 0xC => word32 0 (fun n => live n && s.flag (F.HEAD_STAT_SLATE n))
  | _ => v

/-! ## INGR, DEC, ENC -/

/-- Global registers of INGR (R178). -/
def State.viewIngrg (s : State) (o i v : Nat) : Nat :=
  match o with
  | 0x0 => 512 * 2 ^ 16 + countTo 512 (fun i => s.answers .ingress i 0 && s.flag (F.INGR_CTRL_ENABLE i))
  | 0x100 => word32 i s.ingrEvt
  | _ => v

/-- Global registers of DEC (R227) and ENC (R471). -/
def State.viewDecg (s : State) (o i v : Nat) : Nat :=
  match o with
  | 0x0 => 128 * 2 ^ 16 + countTo 128 (fun c => s.answers .decode c 0 && s.flag (F.DEC_CTRL_ENABLE c))
  | 0x100 => word32 i s.decEvt
  | _ => v

def State.viewEncg (s : State) (o i v : Nat) : Nat :=
  match o with
  | 0x0 => 64 * 2 ^ 16 + countTo 64 (fun c => s.answers .encode c 0 && s.flag (F.ENC_CTRL_ENABLE c))
  | 0x100 => word32 i s.encEvt
  | _ => v

/-- CORE.STAT of a decode (0x02) or encode (0x03) core (R228). -/
def State.coreStat (s : State) (kind k : Nat) (busy : Bool) : Nat :=
  match s.res kind k with
  | some p => p % (if kind = 2 then 16 else 8) + 16 + b2n busy * 32
  | none => 0

/-- A register of a decode or encode core: STAT and BUSY (R228). -/
def State.viewCore (s : State) (kind k o : Nat) (r : CoreRec) (v : Nat) : Nat :=
  match o with
  | 0x0 => s.coreStat kind k (s.coreBusy r)
  | 0x8 => s.coreClocks r / 1024 % 2 ^ 32
  | _ => v

/-- A register of an encode context (R473, R474). -/
def State.viewEnc (s : State) (c o v : Nat) : Nat :=
  match o with
  | 0x34 => s.encPoolNeed c % 65536
  | 0x58 => v - bitsOf v 9 9 * 512 + b2n (s.flag (F.ENC_CTRL_ENABLE c) && s.keyDue c) * 512
  | _ => v

/-! ## Ports and links -/

/-- SRC.INFO (R430), SNK.INFO (R433). -/
def State.srcInfo (s : State) (k : Nat) : Nat :=
  (s.res 0x07 k).getD 0 % 8 + b2n (s.isEdp k) * 8 + bitsFrom ((List.range 4).map (fun t => (s.mapped k).any (·.1 == t))) * 256

/-- A register of SRC[k]; the panel registers read 0 on a port that is not eDP (R430). -/
def State.viewSrc (s : State) (k o v : Nat) : Nat :=
  if o = 0 then s.srcInfo k
  else if 0x40 ≤ o ∧ o ≤ 0x54 ∧ !s.isEdp k then 0
  else v

def State.viewSnk (s : State) (j o v : Nat) : Nat :=
  if o = 0 then (s.res 0x08 j).getD 0 % 8 else v

/-- DPO.EVT (R424). -/
def State.dpoEvt (s : State) : Nat :=
  word32 0 (fun i => if i < 16 then s.srcEvt i else decide (i < 24) && s.snkEvt (i - 16))

/-- A register of TWIN (R551, R553, R556). -/
def State.viewTwin (s : State) (o v : Nat) : Nat :=
  match o with
  | 0x0 => match s.plan with
    | some p => p.twin.mode % 4 + p.twin.prefer % 2 * 4 + p.twin.flags % 4 * 8 + p.twin.tickHz % 256 * 256
    | none => 0
  | 0x8 => v - bitsOf v 8 8 * 256 + b2n s.ready * 256
  | 0x14 => s.notReady
  | _ => v

/-! ## MEMC, TAG, TIME, IRQ -/

/-- Global registers of TAG (R590). -/
def State.viewTagg (s : State) (o i v : Nat) : Nat :=
  match o with
  | 0x0 => countTo 128 s.checkerPresent
  | 0x10 => s.vpend i
  | _ => v

/-- CHK.INFO (R590): a present checker's identifier and open masks. -/
def State.chkInfo (s : State) (i : Nat) : Nat :=
  let opn := match s.plan with
    | some p => match p.maskFor i with | some m => m.opn % 4 | none => 0
    | none => 0
  i + 2 ^ 16 + opn * 2 ^ 17

/-- A register of a checker (R590). -/
def State.viewChk (s : State) (i o v : Nat) : Nat :=
  match o with
  | 0x4 => s.chkInfo i
  | 0x1C => Tbl.get (fun _ => 0) s.chkBytes i / 64 % 2 ^ 32
  | _ => v

/-- A register of a time base (R597, R603, R614, R616). -/
def State.viewTb (s : State) (t o v : Nat) : Nat :=
  match o with
  | 0x4 => v % 4 + b2n (s.tbInUse t) * 4
  | 0x10 => s.tbNs t % 1000000000
  | 0x14 => s.nowLatched t 0
  | 0x18 => s.nowLatched t 1
  | 0x1C => s.nowLatched t 2
  | 0x44 | 0x48 => if s.pkgQ then v else 0
  | _ => v

/-- A register of one timestamp queue, at its offset (R608, R618). -/
def tsView (q : List TsEntry) (o v : Nat) : Nat :=
  let t := match q with | e :: _ => e.stamp | [] => 0
  let ns := t / 65536
  match o with
  | 0x0 => v / 2 ^ 31 * 2 ^ 31 + q.length
  | 0x4 => match q with | e :: _ => 2 ^ 31 + e.id % 65536 | [] => 0
  | 0x8 => ns % 1000000000
  | 0xC => ns / 1000000000 % 2 ^ 32
  | 0x10 => ns / 1000000000 / 2 ^ 32 % 65536 + t % 65536 * 65536
  | _ => v

/-- A register of TIME PORT[p] (R618). -/
def State.viewTport (s : State) (p o v : Nat) : Nat :=
  let q := s.tsqs p
  if 0x20 ≤ o ∧ o < 0x34 then tsView q.tx (o - 0x20) v
  else if 0x40 ≤ o ∧ o < 0x54 then tsView q.rx (o - 0x40) v
  else v

/-- Global registers of TIME (R619). -/
def State.viewTimeg (s : State) (o v : Nat) : Nat :=
  match o with
  | 0x0 => s.variant.tb % 16 + b2n s.pkgQ * 16
  | 0x4 => word32 0 (fun i => if i < 8 then s.tbEvt i else decide (16 ≤ i && i < 24) && s.tportEvt (i - 16))
  | _ => v

/-- The source belongs to an absent or unused unit (R14). -/
def State.sourceAbsent (s : State) (i : Nat) : Bool :=
  !s.sourceUsed i

/-- SRC[i].CFG (R14, R625, R639). (DEDUCED, log 57.) -/
def State.irqCfg (s : State) (i v : Nat) : Nat :=
  if 496 ≤ i ∧ i < 508 then 2 ^ 31 + 15 * 2 ^ 16 + faultTargets (i - 496)
  else if s.sourceAbsent i then v % 2 ^ 29
  else v - bitsOf v 29 29 * 2 ^ 29 + b2n (s.isEdge i) * 2 ^ 29

/-- Global registers of IRQ (R643). -/
def State.viewIrqg (s : State) (o i v : Nat) : Nat :=
  match o with
  | 0x0 => 512 + 12 * 2 ^ 16 + 32 * 2 ^ 24
  | 0x10 => 0
  | 0x200 => s.pendWord i
  | 0x240 => s.inservWord i
  | 0x1000 => s.irqCfg i v
  | _ => v

/-- A register of a target; a read of CLAIM is `State.claim` (R641, R643). -/
def State.viewTgt (s : State) (k o i v : Nat) : Nat :=
  match o with
  | 0x4 => s.tgtStat k
  | 0x40 => s.stackEntry k i
  | _ => v

/-! ## LANE, shells, AUD, THERM, CLKRST, FLT, MISC -/

/-- LANE.INFO (R685). -/
def State.laneInfo (s : State) (l : Nat) : Nat :=
  let fn := s.laneFn l
  fn + (s.laneUnit l).1 * 2 ^ 8 + (s.laneUnit l).2 * 2 ^ 16 + b2n (laneTx fn) * 2 ^ 20 + b2n (laneRx fn) * 2 ^ 21

/-- A register of a lane: RATE reads 0 but on raw and wall-link lanes, RAW_CFG but on raw lanes (R665, R684). -/
def State.viewLane (s : State) (l o v : Nat) : Nat :=
  match o with
  | 0x0 => s.laneInfo l
  | 0x14 => if s.laneRaw l || s.laneFn l == 4 then v else 0
  | 0x18 => if s.laneRaw l then v else 0
  | _ => v

/-- A register of the shell whose window starts at `b` (R835 to R837). -/
def State.viewShell (s : State) (b o i v : Nat) : Nat :=
  match shellOf b with
  | none => v
  | some (k, n) =>
    match o with
    | 0x0 => k * 2 ^ 24 + Config.shellRev k % 256 * 2 ^ 16 + n
    | 0x4 => b2n (s.shellOwned b) * 256
    | 0x10 => if k = 1 then v else Config.testTrim (R.SH_TRIM b i) % 2 ^ 32
    | 0x40 => v % 32 + b2n (v % 32 != 0) * 2 ^ 31
    | _ => v

/-- A register of a SAP (R709). -/
def State.viewSap (s : State) (p o v : Nat) : Nat :=
  if o = 0x50 then v - bitsOf v 4 4 * 16 + b2n (s.sapLeader p == some p) * 16 else v

/-- A register of THERM (R751, R754). -/
def State.viewTherm (s : State) (o i v : Nat) : Nat :=
  match o with
  | 0x0 => v - bitsOf v 9 9 * 512 + b2n s.rearmOk * 512
  | 0x1C => toSixteenths s.boundary
  | 0x2C => s.belowMs
  | 0x80 => toSixteenths (((s.therm.chans[s.therm.shown]?.map (·.nodes)).getD [])[i]?.getD s.boundary)
  | _ => v

/-- Injection points armed, those of shells included (R815). -/
def State.armedCount (s : State) : Nat :=
  countTo 96 (fun d => s.flag (F.FLT_INJ_PEND d)) +
  (shellKinds.flatMap (fun (_, lo, n) => (List.range n).filter (fun i => s.flag (F.SH_INJ_PEND (lo + i * 0x1000))))).length

/-- A register of FLT (R808, R815). -/
def State.viewFlt (s : State) (o i v : Nat) : Nat :=
  match o with
  | 0x0 => b2n s.injOk * 2 ^ 31 + s.armedCount % 256
  | 0x400 => if i = 0x35 ∨ i = 0x3E ∨ i = 0x41 then 0 else v
  | _ => v

/-- A register of MISC (R831). -/
def State.viewMisc (s : State) (o v : Nat) : Nat :=
  match o with
  | 0x50 => ownerCode s.qspi.owner + b2n s.qspi.present * 256
  | 0x54 => s.qspi.id % 2 ^ 24
  | _ => v

/-! ## Every register -/

/-- A register of a block's regions, with its stored value `v`: blocks 0 to 10. (DEDUCED, log 14.) -/
def State.viewLow (s : State) (pl : Place) (v : Nat) : Nat :=
  let o := pl.reg.off
  match pl.region.base with
  | 0x40000000 => s.viewSys o v
  | 0x40280000 => s.viewFreshg o v
  | 0x40380000 => s.viewAwng o v
  | 0x40400000 => s.viewIngrg o pl.i v
  | 0x40500000 => s.viewDecg o pl.i v
  | 0x40500400 => s.viewCore 2 pl.n o (s.decCore pl.n) v
  | 0x40600000 => s.viewEncg o pl.i v
  | 0x40600400 => s.viewCore 3 pl.n o (s.encCore pl.n) v
  | 0x40610000 => s.viewEnc pl.n o v
  | 0x40700000 => if o = 0 then s.compInfo pl.n else v
  | 0x40780000 => word32 0 s.compEvt
  | 0x40800000 => if o = 0 then s.spInfo pl.n else v
  | 0x40880000 => word32 pl.i s.spEvt
  | 0x40900000 => s.viewHead pl.n o v
  | 0x40900100 => s.viewRgn pl.n pl.m o v
  | 0x40980000 => s.viewHeadg o v
  | 0x40a00000 => s.viewSrc pl.n o v
  | 0x40a20000 => s.viewSnk pl.n o v
  | 0x40a80000 => s.dpoEvt
  | _ => v

/-- The same for blocks 11 to 25. -/
def State.viewHigh (s : State) (pl : Place) (v : Nat) : Nat :=
  let o := pl.reg.off
  match pl.region.base with
  | 0x40b00000 => if o = 0 then (s.res 0x0E 0).getD 0 % 16 else v
  | 0x40b00200 => if o = 0 then v % 2 + b2n (s.peerInForce pl.n) * 2 else v
  | 0x40c00000 => s.viewTwin o v
  | 0x40e00000 => s.viewTagg o pl.i v
  | 0x40e10000 => s.viewChk pl.n o v
  | 0x40f00000 => s.viewTb pl.n o v
  | 0x40f01000 => s.viewTport pl.n o v
  | 0x40f80000 => s.viewTimeg o v
  | 0x41000000 => s.viewIrqg o pl.i v
  | 0x41002000 => s.viewTgt pl.n o pl.i v
  | 0x41200000 => s.viewLane pl.n o v
  | 0x41260000 => bitsFrom ((List.range 16).map (fun k => s.laneEvt (16 * pl.i + k)))
  | 0x41300000 => s.viewSap pl.n o v
  | 0x41500000 => s.viewTherm o pl.i v
  | 0x41700000 => if o = 0x20 then sat 16 s.wdogLeft else v
  | 0x41800000 => s.viewFlt o pl.i v
  | 0x41900000 => s.viewMisc o v
  | _ => v

/-- The region holds shell windows. -/
def isShellRegion (g : Region) : Bool :=
  (shellOf g.base).isSome

/-- Bits of a register that do not read as zero: every field but the WO ones (R26). -/
def readableBits (r : RegSpec) : Nat :=
  r.fields.foldl (fun v f => if f.acc = .wo then v else v + maskBits f.hi f.lo) 0

/-- What the register at a place reads as, before the effects of the read. (DEDUCED, log 14.) -/
def State.view (s : State) (a : Nat) (pl : Place) : W32 :=
  let v := s.word (a / 4 * 4)
  let x := if isShellRegion pl.region then s.viewShell (pl.region.base + pl.n * 0x1000) pl.reg.off pl.i v
    else if pl.region.base < 0x40b00000 then s.viewLow pl v else s.viewHigh pl v
  BitVec.ofNat 32 x &&& BitVec.ofNat 32 (readableBits pl.reg)

end Sys2Proof.Machine
end

