-- ==== Sys2Proof/Machine/Bus.lean ====
section
/-! DEFINITION. The register bus: reads and writes of control space by software masters (chapters 00 and 24), the outcome of an
UNPREDICTABLE access, and what the part makes of its state after any command. -/

namespace Sys2Proof.Machine

/-! ## Registers of one layout -/

/-- A place as the guard of a write sees it. -/
def placeAt (a : Nat) (pl : Place) : RegAt :=
  ⟨a, pl.region.unit, pl.n, pl.m, pl.reg.fields.foldl (fun v f => v + maskBits f.hi f.lo) 0⟩

/-- Some field of the register may be written (R26). -/
def writable (r : RegSpec) : Bool :=
  r.fields.any (fun f => f.acc == .rw || f.acc == .rwp)

/-- A write that passed the guard takes effect under the access types and the rule of pairs (R25, R26). -/
def State.typedWrite (s : State) (a : Nat) (pl : Place) (w : Wr) : State :=
  match pl.reg.half with
  | .low => if writable pl.reg then s.holdLow a w.data else s.plainWrite w a
  | .high => s.highWrite w a
  | .single => s.plainWrite w a

/-- A write of a register without an effect of its own. -/
def State.ordinary (s : State) (a : Nat) (pl : Place) (w : Wr) : State :=
  s.guarded (placeAt a pl) w fun s => s.typedWrite a pl w

/-- A write ignored while a condition holds. -/
def State.unless (s : State) (frozen : Bool) (a : Nat) (pl : Place) (w : Wr) : State :=
  s.guarded (placeAt a pl) w fun s => if frozen then s else s.typedWrite a pl w

/-- A write that is UNPREDICTABLE, confined to a range, where a condition fails. -/
def State.inRange (s : State) (ok : Bool) (lo hi a : Nat) (pl : Place) (w : Wr) : State :=
  s.guarded (placeAt a pl) w fun s => if ok then s.typedWrite a pl w else s.unpredictable w.master lo hi

/-! ## Consumer indices (R169, R190, R234, R283, R477, R711) -/

/-- A pipe with a stall that follows a ring. (DEDUCED, log 18.) -/
def State.followingPipe (s : State) (kind i : Nat) : Option Nat :=
  (List.range 32).find? (fun n => (List.range 8).any (fun m => s.follows n m == some (kind, i)))

/-- A decode context, an audio port that consumes ingress entry `i` (R195, R694). (DEDUCED, log 18.) -/
def State.decConsumer (s : State) (i : Nat) : Option Nat :=
  (List.range 128).find? (fun c => s.flag (F.DEC_CTRL_ENABLE c) && !s.flag (F.DEC_CTRL_INPUT c) && s.get (F.DEC_SRC_ENTRY c) == i)

def State.sapConsumer (s : State) (i : Nat) : Option Nat :=
  (List.range 8).find? (fun p => s.flag (F.SAP_CTRL_RUN p) && s.get (F.SAP_ROUTE_TX_SRC p) == 1 && s.word (R.SAP_BIND p) % 512 == i)

/-- A write of a ring's consumer index where the ring has stall followers is UNPREDICTABLE (R283). -/
def State.released (s : State) (kind i : Nat) (a : RegAt) (w : Wr) (act : State → State) : State :=
  match s.followingPipe kind i with
  | some n => s.guarded a w fun s => s.unpredictable w.master (R.COMP_INFO n) (R.COMP_INFO n + 0x3FFF)
  | none => act s

/-- A write of STREAM[i].RD_IDX (STREAM_RD_IDX_WRITE). -/
def State.releaseStream (s : State) (i : Nat) (w : Wr) : State :=
  s.released 0 i (G.INGR_RD_IDX i) w fun s =>
    match s.decConsumer i, s.sapConsumer i with
    | some c, _ => s.guarded (G.INGR_RD_IDX i) w fun s => s.decUnpred c w.master
    | none, some p => s.guarded (G.INGR_RD_IDX i) w fun s => s.unpredictable w.master (R.SAP_CTRL p) (R.SAP_CTRL p + 0xFF)
    | none, none => s.writeStreamRd i w

/-- A write of a decode context's OUT_RD_IDX (DEC_OUT_RD_IDX_WRITE). -/
def State.releaseDec (s : State) (c : Nat) (w : Wr) : State :=
  s.released 1 c (G.DEC_OUT_RD_IDX c) w fun s => s.writeDecRd c w

/-- A write of WB_RD_IDX (R282, R283). -/
def State.releaseWb (s : State) (n a : Nat) (pl : Place) (w : Wr) : State :=
  let rd := s.get (F.COMP_WB_RD_IDX_IDX n)
  let ok := ahead (w.data.toNat % 65536) rd ≤ ahead (s.get (F.COMP_WB_WR_IDX_IDX n)) rd
  s.released 2 n (placeAt a pl) w fun s => s.inRange ok (R.COMP_INFO n) (R.COMP_INFO n + 0x3FFF) a pl w

/-- A write of RXQ_RD or TXQ_WR of an Ethernet port within its queue (R180, R190). -/
def State.ethIdxOk (s : State) (p : Nat) (tx : Bool) (v : Nat) : Bool :=
  if tx then decide (ahead v (s.get (F.INGRP_TXQ_RD_IDX p)) ≤ 2 ^ s.get (F.INGRP_QCFG_TXQ_LOG2 p))
  else decide (ahead v (s.get (F.INGRP_RXQ_RD_IDX p)) ≤ ahead (s.get (F.INGRP_RXQ_WR_IDX p)) (s.get (F.INGRP_RXQ_RD_IDX p)))

/-! ## Writes of registers with an effect of their own, by block -/

/-- FRESH: MARK_EN of a live-class stall reads 1 and ignores writes (R73). -/
def State.writeFreshCfg (s : State) (n m a : Nat) (pl : Place) (w : Wr) : State :=
  s.guarded (placeAt a pl) w fun s =>
    let s := s.plainWrite w a
    s.cond (s.get (F.FSTALL_CFG_CLASS n m) == 1) (·.raise (F.FSTALL_CFG_MARK_EN n m))

/-- SYS and PLAN (R134, R135, R139, R827). -/
def State.writeSysPlan (s : State) (a : Nat) (pl : Place) (w : Wr) : State :=
  if a = R.SYS_DB_SET then s.writeDbSet w
  else if a = R.SYS_DB_CLR then s.writeDbClr w
  else if a = R.PLAN_CTRL then s.writePlanCtrl w
  else if a = R.PLAN_EVENT then s.guarded (placeAt a pl) w fun s => s.writePlanEvent w
  else s.unless (s.planFrozen a) a pl w

/-- FRESH and AWN (R58, R319, R321). -/
def State.writeFreshAwn (s : State) (a : Nat) (pl : Place) (w : Wr) : State :=
  if a = R.FRESH_ATTEST_CTRL pl.n then s.writeAttestCtrl pl.n w
  else if a = R.FSTALL_CFG pl.n pl.m then s.writeFreshCfg pl.n pl.m a pl w
  else if a = R.AWNG_BUNDLE_CTRL then s.writeBundleCtrl w
  else if a = R.AWNG_BUNDLE_SRC_LO ∨ a = R.AWNG_BUNDLE_SRC_HI then s.unless (s.flag F.AWNG_BUNDLE_STAT_BUSY) a pl w
  else s.ordinary a pl w

/-- A write to a register of an enabled stream entry that may not change: ignored, with CFG_REJ (R146). -/
def State.writeStreamCfg (s : State) (i a : Nat) (pl : Place) (w : Wr) : State :=
  s.guarded (placeAt a pl) w fun s =>
    if s.flag (F.INGR_CTRL_ENABLE i) && !entryOpen a then s.raise (F.INGR_STAT_CFG_REJ i) else s.typedWrite a pl w

/-- INGR. -/
def State.writeIngr (s : State) (a : Nat) (pl : Place) (w : Wr) : State :=
  let v := w.data.toNat
  let p := pl.n
  if pl.region.unit = .ingress then
    if a = R.INGR_CTRL p then s.writeStreamCtrl p w
    else if a = R.INGR_RD_IDX p then s.releaseStream p w
    else s.writeStreamCfg p a pl w
  else if a = R.INGRP_RXQ_RD p then s.inRange (s.ethIdxOk p false v) (R.INGRP_RXQ_BASE_LO p) (R.INGRP_RX_OVF p) a pl w
  else if a = R.INGRP_TXQ_WR p then s.inRange (s.ethIdxOk p true v) (R.INGRP_RXQ_BASE_LO p) (R.INGRP_RX_OVF p) a pl w
  else s.ordinary a pl w

/-- DEC (R197, R229 to R232). LIMITS, POOL, DESC_LOG2 and DATA_LOG2 outside the ranges that R230 and R232 give are stored and used
as written. (DESIGN CHOICE, log 81.) -/
def State.writeDecReg (s : State) (a : Nat) (pl : Place) (w : Wr) : State :=
  let c := pl.n
  if a = R.DEC_CTRL c then s.writeDecCtrl c w
  else if a = R.DEC_CMD_WR_IDX c then s.writeDecCmd c w
  else if a = R.DEC_OUT_RD_IDX c then s.releaseDec c w
  else if a = R.DEC_KEYREQ c then s.writeDecKeyreq c w
  else s.guarded (placeAt a pl) w fun s =>
    if s.flag (F.DEC_CTRL_ENABLE c) && !decOpen a then s.raise (F.DEC_STAT_CFG_REJ c)
    else (s.typedWrite a pl w).cond (a == R.DEC_LIMITS c) (·.decNeed c)

/-- ENC (R443, R473): RATE, QP and MARGIN of an enabled context take values within their ranges. -/
def State.writeEncReg (s : State) (a : Nat) (pl : Place) (w : Wr) : State :=
  let c := pl.n
  if a = R.ENC_CTRL c then s.writeEncCtrl c w
  else if a = R.ENC_OUT_RD_IDX c then s.writeEncRd c w
  else if a = R.ENC_KEYREQ c then s.writeEncKeyreq c w
  else s.guarded (placeAt a pl) w fun s =>
    let live := a == R.ENC_RATE c || a == R.ENC_QP c || a == R.ENC_MARGIN c
    if s.flag (F.ENC_CTRL_ENABLE c) && (!encOpen a || (live && !s.encRateWrite c a w.data.toNat)) then
      s.raise (F.ENC_STAT_CFG_REJ c)
    else s.typedWrite a pl w

/-- COMP. -/
def State.writeComp (s : State) (a : Nat) (pl : Place) (w : Wr) : State :=
  if a = R.COMP_WB_CTRL pl.n then s.writeWbCtrl pl.n w
  else if a = R.COMP_WB_RD_IDX pl.n then s.releaseWb pl.n a pl w
  else if a = R.CSTALL_CTRL pl.n pl.m then s.writeStallCtrl pl.n pl.m w
  else if a = R.CSTALL_SRC pl.n pl.m then s.writeStallSrc pl.n pl.m w
  else if a = R.CSTALL_BASE_HI pl.n pl.m then s.writeBaseHi pl.n pl.m w
  else s.ordinary a pl w

/-- SPOOL. -/
def State.writeSpool (s : State) (a : Nat) (pl : Place) (w : Wr) : State :=
  let k := pl.n
  if a = R.SP_CTRL k then s.writeSpCtrl k w
  else if a = R.SP_COEF_INDEX k then s.guarded (placeAt a pl) w fun s => s.writeCoefIndex k w
  else if a = R.SP_COEF_DATA k then s.writeCoefData k w
  else if a = R.SP_COEF_CMD k then s.writeCoefCmd k w
  else s.ordinary a pl w

/-- PIXCLK changes what the head's port has to carry (R353, R408). -/
def State.pixclkWrite (s : State) (n : Nat) (w : Wr) : State :=
  let t := s.writePixclk n w
  t.cond (t.word (R.HEAD_PIXCLK n) != s.word (R.HEAD_PIXCLK n)) (fun u => u.dpChanged (u.portOf n).1)

/-- PSR_CTRL: UPDATE forces an exit, and so does EN cleared, even if it is set again before the latch (R384, R400). -/
def State.writePsrCtrl (s : State) (n a : Nat) (pl : Place) (w : Wr) : State :=
  s.guarded (placeAt a pl) w fun s =>
    let on := s.flag (F.HEAD_PSR_CTRL_EN n)
    let s := s.plainWrite w a
    let h := s.head n
    s.setHead n { h with psrUpdate := h.psrUpdate || bitOf w.data.toNat 30,
                         psrCleared := h.psrCleared || (on && !s.flag (F.HEAD_PSR_CTRL_EN n)) }

/-- A rectangle's registers: those of rectangles 6 and 7 are RO; a reserved MODE is UNPREDICTABLE (R399, R402). -/
def State.writeRgn (s : State) (n r a : Nat) (pl : Place) (w : Wr) : State :=
  if 6 ≤ r then s.guarded (placeAt a pl) w id
  else s.inRange (a != R.RGN_CFG n r || w.data.toNat % 8 ≤ 3) (R.HEAD_INFO n) (R.HEAD_INFO n + 0x1FFF) a pl w

/-- HEAD. -/
def State.writeHead (s : State) (a : Nat) (pl : Place) (w : Wr) : State :=
  let n := pl.n
  let v := w.data.toNat
  if pl.region.count2 = 8 then s.writeRgn n pl.m a pl w
  else if a = R.HEAD_CTRL n then s.writeHeadCtrl n w
  else if a = R.HEAD_COMMIT n then s.writeCommit n w
  else if a = R.HEAD_PIXCLK n then s.pixclkWrite n w
  else if a = R.HEAD_PSR_CTRL n then s.writePsrCtrl n a pl w
  else if a = R.HEAD_LUT_INDEX n ∧ (s.head n).lutReset then s.guarded (placeAt a pl) w (·.lutIgnored n)
  else if a = R.HEAD_LUT_DATA0 n then s.guarded (placeAt a pl) w fun s => s.writeLutData0 n w
  else if a = R.HEAD_LUT_DATA1 n then s.writeLutData1 n w
  else if a = R.HEAD_DITHER n then
    s.inRange (v % 4 != 3 && bitsOf v 5 4 != 3) (R.HEAD_INFO n) (R.HEAD_INFO n + 0x1FFF) a pl w
  else s.ordinary a pl w

/-- DPO: panel registers of a port that is not eDP ignore writes; EDID writes are ignored while HPD_EN is 1 (R421, R430). -/
def State.writeSrc (s : State) (a : Nat) (pl : Place) (w : Wr) : State :=
  let k := pl.n
  if a = R.SRC_CTRL k then s.writeSrcCtrl k w
  else if a = R.SRC_AUX_CMD k then s.writeAuxCmd k w
  else if a = R.SRC_PANEL_CTRL k then s.writePanelCtrl k w
  else if (a = R.SRC_BL_PERIOD k ∨ a = R.SRC_BL_DUTY k) ∧ s.isEdp k then s.writePwm k (·.ordinary a pl w)
  else s.unless (R.SRC_PANEL_CTRL k ≤ a && a ≤ R.SRC_PANEL_STAT k && !s.isEdp k) a pl w

def State.writeSnk (s : State) (a : Nat) (pl : Place) (w : Wr) : State :=
  let j := pl.n
  if a = R.SNK_CTRL j then s.writeSnkCtrl j w
  else if a = R.SNK_HPD_PULSE j then s.writeHpdPulse j w
  else if R.SNK_EDID j 0 ≤ a ∧ s.flag (F.SNK_CTRL_HPD_EN j) then
    s.guarded (placeAt a pl) w fun s => s.raise (F.SNK_EVT_CFG_REJ_EV j)
  else s.ordinary a pl w

/-- WLK and TWIN. -/
def State.writeLinks (s : State) (a : Nat) (pl : Place) (w : Wr) : State :=
  let v := w.data.toNat
  if a = R.WLK_CTRL then s.writeWlkCtrl w
  else if a = R.WLK_RXQ_RD then s.inRange (s.wlkIdxOk false v) R.WLK_INFO (R.WLK_INFO + 0x3FF) a pl w
  else if a = R.WLK_TXQ_WR then s.inRange (s.wlkIdxOk true v) R.WLK_INFO (R.WLK_INFO + 0x3FF) a pl w
  else if a = R.WLK_QCFG ∨ (R.WLK_RXQ_BASE_LO ≤ a ∧ a ≤ R.WLK_TXQ_BASE_HI) then s.writeWlkQueue w (·.ordinary a pl w)
  else if a = R.TWIN_CTRL then s.writeTwinCtrl w
  else s.ordinary a pl w

/-- A move of the host's window (R585, R591). -/
def State.writeHwinHi (s : State) (a : Nat) (pl : Place) (w : Wr) : State :=
  s.guarded (placeAt a pl) w fun s =>
    let t := s.typedWrite a pl w
    if t.windowClash (t.addrPair R.MEMC_HWIN_LO R.MEMC_HWIN_HI) then t.unpredictable w.master 0 everywhere else t

/-- Clearing VALID clears the record of the first refusal (R579). (DEDUCED, log 18.) -/
def State.writeVstat (s : State) (i a : Nat) (pl : Place) (w : Wr) : State :=
  s.guarded (placeAt a pl) w fun s =>
    (s.plainWrite w a).cond (w.data.toNat % 2 == 1) fun s =>
      ((s.setWord (R.CHK_FIRST_ADDR_LO i) 0).setWord (R.CHK_FIRST_ADDR_HI i) 0).setWord (R.CHK_FIRST_INFO i) 0

/-- TAG. -/
def State.writeTag (s : State) (a : Nat) (pl : Place) (w : Wr) : State :=
  if a = R.TAG_RC_CTRL then s.writeRcCtrl w
  else if a = R.TAG_RC_PAGE ∨ a = R.TAG_RC_COUNT then s.unless (s.flag F.TAG_RC_STAT_BUSY) a pl w
  else if a = R.CHK_VSTAT pl.n then s.writeVstat pl.n a pl w
  else s.ordinary a pl w

/-- TIME (R603, R604, R611). -/
def State.writeTime (s : State) (a : Nat) (pl : Place) (w : Wr) : State :=
  let t := pl.n
  if a = R.TB_CTRL t then s.writeTbCtrl t w
  else if a = R.TB_RATE_LO t ∧ s.servoOn t then s.guarded (placeAt a pl) w fun s => s.raise (F.TB_EVT_CFG_REJ_EV t)
  else if a = R.TB_RATE_HI t then s.writeRateHi t w
  else if a = R.TB_OFFSET_IN t then s.writeOffsetIn t w
  else if a = R.TB_SERVO t then s.writeServo t w
  else if a = R.TB_STEP_THRESH t then s.unless (!s.pkgQ) a pl w
  else if a = R.TPORT_PTP_CFG t then s.guarded (placeAt a pl) w fun s => s.writePtpCfg t w
  else if a = R.TPORT_TXTS_POP t then s.writeTsPop t true w
  else if a = R.TPORT_RXTS_POP t then s.writeTsPop t false w
  else s.ordinary a pl w

/-- A write of the MSI-X table: an unmasked vector that waits is sent (R644). (PRESUMED, log 69.) -/
def State.writeMsix (s : State) (a : Nat) (pl : Place) (w : Wr) : State :=
  s.guarded (placeAt a pl) w fun s => (s.plainWrite w a).unmaskMsix (pl.i / 4)

/-- IRQ (R625, R633 to R636). -/
def State.writeIrq (s : State) (a : Nat) (pl : Place) (w : Wr) : State :=
  let k := pl.n
  if a = R.IRQ_SWI_SET then s.writeSwiSet w
  else if a = R.TGT_COMPLETE k then s.writeComplete k w
  else if a = R.TGT_STACK_RESET k then s.writeStackReset k w
  else if R.MSIX_TABLE 0 ≤ a ∧ a < R.MSIX_PBA then s.writeMsix a pl w
  else s.unless (R.IRQ_CFG 496 ≤ a && a ≤ R.IRQ_CFG 507) a pl w

/-- LANE. -/
def State.writeLane (s : State) (a : Nat) (pl : Place) (w : Wr) : State :=
  let l := pl.n
  if a = R.LANE_CTRL l then s.writeLaneCtrl l w
  else if a = R.LANE_RATE l then s.writeLaneRate l w
  else if a = R.LANE_RAW_CFG l then s.writeRawCfg l w
  else s.ordinary a pl w

/-- A shell; `b` is the first address of its window (R834 to R838). -/
def State.writeShell (s : State) (b a : Nat) (pl : Place) (w : Wr) : State :=
  match pl.reg.off with
  | 0x4 => s.writeCal b w
  | 0x10 => s.writeTrim b pl.i w
  | 0x44 => s.writeShellInj b w
  | _ => s.ordinary a pl w

/-- AUD (R711). -/
def State.writeAud (s : State) (a : Nat) (pl : Place) (w : Wr) : State :=
  let p := pl.n
  let v := w.data.toNat
  if a = R.AUDG_PLL_CFG then s.writePllCfg w
  else if a = R.AUDG_PLL_ADJ then s.writePllAdj w
  else if a = R.SAP_CTRL p then s.writeSapCtrl p w
  else if a = R.SAP_SLOT_MASK p then s.writeSlotMask p w
  else if a = R.SAP_TX_WR p then s.inRange (s.sapIdxOk p true v) (R.SAP_CTRL p) (R.SAP_CTRL p + 0xFF) a pl w
  else if a = R.SAP_RX_RD p then s.inRange (s.sapIdxOk p false v) (R.SAP_CTRL p) (R.SAP_CTRL p + 0xFF) a pl w
  else s.ordinary a pl w

/-- TCH. -/
def State.writeTch (s : State) (a : Nat) (pl : Place) (w : Wr) : State :=
  let g := pl.n
  if a = R.TCH_CTRL g then s.writeTchCtrl g w
  else if a = R.TCH_CFG g then s.writeTchCfg g false w
  else if a = R.TCH_SCAN g then s.writeTchCfg g true w
  else if a = R.TCH_CH_EN_LO g then s.writeChEn g false w
  else if a = R.TCH_CH_EN_HI g then s.writeChEn g true w
  else if a = R.TCH_Q_RD g then s.writeTchRd g w
  else if R.TCH_Q_BASE_LO g ≤ a ∧ a ≤ R.TCH_Q_CFG g then s.writeTchQueue g w (·.ordinary a pl w)
  else s.ordinary a pl w

/-- THERM, SEC and CVE. -/
def State.writeThermSecCve (s : State) (a : Nat) (pl : Place) (w : Wr) : State :=
  if a = R.THERM_CTRL then s.writeThermCtrl w
  else if a = R.SEC_MB_CMD then s.writeMbCmd w
  else if a = R.CVE_CTRL pl.n then s.writeCveCtrl pl.n w
  else s.unless (s.mbFrozen a || (blockOf a == 17 && s.cveFrozen pl.n a)) a pl w

/-- CLKRST. -/
def State.writeClkrst (s : State) (a : Nat) (pl : Place) (w : Wr) : State :=
  if a = R.CLKRST_SWRST then s.writeSwrst w
  else if a = R.CLKRST_WDOG_CFG then s.writeWdogCfg w
  else if a = R.CLKRST_WDOG_KICK then s.writeWdogKick w
  else if a = R.CLKRST_BOOT_CTRL then s.writeBootCtrl w
  else if a = R.CC_CTRL pl.n then s.writeCcCtrl pl.n w
  else s.ordinary a pl w

/-- FLT and MISC. -/
def State.writeFltMisc (s : State) (a : Nat) (pl : Place) (w : Wr) : State :=
  if a = R.FLT_RD_IDX then s.writeRdIdx w
  else if R.FLT_INJ 0 ≤ a ∧ a ≤ R.FLT_INJ 95 then s.writeInj pl.i w
  else if a = R.MISC_GQ_RD then s.writeGqRd w
  else if a = R.MISC_GPIO_QEN ∨ (R.MISC_GQ_BASE_LO ≤ a ∧ a ≤ R.MISC_GQ_CFG) then s.writeGpioQueue w (·.ordinary a pl w)
  else if a = R.I2C_CMD pl.n then s.writeI2cCmd pl.n w
  else s.ordinary a pl w

/-- A write of the register at a place. (DESIGN CHOICE, log 22.) -/
def State.writeReg (s : State) (a : Nat) (pl : Place) (w : Wr) : State :=
  if isShellRegion pl.region then s.writeShell (pl.region.base + pl.n * 0x1000) a pl w
  else match blockOf a with
  | 0 | 1 => s.writeSysPlan a pl w
  | 2 | 3 => s.writeFreshAwn a pl w
  | 4 => s.writeIngr a pl w
  | 5 => if pl.region.unit = .decode then s.writeDecReg a pl w else s.ordinary a pl w
  | 6 => if pl.region.unit = .encode then s.writeEncReg a pl w else s.ordinary a pl w
  | 7 => s.writeComp a pl w
  | 8 => s.writeSpool a pl w
  | 9 => s.writeHead a pl w
  | 10 => if pl.region.unit = .src then s.writeSrc a pl w else s.writeSnk a pl w
  | 11 | 12 => s.writeLinks a pl w
  | 13 => if a = R.MEMC_HWIN_HI then s.writeHwinHi a pl w else s.ordinary a pl w
  | 14 => s.writeTag a pl w
  | 15 => s.writeTime a pl w
  | 16 => s.writeIrq a pl w
  | 18 => s.writeLane a pl w
  | 19 => s.writeAud a pl w
  | 20 => s.writeTch a pl w
  | 17 | 21 | 22 => s.writeThermSecCve a pl w
  | 23 => s.writeClkrst a pl w
  | _ => s.writeFltMisc a pl w

/-! ## Offsets without a register (R20, R23, R820, R825) -/

/-- The instance that an address without a register belongs to: none beyond the count of an instanced region. -/
def reservedAt (a : Nat) : Option RegAt :=
  let gs := blockRegions (blockOf a)
  match gs.findSome? (fun g => if g.count = 0 then none else (g.split a).map (fun p => (g, p))) with
  | some (g, n, m, _) => some ⟨a, g.unit, n, m, 0⟩
  | none =>
    let below := gs.filter (fun g => g.base ≤ a)
    match below.foldl (fun (best : Option Region) g => match best with
        | some b => if b.base < g.base then some g else best
        | none => some g) none with
    | some g => if g.count = 0 then some ⟨a, g.unit, 0, 0, 0⟩ else none
    | none => none

/-- A write to a reserved offset of a present instance is UNPREDICTABLE; to any other it is ignored. -/
def State.writeNowhere (s : State) (a : Nat) (w : Wr) : State :=
  match reservedAt a with
  | none => s
  | some r => match s.gate w.master r with
    | .refused => s.recordRefusal w.master a 4 true 5
    | .ignored => s
    | .passed => s.unpredictable w.master 0 everywhere

/-! ## Accesses -/

/-- A 32-bit write that reaches control space. -/
def State.writeWord (s : State) (a : Nat) (w : Wr) : State :=
  match placeOf a with
  | some pl => s.writeReg a pl w
  | none => s.writeNowhere a w

/-- A narrower write, or one that is not aligned, is UNPREDICTABLE where its register answers (R22). -/
def State.writeNarrow (s : State) (a : Nat) (w : Wr) : State :=
  match placeOf a with
  | some pl => s.guarded { placeAt (a / 4 * 4) pl with valid := 0xFFFFFFFF } w fun s => s.unpredictable w.master 0 everywhere
  | none => s.writeNowhere a w

/-- A write by a software master passes its checker (R575, R577): refused, or acted on by `act`. -/
def State.busWrite (s : State) (master a size : Nat) (act : State → State) : State :=
  if s.inReset.isSome then s
  else
    let (refused, s) := s.checked master a size true
    let s := { s with resp := some ⟨[], refused⟩ }
    if refused then s else act s

/-- REGISTER_WRITE. (DEDUCED, log 73.) -/
def State.softWrite (s : State) (master a size : Nat) (data : W32) : State :=
  if spaceOf a ≠ .cspace then s
  else s.busWrite master a size fun s =>
    if size = 4 ∧ a % 4 = 0 then s.writeWord a ⟨master, data⟩ else s.writeNarrow a ⟨master, data⟩

/-- The value that a read of a register returns, with the read's own effect (R26). (DEDUCED, log 14.) -/
def State.readAct (s : State) (master a : Nat) (pl : Place) : W32 × State :=
  let n := pl.n
  if a = R.HEAD_TOL_MIN n then s.tolMinRead n
  else if a = R.HEAD_LUT_DATA0 n then s.readLut n false
  else if a = R.HEAD_LUT_DATA1 n then s.readLut n true
  else if a = R.SP_COEF_DATA n then s.readCoefData n
  else if a = R.TB_NOW_NS n then s.readNow n
  else if a = R.TGT_CLAIM n then s.claim n master
  else if a = R.THERM_TJ_PEAK then
    let (v, s) := s.tjPeakRead
    (BitVec.ofNat 32 v, s)
  else if a = R.LANE_ERR_CNT n ∨ a = R.LANE_BITS_LO n ∨ a = R.LANE_BITS_HI n then
    let s := s.prbsSettle n
    (s.view a pl, s)
  else (s.view a pl, s)

/-- The rule of pairs for reads (R24): reading the low half latches the high half. NOW_SEC follows its own latch (R597).
(DEDUCED, log 15.) -/
def State.readPair (s : State) (master a : Nat) (pl : Place) : W32 × State :=
  let (v, s) := s.readAct master a pl
  if a = R.TB_NOW_SEC_LO pl.n ∨ a = R.TB_NOW_SEC_HI pl.n then (v, s)
  else match pl.reg.half, placeOf (a + 4), s.hiLatch.find? (fun e => e.1 == a - 4) with
  | .low, some hi, _ => (v, { s with hiLatch := Tbl.ins a (s.view (a + 4) hi) (Tbl.del s.hiLatch a) })
  | .high, _, some e => (e.2, { s with hiLatch := Tbl.del s.hiLatch (a - 4) })
  | _, _, _ => (v, s)

/-- A 32-bit read that reaches control space (R13, R23, R820): zero where no register answers. -/
def State.readWord (s : State) (master a : Nat) : W32 × State :=
  match placeOf a with
  | some pl => if s.answers pl.region.unit pl.n pl.m then s.readPair master a pl else (0, s)
  | none => (0, s)

/-- Consecutive 32-bit reads in ascending order (R822). -/
def State.readWords (s : State) (master a : Nat) : Nat → List Byte × State
  | 0 => ([], s)
  | k + 1 =>
    let (v, s) := s.readWord master a
    let (vs, s) := s.readWords master (a + 4) k
    (bytesLE 4 v.toNat ++ vs, s)

/-- Consecutive 32-bit writes in ascending order (R822); a part of a word is a narrower write. -/
def State.writeWords (s : State) (master a : Nat) (bs : List Byte) : Nat → State
  | 0 => s
  | k + 1 =>
    let len := min bs.length (4 - a % 4)
    let w : Wr := ⟨master, BitVec.ofNat 32 (leAt bs 0 len)⟩
    if bs.isEmpty then s
    else
      let s := if len = 4 then s.writeWord a w else s.writeNarrow a w
      s.writeWords master (a + len) (bs.drop len) k

/-- Words that a range of bytes touches. -/
def wordsOf (a n : Nat) : Nat :=
  ((a + n + 3) / 4 - a / 4)

/-- A read by a software master of `n` bytes of control space: the bytes addressed (R22, R577). -/
def State.softRead (s : State) (master a n : Nat) : State :=
  if spaceOf a ≠ .cspace ∨ s.inReset.isSome then s
  else match s.checked master a n false with
  | (true, s) => { s with resp := some ⟨deadBytes n, true⟩ }
  | (false, s) =>
    let (bs, s) := s.readWords master (a / 4 * 4) (wordsOf a n)
    { s with resp := some ⟨(bs.drop (a % 4)).take n, false⟩ }

/-- Decode contexts whose DPB holds a buffer that a software write touches (R234). -/
def State.dpbClash (s : State) (a n : Nat) : List Nat :=
  s.decs.filterMap (fun (c, r) =>
    if r.dpb.any (fun p => !disjoint (a, n) ((s.decSurf c p.buf 8 0 0).base, s.get (F.DEC_POOL_BUF_PAGES c) * 4096))
    then some c else none)

/-- Encode contexts whose reference pool a software write touches (R477). -/
def State.refPoolClash (s : State) (a n : Nat) : List Nat :=
  (List.range 64).filter (fun c => s.flag (F.ENC_CTRL_ENABLE c) &&
    ((s.encAreas c).take 1).any (fun b => !disjoint (a, n) b))

/-- A software write of memory with the outcomes that make a context UNPREDICTABLE (R234, R477). -/
def State.softAccess (s : State) (x : Access) : State :=
  let a := s.accessAddr x
  let t := s.memAccess x
  if x.write && decide (x.master ≤ 9) && !x.data.isEmpty && (s.refusal x.master a (min x.data.length 256) true).isNone then
    let t := (s.dpbClash a x.data.length).foldl (fun t c => t.decUnpred c x.master) t
    (s.refPoolClash a x.data.length).foldl (fun t c => t.encUnpred c x.master) t
  else t

/-- MEM_ACCESS: control space through the register bus, every other region through memory; the host reaches control space
through its own commands only, since its address is one of the BAR 2 window. -/
def State.access (s : State) (x : Access) : State :=
  if s.inReset.isSome then s
  else if x.master ≠ 8 ∧ spaceOf x.addr = .cspace then
    if x.write then s.busWrite x.master x.addr x.data.length fun s => s.writeWords x.master x.addr x.data x.data.length
    else s.softRead x.master x.addr x.size
  else s.softAccess x

/-! ## UNPREDICTABLE outcomes (R18, R19) -/

/-- The register arms an injection at a shell (R835). -/
def shellInj (a : Nat) : Bool :=
  (shellOf (a - 0x44)).isSome

/-- Blocks that no UNPREDICTABLE outcome writes: those of the awning, the verdicts, the plan, the colours, thermal protection,
the lifecycle and the twin protocol, resets, and the injection points, through which a later verdict, colour check, STOP
or TRIP would be altered (R19). (DESIGN CHOICE, log 19.) -/
def protectedFrom (a : Nat) : Bool :=
  ([1, 2, 3, 12, 14, 21, 22, 24] : List Nat).contains (blockOf a) || (blockOf a == 23 && decide (a < R.CC_CTRL 0)) || shellInj a

/-- One legal write of an UNPREDICTABLE outcome: of a register within the confinement and the master's reach. A write that is
itself UNPREDICTABLE is none, nor is one that the ledger would record without INJECTED (R818).
(DESIGN CHOICE, log 8; DESIGN CHOICE, log 19.) -/
def State.settleWrite (s : State) (master lo hi : Nat) (e : Nat × W32) : State :=
  let a := e.1
  if a < lo ∨ hi < a ∨ a % 4 ≠ 0 ∨ spaceOf a ≠ .cspace ∨ protectedFrom a ∨ !s.reachesCspace master a true then s
  else
    let t := s.writeWord a ⟨master, e.2⟩
    if t.unpred.isSome || (t.due.drop s.due.length).any (fun d => !d.injected) then s else t

/-- An UNPREDICTABLE outcome takes its state: one that legal writes of the erring master reach; which ones is free.
(DESIGN CHOICE, log 8.) -/
def State.settle (s : State) : State :=
  match s.unpred with
  | none => s
  | some (m, lo, hi) =>
    (Config.unpredWrites s.free).foldl (fun s e => s.settleWrite m lo hi e) { s with unpred := none, free := s.free + 1 }

/-- In reset the island holds TWIN_ACT low (R521, R783). -/
def State.resetWatch (s : State) : State :=
  s.cond s.inReset.isSome (·.drop F.TWIN_STAT_ACT)

/-- What the part makes of its state after any command: an UNPREDICTABLE outcome takes its state, and the twin controller, the
lanes, the closing bell and the pins in reset follow. -/
def finish (s : State) : State :=
  s.settle.twinWatch.laneWatch.bellWatch.resetWatch

end Sys2Proof.Machine
end

