-- ==== Sys2Proof/Machine/Commands.lean ====
section
/-! DEFINITION. The forms that the meanings of the commands share: an event of the part, a software write of one register, a
software read. -/

namespace Sys2Proof.Machine

/-- A write in which a field is `v`: the request that gives its row its name. -/
def asking (w : Wr) (f : Fld) (v : Nat) : Wr :=
  { w with data := fieldPut w.data f.hi f.lo v }

/-- The state in which a command taken in state `s` ends, `t` being its own effect: the command takes no time, and the
commands that wait go on waiting. (DESIGN CHOICE, log 3.) -/
def State.ended (s t : State) : State :=
  { finish t with pending := s.pending, ns := s.ns }

/-- A command ends in the next state. -/
def State.ends (s t : State) : Host.Outcome State Fault Refusal :=
  .next (s.ended t)

/-- An event of a unit: there is none in reset, nor of a unit for which `ok` fails.
(DESIGN CHOICE, log 3; DESIGN CHOICE, log 4; DEDUCED, log 16.) -/
def State.event (s : State) (ok : Bool) (act : State → State) : State :=
  if ok && s.inReset.isNone then act s else s

/-- A write of the register at `a` by a software master (R575): without effect where `ok` fails, as the operands then name no
register. (DEDUCED, log 16.) -/
def State.onWrite (s : State) (ok : Bool) (a : Nat) (w : Wr) (act : State → State) : State :=
  if ok then s.busWrite w.master a 4 act else s

/-- A read of the register at `a` by a software master. -/
def State.onRead (s : State) (ok : Bool) (master a : Nat) : State :=
  if ok then s.softRead master a 4 else s

/-- One TS clock passes: the time bases advance, and each microsecond the tolerance of every running head is taken (R398).
(DESIGN CHOICE, log 2.) -/
def State.clock (s : State) : State :=
  let s := s.tick
  if s.ns % 1000 = 0 then (List.range 32).foldl (fun s n => s.cond (s.headLive n) (·.tolUpdate n)) s else s

end Sys2Proof.Machine
end

