-- ==== Sys2Proof/Machine/AudioPorts.lean ====
section
/-! DEFINITION. The commands of: serial audio ports (chapter 18). -/

namespace Sys2Proof.Machine

/-- SAMPLE_FRAME (R698). -/
def execSampleFrame (p len : Nat) (rx : List (Nat × List Nat)) (s : State) : Host.Outcome State Fault Refusal :=
  s.ends (s.event (p < 8) (·.sampleFrame p len rx))

/-- SAP_RUN_SET (R703). -/
def execSapRunSet (p : Nat) (w : Wr) (s : State) : Host.Outcome State Fault Refusal :=
  s.ends (s.onWrite (p < 8) (R.SAP_CTRL p) w (·.writeSapCtrl p (asking w (F.SAP_CTRL_RUN p) 1)))

/-- SAP_RUN_CLEAR (R703). -/
def execSapRunClear (p : Nat) (w : Wr) (s : State) : Host.Outcome State Fault Refusal :=
  s.ends (s.onWrite (p < 8) (R.SAP_CTRL p) w (·.writeSapCtrl p (asking w (F.SAP_CTRL_RUN p) 0)))

/-- SAP_MUTE_WRITE (R703). -/
def execSapMuteWrite (p : Nat) (w : Wr) (s : State) : Host.Outcome State Fault Refusal :=
  s.ends (s.onWrite (p < 8) (R.SAP_CTRL p) w (·.writeSapCtrl p w))

/-- ZC_TIMEOUT (R703). -/
def execZcTimeout (p : Nat) (s : State) : Host.Outcome State Fault Refusal :=
  s.ends (s.event (p < 8) (·.zcTimeout p))

/-- SLOT_MASK_WRITE (R704). -/
def execSlotMaskWrite (p : Nat) (w : Wr) (s : State) : Host.Outcome State Fault Refusal :=
  s.ends (s.onWrite (p < 8) (R.SAP_SLOT_MASK p) w (·.writeSlotMask p w))

/-- PLL_CFG_WRITE (R690). -/
def execPllCfgWrite (w : Wr) (s : State) : Host.Outcome State Fault Refusal :=
  s.ends (s.onWrite true R.AUDG_PLL_CFG w (·.writePllCfg w))

/-- PLL_ADJ_WRITE (R690). -/
def execPllAdjWrite (w : Wr) (s : State) : Host.Outcome State Fault Refusal :=
  s.ends (s.onWrite true R.AUDG_PLL_ADJ w (·.writePllAdj w))

/-- MEAS_FS_UPDATE (R692). -/
def execMeasFsUpdate (p : Nat) (s : State) : Host.Outcome State Fault Refusal :=
  s.ends (s.event (p < 8) (·.measFs p))

/-- SAP_BCLK_LOSS (R692). -/
def execSapBclkLoss (p : Nat) (s : State) : Host.Outcome State Fault Refusal :=
  s.ends (s.event (p < 8 && s.answers .sap p 0) (·.bclkLoss p))

end Sys2Proof.Machine
end

