-- ==== Sys2Proof/Machine/CheckValues.lean ====
section
/-! DEFINITION. The commands of: check-value engines (chapter 16). -/

namespace Sys2Proof.Machine

/-- GO (R653). -/
def execGo (e : Nat) (w : Wr) (s : State) : Host.Outcome State Fault Refusal :=
  s.ends (s.onWrite (e < 8) (R.CVE_CTRL e) w (·.writeCveCtrl e (asking w (F.CVE_CTRL_OP e) 1)))

/-- CVE_ABORT (R655). -/
def execCveAbort (e : Nat) (w : Wr) (s : State) : Host.Outcome State Fault Refusal :=
  s.ends (s.onWrite (e < 8) (R.CVE_CTRL e) w (·.writeCveCtrl e (asking w (F.CVE_CTRL_OP e) 2)))

/-- CVE_BLOCK_DONE (R648). -/
def execCveBlockDone (e : Nat) (s : State) : Host.Outcome State Fault Refusal :=
  s.ends (s.event (e < 8) (·.cveBlockDone e))

/-- CVE_ACCESS_FAULT (R654). -/
def execCveAccessFault (e : Nat) (s : State) : Host.Outcome State Fault Refusal :=
  s.ends (s.event (e < 8) (·.cveFault e))

end Sys2Proof.Machine
end

