-- ==== Sys2Proof/Machine/DecodeArray.lean ====
section
/-! DEFINITION. The commands of: the decode array (chapter 04). -/

namespace Sys2Proof.Machine

/-- DEC_CTX_ENABLE (R197). -/
def execDecCtxEnable (c : Nat) (w : Wr) (s : State) : Host.Outcome State Fault Refusal :=
  s.ends (s.onWrite (c < 128) (R.DEC_CTRL c) w (·.writeDecCtrl c (asking w (F.DEC_CTRL_ENABLE c) 1)))

/-- DEC_CTX_DISABLE (R198). -/
def execDecCtxDisable (c : Nat) (w : Wr) (s : State) : Host.Outcome State Fault Refusal :=
  s.ends (s.onWrite (c < 128) (R.DEC_CTRL c) w (·.writeDecCtrl c (asking w (F.DEC_CTRL_ENABLE c) 0)))

/-- DEC_DRAIN_DONE (R198). -/
def execDecDrainDone (c : Nat) (s : State) : Host.Outcome State Fault Refusal :=
  s.ends (s.event (c < 128) (·.decDrained c))

/-- DEC_CMD_WR_IDX_WRITE (R195). -/
def execDecCmdWrIdxWrite (c : Nat) (w : Wr) (s : State) : Host.Outcome State Fault Refusal :=
  s.ends (s.onWrite (c < 128) (R.DEC_CMD_WR_IDX c) w (·.writeDecCmd c w))

/-- DEC_PICTURE_START (R201). -/
def execDecPictureStart (c : Nat) (au : AccessUnit) (s : State) : Host.Outcome State Fault Refusal :=
  s.ends (s.event (c < 128 && !s.cut .decode 0) (·.decStart c au))

/-- DEC_WORK_UNIT_DONE (R200). -/
def execDecWorkUnitDone (k : Nat) (r : UnitResult) (s : State) : Host.Outcome State Fault Refusal :=
  s.ends (s.event (k < 16 && !s.cut .decode 0) (·.decUnitDone k r))

/-- DEC_PICTURE_DONE (R203). -/
def execDecPictureDone (c : Nat) (motion : List Byte) (s : State) : Host.Outcome State Fault Refusal :=
  s.ends (s.event (c < 128 && !s.cut .decode 0) (·.decPictureDone c motion))

/-- DEC_WATCHDOG (R219). -/
def execDecWatchdog (k : Nat) (s : State) : Host.Outcome State Fault Refusal :=
  s.ends (s.event (k < 16 && !s.cut .decode 0) (·.decWatchdog k))

/-- KEYREQ_REPEAT (R222). -/
def execKeyreqRepeat (c : Nat) (s : State) : Host.Outcome State Fault Refusal :=
  s.ends (s.event (c < 128 && !s.cut .decode 0) (·.decRepeat c))

/-- DEC_KEYREQ_WRITE (R223). -/
def execDecKeyreqWrite (c : Nat) (w : Wr) (s : State) : Host.Outcome State Fault Refusal :=
  s.ends (s.onWrite (c < 128) (R.DEC_KEYREQ c) w (·.writeDecKeyreq c (asking w (F.DEC_KEYREQ_REQ c) 1)))

/-- DEC_OUT_RD_IDX_WRITE (R208). -/
def execDecOutRdIdxWrite (c : Nat) (w : Wr) (s : State) : Host.Outcome State Fault Refusal :=
  s.ends (s.onWrite (c < 128) (R.DEC_OUT_RD_IDX c) w (·.releaseDec c w))

end Sys2Proof.Machine
end

