-- ==== Sys2Proof/Machine/EncodeArray.lean ====
section
/-! DEFINITION. The commands of: the encode array (chapter 10). -/

namespace Sys2Proof.Machine

/-- ENC_CTX_ENABLE (R443). -/
def execEncCtxEnable (c : Nat) (w : Wr) (s : State) : Host.Outcome State Fault Refusal :=
  s.ends (s.onWrite (c < 64) (R.ENC_CTRL c) w (·.writeEncCtrl c (asking w (F.ENC_CTRL_ENABLE c) 1)))

/-- ENC_CTX_DISABLE (R444). -/
def execEncCtxDisable (c : Nat) (w : Wr) (s : State) : Host.Outcome State Fault Refusal :=
  s.ends (s.onWrite (c < 64) (R.ENC_CTRL c) w (·.writeEncCtrl c (asking w (F.ENC_CTRL_ENABLE c) 0)))

/-- ENC_DRAIN_DONE (R444). -/
def execEncDrainDone (c : Nat) (s : State) : Host.Outcome State Fault Refusal :=
  s.ends (s.event (c < 64) (·.encDrained c))

/-- ENC_PICTURE_START (R446). -/
def execEncPictureStart (c : Nat) (s : State) : Host.Outcome State Fault Refusal :=
  s.ends (s.event (c < 64 && !s.cut .encode 0) (·.encStart c))

/-- ENC_ROW_START (R452). -/
def execEncRowStart (c j spent : Nat) (done : List Nat) (s : State) : Host.Outcome State Fault Refusal :=
  s.ends (s.event (c < 64 && !s.cut .encode 0) (·.encRow c j spent done))

/-- ENC_WORK_UNIT_DONE (R449). -/
def execEncWorkUnitDone (k : Nat) (rowBits : List Nat) (s : State) : Host.Outcome State Fault Refusal :=
  s.ends (s.event (k < 8 && !s.cut .encode 0) (·.encUnitDone k rowBits))

/-- ENC_PICTURE_DONE (R452). -/
def execEncPictureDone (c : Nat) (au motion : List Byte) (s : State) : Host.Outcome State Fault Refusal :=
  s.ends (s.event (c < 64 && !s.cut .encode 0) (·.encPictureDone c au motion))

/-- ENC_OUTPUT_OVERFLOW (R468). -/
def execEncOutputOverflow (c : Nat) (s : State) : Host.Outcome State Fault Refusal :=
  s.ends (s.event (c < 64 && !s.cut .encode 0) (·.encOverflow c))

/-- ENC_WATCHDOG (R466). -/
def execEncWatchdog (k : Nat) (s : State) : Host.Outcome State Fault Refusal :=
  s.ends (s.event (k < 8 && !s.cut .encode 0) (·.encWatchdog k))

/-- ENC_KEYREQ_WRITE (R461). -/
def execEncKeyreqWrite (c : Nat) (w : Wr) (s : State) : Host.Outcome State Fault Refusal :=
  s.ends (s.onWrite (c < 64) (R.ENC_KEYREQ c) w (·.writeEncKeyreq c (asking w (F.ENC_KEYREQ_REQ c) 1)))

/-- ENC_OUT_RD_IDX_WRITE (R458). -/
def execEncOutRdIdxWrite (c : Nat) (w : Wr) (s : State) : Host.Outcome State Fault Refusal :=
  s.ends (s.onWrite (c < 64) (R.ENC_OUT_RD_IDX c) w (·.writeEncRd c w))

end Sys2Proof.Machine
end

