-- ==== Sys2Proof/Machine/Faults.lean ====
section
/-! DEFINITION. The commands of: the fault ledger, injection, the shells and the miscellaneous block (chapters 23 to 25). -/

namespace Sys2Proof.Machine

/-- CAL_GO (R836). -/
def execCalGo (shell : Nat) (w : Wr) (s : State) : Host.Outcome State Fault Refusal :=
  s.ends (s.onWrite (shellOf shell).isSome (R.SH_CAL_CTRL shell) w (·.writeCal shell (asking w (F.SH_CAL_CTRL_GO shell) 1)))

/-- CAL_DONE (R836). -/
def execCalDone (shell : Nat) (ok : Bool) (us : Nat) (s : State) : Host.Outcome State Fault Refusal :=
  s.ends (s.event true (·.calDone shell ok us))

/-- SHELL_HEALTH_EVAL (R837). -/
def execShellHealthEval (shell : Nat) (causes : Nat) (s : State) : Host.Outcome State Fault Refusal :=
  s.ends (s.event true (·.healthEval shell causes))

/-- LEDGER_WRITE (R805). -/
def execLedgerWrite (s : State) : Host.Outcome State Fault Refusal :=
  s.ends (s.ledgerWrite)

/-- FAULT_INJECT_ARM (R809). -/
def execFaultInjectArm (d : Nat) (w : Wr) (s : State) : Host.Outcome State Fault Refusal :=
  s.ends (s.onWrite (d < 96) (R.FLT_INJ d) w (·.writeInj d (asking w (F.FLT_INJ_ARM d) 1)))

/-- DB_SET_WRITE (R827). -/
def execDbSetWrite (w : Wr) (s : State) : Host.Outcome State Fault Refusal :=
  s.ends (s.onWrite true R.SYS_DB_SET w (·.writeDbSet w))

/-- GPIO_EDGE (R829). -/
def execGpioEdge (pin : Nat) (level : Bool) (s : State) : Host.Outcome State Fault Refusal :=
  s.ends (s.event (pin < 32) (·.gpioEdge pin level))

/-- I2C_TRANSACTION (R832). -/
def execI2cTransaction (b : Nat) (w : Wr) (s : State) : Host.Outcome State Fault Refusal :=
  s.ends (s.onWrite (b < 2) (R.I2C_CMD b) w (·.writeI2cCmd b (asking w (F.I2C_CMD_GO b) 1)))

/-- I2C_DONE (R832). -/
def execI2cDone (b : Nat) (result : Nat) (bytes : List Byte) (s : State) : Host.Outcome State Fault Refusal :=
  s.ends (s.event (b < 2) (·.i2cDone b result bytes))

end Sys2Proof.Machine
end

