-- ==== Sys2Proof/Machine/Heads.lean ====
section
/-! DEFINITION. The commands of: scanout heads (chapter 08). -/

namespace Sys2Proof.Machine

/-- PIXCLK_WRITE (R353). -/
def execPixclkWrite (n : Nat) (w : Wr) (s : State) : Host.Outcome State Fault Refusal :=
  s.ends (s.onWrite (n < 32) (R.HEAD_PIXCLK n) w (·.pixclkWrite n w))

/-- PLL_LOCK (R353). -/
def execPllLock (n : Nat) (s : State) : Host.Outcome State Fault Refusal :=
  s.ends (s.event (n < 32 && s.answers .head n 0) (·.pllLocks n))

/-- HEAD_RUN_SET (R354). -/
def execHeadRunSet (n : Nat) (w : Wr) (s : State) : Host.Outcome State Fault Refusal :=
  s.ends (s.onWrite (n < 32) (R.HEAD_CTRL n) w (·.writeHeadCtrl n (asking w (F.HEAD_CTRL_RUN n) 1)))

/-- HEAD_START (R354). -/
def execHeadStart (n : Nat) (s : State) : Host.Outcome State Fault Refusal :=
  s.ends (s.event (n < 32) (·.headStarts n))

/-- HEAD_RUN_CLEAR (R355). -/
def execHeadRunClear (n : Nat) (w : Wr) (s : State) : Host.Outcome State Fault Refusal :=
  s.ends (s.onWrite (n < 32) (R.HEAD_CTRL n) w (·.writeHeadCtrl n (asking w (F.HEAD_CTRL_RUN n) 0)))

/-- HEAD_HALT (R355). -/
def execHeadHalt (n : Nat) (s : State) : Host.Outcome State Fault Refusal :=
  s.ends (s.event (n < 32) (·.halt n))

/-- HEAD_COMMIT (R357). -/
def execHeadCommit (n : Nat) (w : Wr) (s : State) : Host.Outcome State Fault Refusal :=
  s.ends (s.onWrite (n < 32) (R.HEAD_COMMIT n) w (·.writeCommit n w))

/-- SNAPSHOT_ARM (R358). -/
def execSnapshotArm (n : Nat) (s : State) : Host.Outcome State Fault Refusal :=
  s.ends (s.event (n < 32 && s.answers .head n 0) (·.armSnapshot n))

/-- HEAD_UNDERRUN (R366). -/
def execHeadUnderrun (n line pixel : Nat) (s : State) : Host.Outcome State Fault Refusal :=
  s.ends (s.event (n < 32) (·.underrun n line pixel))

/-- RGN_COMPARE (R372). -/
def execRgnCompare (n r fault : Nat) (s : State) : Host.Outcome State Fault Refusal :=
  s.ends (s.event (n < 32) (·.rgnEvent n r fault))

/-- FAULT_CLR (R377). -/
def execFaultClr (n : Nat) (w : Wr) (s : State) : Host.Outcome State Fault Refusal :=
  s.ends (s.onWrite (n < 32) (R.HEAD_CTRL n) w (·.writeHeadCtrl n (asking w (F.HEAD_CTRL_FAULT_CLR n) 1)))

/-- DS_FETCH_FAULT (R388). -/
def execDsFetchFault (n y : Nat) (s : State) : Host.Outcome State Fault Refusal :=
  s.ends (s.event (n < 32) (·.dsFails n y))

/-- TOL_MIN_READ (R398). -/
def execTolMinRead (n master : Nat) (s : State) : Host.Outcome State Fault Refusal :=
  s.ends (s.onRead (n < 32) master (R.HEAD_TOL_MIN n))

end Sys2Proof.Machine
end

