-- ==== Sys2Proof/Machine/Ingress.lean ====
section
/-! DEFINITION. The commands of: stream ingress (chapter 03). -/

namespace Sys2Proof.Machine

/-- ETH_PACKET_RX (R143). -/
def execEthPacketRx (p : Nat) (pkt : Packet) (s : State) : Host.Outcome State Fault Refusal :=
  s.ends (s.event (p < 8) (·.ethRx p pkt))

/-- ETH_TX_SLOT (R176). -/
def execEthTxSlot (p : Nat) (s : State) : Host.Outcome State Fault Refusal :=
  s.ends (s.event (p < 8) (·.ethTx p))

/-- FRAME_CLOSE (R162). -/
def execFrameClose (i : Nat) (s : State) : Host.Outcome State Fault Refusal :=
  s.ends (s.event (i < 512) (·.frameClose i))

/-- FRAME_CLOSE_TIMER (R162). -/
def execFrameCloseTimer (i : Nat) (s : State) : Host.Outcome State Fault Refusal :=
  s.ends (s.event (i < 512) (·.frameTimer i))

/-- SNK_FRAME_START (R168). -/
def execSnkFrameStart (j : Nat) (s : State) : Host.Outcome State Fault Refusal :=
  s.ends (s.event (j < 8) (·.snkStart j))

/-- SNK_FRAME_CLOSE (R422). -/
def execSnkFrameClose (j : Nat) (f : SinkFrame) (s : State) : Host.Outcome State Fault Refusal :=
  s.ends (s.event (j < 8) (·.snkClose j f))

/-- STREAM_ENABLE (R145). -/
def execStreamEnable (i : Nat) (w : Wr) (s : State) : Host.Outcome State Fault Refusal :=
  s.ends (s.onWrite (i < 512) (R.INGR_CTRL i) w (·.writeStreamCtrl i (asking w (F.INGR_CTRL_ENABLE i) 1)))

/-- STREAM_DISABLE (R147). -/
def execStreamDisable (i : Nat) (w : Wr) (s : State) : Host.Outcome State Fault Refusal :=
  s.ends (s.onWrite (i < 512) (R.INGR_CTRL i) w (·.writeStreamCtrl i (asking w (F.INGR_CTRL_ENABLE i) 0)))

/-- SILENCE_COMPARE (R172). -/
def execSilenceCompare (s : State) : Host.Outcome State Fault Refusal :=
  s.ends (s.event true (·.silenceCompare))

/-- STREAM_RD_IDX_WRITE (R169). -/
def execStreamRdIdxWrite (i : Nat) (w : Wr) (s : State) : Host.Outcome State Fault Refusal :=
  s.ends (s.onWrite (i < 512) (R.INGR_RD_IDX i) w (·.releaseStream i w))

end Sys2Proof.Machine
end

