-- ==== Sys2Proof/Machine/Interrupts.lean ====
section
/-! DEFINITION. The commands of: interrupts (chapter 15). -/

namespace Sys2Proof.Machine

/-- SWI_SET (R622). -/
def execSwiSet (w : Wr) (s : State) : Host.Outcome State Fault Refusal :=
  s.ends (s.onWrite true R.IRQ_SWI_SET w (·.writeSwiSet w))

/-- IRQ_DELIVERY_POINT (R626). -/
def execIrqDeliveryPoint (s : State) : Host.Outcome State Fault Refusal :=
  s.ends (s.event true (·.deliver))

/-- HOLDOFF_EXPIRY (R630). -/
def execHoldoffExpiry (g : Nat) (s : State) : Host.Outcome State Fault Refusal :=
  s.ends (s.event (g < 31) (·.holdoffEnds g))

/-- CLAIM (R633). -/
def execClaim (k master : Nat) (s : State) : Host.Outcome State Fault Refusal :=
  s.ends (s.onRead (k < 12) master (R.TGT_CLAIM k))

/-- COMPLETE (R634). -/
def execComplete (k : Nat) (w : Wr) (s : State) : Host.Outcome State Fault Refusal :=
  s.ends (s.onWrite (k < 12) (R.TGT_COMPLETE k) w (·.writeComplete k w))

/-- STACK_RESET (R636). -/
def execStackReset (k : Nat) (w : Wr) (s : State) : Host.Outcome State Fault Refusal :=
  s.ends (s.onWrite (k < 12) (R.TGT_STACK_RESET k) w (·.writeStackReset k w))

end Sys2Proof.Machine
end

