-- ==== Sys2Proof/Machine/Lanes.lean ====
section
/-! DEFINITION. The commands of: serial lanes (chapter 17). -/

namespace Sys2Proof.Machine

/-- LANE_PWR_WRITE (R668). -/
def execLanePwrWrite (l : Nat) (w : Wr) (s : State) : Host.Outcome State Fault Refusal :=
  s.ends (s.onWrite (l < 96) (R.LANE_CTRL l) w (·.writeLaneCtrl l w))

/-- LANE_STATE_CHANGE_DONE (R666). -/
def execLaneStateChangeDone (l : Nat) (s : State) : Host.Outcome State Fault Refusal :=
  s.ends (s.event (l < 96) (·.laneChanged l))

/-- CDR_LOCK (R666). -/
def execCdrLock (l : Nat) (s : State) : Host.Outcome State Fault Refusal :=
  s.ends (s.event (l < 96) (·.cdrLocks l))

/-- CDR_LOCK_LOSS (R680). -/
def execCdrLockLoss (l : Nat) (s : State) : Host.Outcome State Fault Refusal :=
  s.ends (s.event (l < 96) (·.cdrLoses l))

/-- SLIP (R675). -/
def execSlip (l : Nat) (w : Wr) (s : State) : Host.Outcome State Fault Refusal :=
  s.ends (s.onWrite (l < 96) (R.LANE_CTRL l) w (·.writeLaneCtrl l (asking w (F.LANE_CTRL_SLIP l) 1)))

/-- SLIP_APPLIED (R675). -/
def execSlipApplied (l : Nat) (s : State) : Host.Outcome State Fault Refusal :=
  s.ends (s.event (l < 96) (·.slipMoves l))

/-- PRBS_CHECK_ENABLE (R673). -/
def execPrbsCheckEnable (l : Nat) (w : Wr) (s : State) : Host.Outcome State Fault Refusal :=
  s.ends (s.onWrite (l < 96) (R.LANE_RAW_CFG l) w (·.writeRawCfg l (asking w (F.LANE_RAW_CFG_CHK_EN l) 1)))

/-- PRBS_LOCK (R673). -/
def execPrbsLock (l : Nat) (s : State) : Host.Outcome State Fault Refusal :=
  s.ends (s.event (l < 96) (·.prbsLocks l))

/-- PRBS_LOSS (R673). -/
def execPrbsLoss (l : Nat) (s : State) : Host.Outcome State Fault Refusal :=
  s.ends (s.event (l < 96) (·.prbsLoses l))

/-- RX_WORD_READ (R674). -/
def execRxWordRead (l master word : Nat) (s : State) : Host.Outcome State Fault Refusal :=
  s.ends ((s.event (l < 96) (·.rxWord l word)).onRead (l < 96) master (R.LANE_RX_WORD_LO l))

end Sys2Proof.Machine
end

