-- ==== Sys2Proof/Machine/Live.lean ====
section
/-! DEFINITION. The commands of: registers, latches and attestation (chapters 00, 01 and 24). -/

namespace Sys2Proof.Machine

/-- REGISTER_WRITE (R26). -/
def execRegisterWrite (master addr size : Nat) (data : W32) (s : State) : Host.Outcome State Fault Refusal :=
  s.ends (s.softWrite master addr size data)

/-- PAIR_LO_READ (R24). -/
def execPairLoRead (master addr : Nat) (s : State) : Host.Outcome State Fault Refusal :=
  s.ends (s.softRead master addr 4)

/-- PAIR_HI_WRITE (R25). -/
def execPairHiWrite (master addr : Nat) (data : W32) (s : State) : Host.Outcome State Fault Refusal :=
  s.ends (s.softWrite master addr 4 data)

/-- HEAD_LATCH (R28). -/
def execHeadLatch (n : Nat) (s : State) : Host.Outcome State Fault Refusal :=
  s.ends (s.event (n < 32) (·.latch n))

/-- VERDICT_DEADLINE (R41). -/
def execVerdictDeadline (n : Nat) (s : State) : Host.Outcome State Fault Refusal :=
  s.ends (s.event (n < 32) (·.verdictLate n))

/-- ATTEST_REQ (R58). -/
def execAttestReq (n : Nat) (w : Wr) (s : State) : Host.Outcome State Fault Refusal :=
  s.ends (s.onWrite (n < 32) (R.FRESH_ATTEST_CTRL n) w (·.writeAttestCtrl n (asking w (F.FRESH_ATTEST_CTRL_REQ n) 1)))

/-- ATTEST_RECORD_DONE (R61). -/
def execAttestRecordDone (n : Nat) (s : State) : Host.Outcome State Fault Refusal :=
  s.ends (s.event (n < 32) (·.attestRecord n))

/-- ATTEST_TIMEOUT (R63). -/
def execAttestTimeout (n : Nat) (s : State) : Host.Outcome State Fault Refusal :=
  s.ends (s.event (n < 32) (·.attestTimeout n))

end Sys2Proof.Machine
end

