-- ==== Sys2Proof/Machine/Memc.lean ====
section
/-! DEFINITION. The commands of: memory and its colours (chapter 13). -/

namespace Sys2Proof.Machine

/-- MEM_ACCESS (R577). -/
def execMemAccess (a : Access) (s : State) : Host.Outcome State Fault Refusal :=
  s.ends (s.access a)

/-- SCRUB_READ (R563). -/
def execScrubRead (u : Upsets) (s : State) : Host.Outcome State Fault Refusal :=
  s.ends (s.event true (·.scrubRead u))

/-- SR_ENTRY (R565). -/
def execSrEntry (s : State) : Host.Outcome State Fault Refusal :=
  s.ends (s.event true (·.srEntry))

/-- SR_EXIT (R566). -/
def execSrExit (s : State) : Host.Outcome State Fault Refusal :=
  s.ends (s.event true (·.srExit))

/-- SR_EXIT_DONE (R566). -/
def execSrExitDone (s : State) : Host.Outcome State Fault Refusal :=
  s.ends (s.event true (·.srExitDone))

/-- RECOLOUR_REQUEST (R572). -/
def execRecolourRequest (w : Wr) (s : State) : Host.Outcome State Fault Refusal :=
  s.ends (s.onWrite true R.TAG_RC_CTRL w (·.writeRcCtrl w))

/-- RECOLOUR_PAGE (R572). -/
def execRecolourPage (u : Upsets) (s : State) : Host.Outcome State Fault Refusal :=
  s.ends (s.event true (·.recolourNext u))

end Sys2Proof.Machine
end

