-- ==== Sys2Proof/Machine/Pairing.lean ====
section
/-! DEFINITION. The commands of: twin pairing and switch-over (chapter 12). -/

namespace Sys2Proof.Machine

/-- PAIR_TICK (R525). -/
def execPairTick (s : State) : Host.Outcome State Fault Refusal :=
  s.ends (s.event true (·.pairTick))

/-- TICK (R527). -/
def execTick (f : LinkFrame) (s : State) : Host.Outcome State Fault Refusal :=
  s.ends (s.event true (·.linkRx .twin f (·.tickFrame f)))

/-- TWIN_PHB_EDGE (R527). -/
def execTwinPhbEdge (level : Bool) (s : State) : Host.Outcome State Fault Refusal :=
  s.ends (s.event true (·.phbEdge level))

/-- HEARTBEAT_MISSED (R527). -/
def execHeartbeatMissed (s : State) : Host.Outcome State Fault Refusal :=
  s.ends (s.event true (·.windowEnds))

/-- STEP (R531). -/
def execStep (f : LinkFrame) (s : State) : Host.Outcome State Fault Refusal :=
  s.ends (s.event true (·.linkRx .twin f (·.stepFrame f)))

/-- COPY (R534). -/
def execCopy (f : LinkFrame) (s : State) : Host.Outcome State Fault Refusal :=
  s.ends (s.event true (·.linkRx .twin f (·.copyFrame f)))

/-- FORWARD (R524). -/
def execForward (f : LinkFrame) (s : State) : Host.Outcome State Fault Refusal :=
  s.ends (s.event true (·.linkRx .twin f (·.forwarded f)))

/-- FORWARD_DROP (R524). -/
def execForwardDrop (s : State) : Host.Outcome State Fault Refusal :=
  s.ends (s.event true (·.forwardDrop))

/-- SWITCH_REQ (R545). -/
def execSwitchReq (f : LinkFrame) (s : State) : Host.Outcome State Fault Refusal :=
  s.ends (s.event true (·.linkRx .twin f (·.switchReq f)))

/-- SWITCH_ACCEPT (R545). -/
def execSwitchAccept (f : LinkFrame) (s : State) : Host.Outcome State Fault Refusal :=
  s.ends (s.event true (·.linkRx .twin f (·.switchAccept)))

/-- SWITCH_ABORT (R549). -/
def execSwitchAbort (f : LinkFrame) (s : State) : Host.Outcome State Fault Refusal :=
  s.ends (s.event true (·.linkRx .twin f (·.switchAbort)))

/-- TWIN_SWITCH (R542). -/
def execTwinSwitch (w : Wr) (s : State) : Host.Outcome State Fault Refusal :=
  s.ends (s.onWrite true R.TWIN_CTRL w (·.writeTwinCtrl (asking w F.TWIN_CTRL_OP 1)))

/-- TWIN_PLANNED (R542). -/
def execTwinPlanned (w : Wr) (s : State) : Host.Outcome State Fault Refusal :=
  s.ends (s.onWrite true R.TWIN_CTRL w (·.writeTwinCtrl (asking w F.TWIN_CTRL_OP 2)))

/-- DECLARE_FAULT (R543). -/
def execDeclareFault (w : Wr) (s : State) : Host.Outcome State Fault Refusal :=
  s.ends (s.onWrite true R.TWIN_CTRL w (·.writeTwinCtrl (asking w F.TWIN_CTRL_OP 3)))

/-- TWIN_PACT_FALL (R543). -/
def execTwinPactFall (s : State) : Host.Outcome State Fault Refusal :=
  s.ends (s.event true (·.pactFall))

/-- TWIN_PACT_RISE (R541). -/
def execTwinPactRise (s : State) : Host.Outcome State Fault Refusal :=
  s.ends (s.event true (·.pactRise))

/-- ELECTION_TIMEOUT (R540). -/
def execElectionTimeout (s : State) : Host.Outcome State Fault Refusal :=
  s.ends (s.event true (·.electionEnds))

/-- ELECTION_RETRY (R541). -/
def execElectionRetry (s : State) : Host.Outcome State Fault Refusal :=
  s.ends (s.event true (·.electAgain))

/-- BIST_UNIT_DONE (R537). -/
def execBistUnitDone (ok : Bool) (s : State) : Host.Outcome State Fault Refusal :=
  s.ends (s.event true (·.bistDone ok))

/-- TICK_WORK_MISSED (R786). -/
def execTickWorkMissed (s : State) : Host.Outcome State Fault Refusal :=
  s.ends (s.event true (·.tickMissed false))

end Sys2Proof.Machine
end

