-- ==== Sys2Proof/Machine/Plan.lean ====
section
/-! DEFINITION. The commands of: the plan and its loader (chapter 02). -/

namespace Sys2Proof.Machine

/-- LOAD_A (R134). -/
def execLoadA (w : Wr) (s : State) : Host.Outcome State Fault Refusal :=
  s.ends (s.onWrite true R.PLAN_CTRL w (·.writePlanCtrl (asking w F.PLAN_CTRL_OP 1)))

/-- LOAD_B (R134). -/
def execLoadB (w : Wr) (s : State) : Host.Outcome State Fault Refusal :=
  s.ends (s.onWrite true R.PLAN_CTRL w (·.writePlanCtrl (asking w F.PLAN_CTRL_OP 2)))

/-- LOAD_MEM (R134). -/
def execLoadMem (w : Wr) (s : State) : Host.Outcome State Fault Refusal :=
  s.ends (s.onWrite true R.PLAN_CTRL w (·.writePlanCtrl (asking w F.PLAN_CTRL_OP 3)))

/-- WRITE_A (R119). -/
def execWriteA (w : Wr) (s : State) : Host.Outcome State Fault Refusal :=
  s.ends (s.onWrite true R.PLAN_CTRL w (·.writePlanCtrl (asking w F.PLAN_CTRL_OP 4)))

/-- WRITE_B (R119). -/
def execWriteB (w : Wr) (s : State) : Host.Outcome State Fault Refusal :=
  s.ends (s.onWrite true R.PLAN_CTRL w (·.writePlanCtrl (asking w F.PLAN_CTRL_OP 5)))

/-- ABORT (R127). -/
def execAbort (w : Wr) (s : State) : Host.Outcome State Fault Refusal :=
  s.ends (s.onWrite true R.PLAN_CTRL w (·.writePlanCtrl (asking w F.PLAN_CTRL_OP 6)))

/-- PLAN_LOAD_START (R117). -/
def execPlanLoadStart (s : State) : Host.Outcome State Fault Refusal :=
  s.ends (s.event true (·.planStart))

/-- PLAN_COPY_DONE (R122). -/
def execPlanCopyDone (s : State) : Host.Outcome State Fault Refusal :=
  s.ends (s.event true (·.planCopied))

/-- PLAN_VERIFY_DONE (R89). -/
def execPlanVerifyDone (s : State) : Host.Outcome State Fault Refusal :=
  s.ends (s.event true (·.planVerified))

/-- PLAN_CHECK_DONE (R126). -/
def execPlanCheckDone (s : State) : Host.Outcome State Fault Refusal :=
  s.ends (s.event true (·.planChecked))

/-- PLAN_APPLY_START (R128). -/
def execPlanApplyStart (s : State) : Host.Outcome State Fault Refusal :=
  s.ends (s.event true (·.applyStart))

/-- PLAN_APPLY_DONE (R123). -/
def execPlanApplyDone (s : State) : Host.Outcome State Fault Refusal :=
  s.ends (s.event true (·.applyDone))

/-- SLOT_STAGING_DONE (R120). -/
def execSlotStagingDone (s : State) : Host.Outcome State Fault Refusal :=
  s.ends (s.event true (·.slotStaged))

/-- MARKER_ERASE_DONE (R120). -/
def execMarkerEraseDone (s : State) : Host.Outcome State Fault Refusal :=
  s.ends (s.event true (·.markerErased))

/-- IMAGE_ERASE_DONE (R120). -/
def execImageEraseDone (s : State) : Host.Outcome State Fault Refusal :=
  s.ends (s.event true (·.imageErased))

/-- IMAGE_PROGRAM_DONE (R120). -/
def execImageProgramDone (s : State) : Host.Outcome State Fault Refusal :=
  s.ends (s.event true (·.imageProgrammed))

/-- READBACK_DONE (R120). -/
def execReadbackDone (s : State) : Host.Outcome State Fault Refusal :=
  s.ends (s.event true (·.slotReadBack))

/-- MARKER_PROGRAM_DONE (R120). -/
def execMarkerProgramDone (s : State) : Host.Outcome State Fault Refusal :=
  s.ends (s.event true (·.markerProgrammed))

/-- QSPI_GRANT (R862). -/
def execQspiGrant (s : State) : Host.Outcome State Fault Refusal :=
  s.ends (s.event true (·.grantFlash))

end Sys2Proof.Machine
end

