-- ==== Sys2Proof/Machine/Pool.lean ====
section
/-! DEFINITION. The commands of: the scaler pool and colour tables (chapter 07). -/

namespace Sys2Proof.Machine

/-- SP_BANK_SEL_WRITE (R330). -/
def execSpBankSelWrite (k : Nat) (w : Wr) (s : State) : Host.Outcome State Fault Refusal :=
  s.ends (s.onWrite (k < 64) (R.SP_CTRL k) w (·.writeSpCtrl k w))

/-- SP_BANK_CHECK_DONE (R330). -/
def execSpBankCheckDone (k : Nat) (s : State) : Host.Outcome State Fault Refusal :=
  s.ends (s.event (k < 64 && s.answers .scaler k 0) (·.bankChecked k))

/-- SP_COEF_DATA_ACCESS (R343). -/
def execSpCoefDataAccess (k : Nat) (a : PortAccess) (s : State) : Host.Outcome State Fault Refusal :=
  s.ends (match a with
    | .read master => s.onRead (k < 64) master (R.SP_COEF_DATA k)
    | .write w => s.onWrite (k < 64) (R.SP_COEF_DATA k) w (·.writeCoefData k w))

/-- SP_ROM_LOAD (R332). -/
def execSpRomLoad (k : Nat) (w : Wr) (s : State) : Host.Outcome State Fault Refusal :=
  s.ends (s.onWrite (k < 64) (R.SP_COEF_CMD k) w (·.writeCoefCmd k (asking w (F.SP_COEF_CMD_LOAD k) 1)))

/-- SP_ROM_LOAD_DONE (R332). -/
def execSpRomLoadDone (k : Nat) (s : State) : Host.Outcome State Fault Refusal :=
  s.ends (s.event (k < 64 && s.answers .scaler k 0) (·.romLoaded k))

/-- LUT_DATA1_ACCESS (R336). -/
def execLutData1Access (n : Nat) (a : PortAccess) (s : State) : Host.Outcome State Fault Refusal :=
  s.ends (match a with
    | .read master => s.onRead (n < 32) master (R.HEAD_LUT_DATA1 n)
    | .write w => s.onWrite (n < 32) (R.HEAD_LUT_DATA1 n) w (·.writeLutData1 n w))

/-- LUT_RESET_DONE (R336). -/
def execLutResetDone (s : State) : Host.Outcome State Fault Refusal :=
  s.ends (s.event true (·.lutsReset))

end Sys2Proof.Machine
end

