-- ==== Sys2Proof/Machine/Ports.lean ====
section
/-! DEFINITION. The commands of: displayPort sources and sinks (chapter 09). -/

namespace Sys2Proof.Machine

/-- SRC_PLUG (R412). -/
def execSrcPlug (k : Nat) (caps : SinkCaps) (s : State) : Host.Outcome State Fault Refusal :=
  s.ends (s.event (k < 16) (·.srcPlug k caps))

/-- SRC_EDID_DONE (R412). -/
def execSrcEdidDone (k : Nat) (edid : List Byte) (s : State) : Host.Outcome State Fault Refusal :=
  s.ends (s.event (k < 16) (·.edidDone k edid))

/-- SRC_UNPLUG (R414). -/
def execSrcUnplug (k : Nat) (edid : List Byte) (s : State) : Host.Outcome State Fault Refusal :=
  s.ends (s.event (k < 16) (·.srcUnplugged k edid))

/-- SRC_IRQ_HPD (R414). -/
def execSrcIrqHpd (k : Nat) (st : List Byte) (psrErr : Bool) (s : State) : Host.Outcome State Fault Refusal :=
  s.ends (s.event (k < 16) (·.irqHpd k st psrErr))

/-- SRC_TRAIN_ATTEMPT_END (R413). -/
def execSrcTrainAttemptEnd (k : Nat) (ok : Bool) (s : State) : Host.Outcome State Fault Refusal :=
  s.ends (s.event (k < 16) (·.sourceTrained k ok))

/-- RETRAIN (R425). -/
def execRetrain (k : Nat) (w : Wr) (s : State) : Host.Outcome State Fault Refusal :=
  s.ends (s.onWrite (k < 16) (R.SRC_CTRL k) w (·.writeSrcCtrl k (asking w (F.SRC_CTRL_RETRAIN k) 1)))

/-- MST_REALLOC_DONE (R409). -/
def execMstReallocDone (k : Nat) (s : State) : Host.Outcome State Fault Refusal :=
  s.ends (s.event (k < 16) (·.reallocDone k))

/-- SRC_AUX_REQUEST (R428). -/
def execSrcAuxRequest (k : Nat) (w : Wr) (s : State) : Host.Outcome State Fault Refusal :=
  s.ends (s.onWrite (k < 16) (R.SRC_AUX_CMD k) w (·.writeAuxCmd k (asking w (F.SRC_AUX_CMD_GO k) 1)))

/-- SRC_AUX_DONE (R429). -/
def execSrcAuxDone (k : Nat) (result : Nat) (bytes : List Byte) (s : State) : Host.Outcome State Fault Refusal :=
  s.ends (s.event (k < 16) (·.auxDone k result bytes))

/-- PANEL_PWR_ON (R415). -/
def execPanelPwrOn (k : Nat) (w : Wr) (s : State) : Host.Outcome State Fault Refusal :=
  s.ends (s.onWrite (k < 16) (R.SRC_PANEL_CTRL k) w (·.writePanelCtrl k (asking w (F.SRC_PANEL_CTRL_PWR_ON k) 1)))

/-- PANEL_PWR_OFF (R415). -/
def execPanelPwrOff (k : Nat) (w : Wr) (s : State) : Host.Outcome State Fault Refusal :=
  s.ends (s.onWrite (k < 16) (R.SRC_PANEL_CTRL k) w (·.writePanelCtrl k (asking w (F.SRC_PANEL_CTRL_PWR_ON k) 0)))

/-- PANEL_DELAY_EXPIRY (R415). -/
def execPanelDelayExpiry (k : Nat) (s : State) : Host.Outcome State Fault Refusal :=
  s.ends (s.event (k < 16) (·.panelExpiry k))

/-- SNK_HPD_EN_WRITE (R420). -/
def execSnkHpdEnWrite (j : Nat) (w : Wr) (s : State) : Host.Outcome State Fault Refusal :=
  s.ends (s.onWrite (j < 8) (R.SNK_CTRL j) w (·.writeSnkCtrl j w))

/-- SNK_HPD_PULSE (R420). -/
def execSnkHpdPulse (j : Nat) (w : Wr) (s : State) : Host.Outcome State Fault Refusal :=
  s.ends (s.onWrite (j < 8) (R.SNK_HPD_PULSE j) w (·.writeHpdPulse j (asking w (F.SNK_HPD_PULSE_REQ j) 1)))

/-- SNK_SOURCE_DETECT (R421). -/
def execSnkSourceDetect (j : Nat) (s : State) : Host.Outcome State Fault Refusal :=
  s.ends (s.event (j < 8) (·.sourceDetect j))

/-- SNK_HPD_LOSS (R421). -/
def execSnkHpdLoss (j : Nat) (s : State) : Host.Outcome State Fault Refusal :=
  s.ends (s.event (j < 8) (·.sourceGone j))

/-- SNK_TRAINING (R419). -/
def execSnkTraining (j : Nat) (rate lanes : Nat) (ok : Bool) (s : State) : Host.Outcome State Fault Refusal :=
  s.ends (s.event (j < 8) (·.sinkTraining j rate lanes ok))

/-- SNK_LOCK_LOSS (R420). -/
def execSnkLockLoss (j : Nat) (s : State) : Host.Outcome State Fault Refusal :=
  s.ends (s.event (j < 8) (·.lockLoss j false))

end Sys2Proof.Machine
end

