-- ==== Sys2Proof/Machine/Resets.lean ====
section
/-! DEFINITION. The commands of: clocks, resets and start-up (chapter 22). -/

namespace Sys2Proof.Machine

/-- POWER_ON_RESET (R780). -/
def execPowerOnReset (aon : Bool) (s : State) : Host.Outcome State Fault Refusal :=
  s.ends (s.beginReset .powerOn (if aon then 2 else 1))

/-- BROWN_OUT_RESET (R780). -/
def execBrownOutReset (s : State) : Host.Outcome State Fault Refusal :=
  s.ends (s.beginReset .brownOut 3)

/-- WARM_RESET (R780). -/
def execWarmReset (s : State) : Host.Outcome State Fault Refusal :=
  s.ends (s.beginReset .warm 4)

/-- SWRST (R780). -/
def execSwrst (w : Wr) (s : State) : Host.Outcome State Fault Refusal :=
  s.ends (s.onWrite true R.CLKRST_SWRST w (·.writeSwrst (asking w F.CLKRST_SWRST_OP 1)))

/-- RESET_END (R791). -/
def execResetEnd (gpio0 : Bool) (s : State) : Host.Outcome State Fault Refusal :=
  s.ends (s.resetEnds gpio0)

/-- HBM_INIT_DONE (R559). -/
def execHbmInitDone (s : State) : Host.Outcome State Fault Refusal :=
  s.ends (s.event true (·.hbmReady))

/-- BOOT_IMAGE_VERIFY (R790). -/
def execBootImageVerify (s : State) : Host.Outcome State Fault Refusal :=
  s.ends (s.event true (·.bootVerify))

/-- HOST_BOOT_GO (R789). -/
def execHostBootGo (w : Wr) (s : State) : Host.Outcome State Fault Refusal :=
  s.ends (s.onWrite true R.CLKRST_BOOT_CTRL w (·.writeBootCtrl (asking w F.CLKRST_BOOT_CTRL_GO 1)))

/-- REFCLK_CHECK (R779). -/
def execRefclkCheck (edges : Nat) (s : State) : Host.Outcome State Fault Refusal :=
  s.ends (s.refclkCheck edges)

/-- AON_SPLIT (R784). -/
def execAonSplit (s : State) : Host.Outcome State Fault Refusal :=
  s.ends (s.aonSplit)

/-- AON_DISSENT (R784). -/
def execAonDissent (ch : Nat) (s : State) : Host.Outcome State Fault Refusal :=
  s.ends (s.aonDissent ch)

/-- WDOG_EXPIRY (R798). -/
def execWdogExpiry (s : State) : Host.Outcome State Fault Refusal :=
  s.ends (s.event true (·.wdogExpires))

/-- WDOG_KICK (R798). -/
def execWdogKick (w : Wr) (s : State) : Host.Outcome State Fault Refusal :=
  s.ends (s.onWrite true R.CLKRST_WDOG_KICK w (·.writeWdogKick w))

/-- WDOG_CFG_WRITE (R798). -/
def execWdogCfgWrite (w : Wr) (s : State) : Host.Outcome State Fault Refusal :=
  s.ends (s.onWrite true R.CLKRST_WDOG_CFG w (·.writeWdogCfg w))

/-- CC_RESET_WRITE (R788). -/
def execCcResetWrite (k : Nat) (w : Wr) (s : State) : Host.Outcome State Fault Refusal :=
  s.ends (s.onWrite (k < 8) (R.CC_CTRL k) w (·.writeCcCtrl k w))

/-- CC_PARK_WRITE (R787). -/
def execCcParkWrite (k : Nat) (w : Wr) (s : State) : Host.Outcome State Fault Refusal :=
  s.ends (s.onWrite (k < 8) (R.CC_CTRL k) w (·.writeCcCtrl k w))

/-- CC_WFI (R787). -/
def execCcWfi (k : Nat) (s : State) : Host.Outcome State Fault Refusal :=
  s.ends (s.event (k < 8) (·.ccWfi k))

end Sys2Proof.Machine
end

