-- ==== Sys2Proof/Machine/Security.lean ====
section
/-! DEFINITION. The commands of: security and lifecycle (chapter 21). -/

namespace Sys2Proof.Machine

/-- GET_ID (R765). -/
def execGetId (w : Wr) (s : State) : Host.Outcome State Fault Refusal :=
  s.ends (s.onWrite true R.SEC_MB_CMD w (·.writeMbCmd (asking w F.SEC_MB_CMD_OP 0x01)))

/-- GET_CERT (R765). -/
def execGetCert (w : Wr) (s : State) : Host.Outcome State Fault Refusal :=
  s.ends (s.onWrite true R.SEC_MB_CMD w (·.writeMbCmd (asking w F.SEC_MB_CMD_OP 0x02)))

/-- GET_NONCE (R765). -/
def execGetNonce (w : Wr) (s : State) : Host.Outcome State Fault Refusal :=
  s.ends (s.onWrite true R.SEC_MB_CMD w (·.writeMbCmd (asking w F.SEC_MB_CMD_OP 0x03)))

/-- GET_STATUS (R765). -/
def execGetStatus (w : Wr) (s : State) : Host.Outcome State Fault Refusal :=
  s.ends (s.onWrite true R.SEC_MB_CMD w (·.writeMbCmd (asking w F.SEC_MB_CMD_OP 0x04)))

/-- ENROLL_KEY (R767). -/
def execEnrollKey (w : Wr) (s : State) : Host.Outcome State Fault Refusal :=
  s.ends (s.onWrite true R.SEC_MB_CMD w (·.writeMbCmd (asking w F.SEC_MB_CMD_OP 0x10)))

/-- REVOKE_KEY (R767). -/
def execRevokeKey (w : Wr) (s : State) : Host.Outcome State Fault Refusal :=
  s.ends (s.onWrite true R.SEC_MB_CMD w (·.writeMbCmd (asking w F.SEC_MB_CMD_OP 0x11)))

/-- RAISE_FLOOR (R767). -/
def execRaiseFloor (w : Wr) (s : State) : Host.Outcome State Fault Refusal :=
  s.ends (s.onWrite true R.SEC_MB_CMD w (·.writeMbCmd (asking w F.SEC_MB_CMD_OP 0x12)))

/-- SET_LIFECYCLE (R763). -/
def execSetLifecycle (w : Wr) (s : State) : Host.Outcome State Fault Refusal :=
  s.ends (s.onWrite true R.SEC_MB_CMD w (·.writeMbCmd (asking w F.SEC_MB_CMD_OP 0x13)))

/-- ENROLL_DEBUG (R767). -/
def execEnrollDebug (w : Wr) (s : State) : Host.Outcome State Fault Refusal :=
  s.ends (s.onWrite true R.SEC_MB_CMD w (·.writeMbCmd (asking w F.SEC_MB_CMD_OP 0x14)))

/-- SET_BND (R767). -/
def execSetBnd (w : Wr) (s : State) : Host.Outcome State Fault Refusal :=
  s.ends (s.onWrite true R.SEC_MB_CMD w (·.writeMbCmd (asking w F.SEC_MB_CMD_OP 0x15)))

/-- KEY_PUT (R765). -/
def execKeyPut (w : Wr) (s : State) : Host.Outcome State Fault Refusal :=
  s.ends (s.onWrite true R.SEC_MB_CMD w (·.writeMbCmd (asking w F.SEC_MB_CMD_OP 0x20)))

/-- KEY_DELETE (R765). -/
def execKeyDelete (w : Wr) (s : State) : Host.Outcome State Fault Refusal :=
  s.ends (s.onWrite true R.SEC_MB_CMD w (·.writeMbCmd (asking w F.SEC_MB_CMD_OP 0x21)))

/-- MACSEC_SAK (R767). -/
def execMacsecSak (w : Wr) (s : State) : Host.Outcome State Fault Refusal :=
  s.ends (s.onWrite true R.SEC_MB_CMD w (·.writeMbCmd (asking w F.SEC_MB_CMD_OP 0x22)))

/-- MKA_ICV (R765). -/
def execMkaIcv (w : Wr) (s : State) : Host.Outcome State Fault Refusal :=
  s.ends (s.onWrite true R.SEC_MB_CMD w (·.writeMbCmd (asking w F.SEC_MB_CMD_OP 0x23)))

/-- MAILBOX_COMMAND_END (R765). -/
def execMailboxCommandEnd (bad : Option Nat) (s : State) : Host.Outcome State Fault Refusal :=
  s.ends (s.event true (·.mailboxEnd bad))

/-- ID_RECONSTRUCT (R758). -/
def execIdReconstruct (ok : Bool) (s : State) : Host.Outcome State Fault Refusal :=
  s.ends (s.event true (·.idReconstruct ok))

/-- KEYSTORE_LOAD (R757). -/
def execKeystoreLoad (s : State) : Host.Outcome State Fault Refusal :=
  s.ends (s.event true (·.keystoreLoad))

/-- DEBUG_UNLOCK (R768). -/
def execDebugUnlock (pub sigR sigS : List Byte) (s : State) : Host.Outcome State Fault Refusal :=
  s.ends (s.event true (·.debugUnlock pub sigR sigS))

end Sys2Proof.Machine
end

