-- ==== Sys2Proof/Machine/Stalls.lean ====
section
/-! DEFINITION. The commands of: stalls, composition and the awning (chapters 05 and 06). -/

namespace Sys2Proof.Machine

/-- STALL_BASE_HI_WRITE (R251). -/
def execStallBaseHiWrite (n m : Nat) (w : Wr) (s : State) : Host.Outcome State Fault Refusal :=
  s.ends (s.onWrite (n < 32 && m < 8) (R.CSTALL_BASE_HI n m) w (·.writeBaseHi n m w))

/-- STALL_RING_SRC_WRITE (R251). -/
def execStallRingSrcWrite (n m : Nat) (reg : RingReg) (w : Wr) (s : State) : Host.Outcome State Fault Refusal :=
  s.ends (match reg with
    | .ctrl => s.onWrite (n < 32 && m < 8) (R.CSTALL_CTRL n m) w (·.writeStallCtrl n m w)
    | .src => s.onWrite (n < 32 && m < 8) (R.CSTALL_SRC n m) w (·.writeStallSrc n m w))

/-- SHADOW_BIND_DONE (R251). -/
def execShadowBindDone (n m : Nat) (s : State) : Host.Outcome State Fault Refusal :=
  s.ends (s.event (n < 32 && m < 8 && s.answers .pipe n 0) (·.bindDone n m))

/-- TAKE_POINT (R253). -/
def execTakePoint (n : Nat) (s : State) : Host.Outcome State Fault Refusal :=
  s.ends (s.event (n < 32 && s.answers .pipe n 0) (·.takePoint n))

/-- TAKE_READ_DONE (R253). -/
def execTakeReadDone (n m : Nat) (s : State) : Host.Outcome State Fault Refusal :=
  s.ends (s.event (n < 32 && m < 8 && s.answers .pipe n 0) (·.takeRead n m))

/-- STALL_FETCH_RETURN (R257). -/
def execStallFetchReturn (n m y : Nat) (s : State) : Host.Outcome State Fault Refusal :=
  s.ends (s.event (n < 32 && m < 8 && s.answers .pipe n 0) (·.fetchRow n m y))

/-- STALL_FETCH_FAULT (R259). -/
def execStallFetchFault (n m : Nat) (s : State) : Host.Outcome State Fault Refusal :=
  s.ends (s.event (n < 32 && m < 8 && s.answers .pipe n 0) (·.fetchFails n m))

/-- WB_ENABLE_WRITE (R282). -/
def execWbEnableWrite (n : Nat) (w : Wr) (s : State) : Host.Outcome State Fault Refusal :=
  s.ends (s.onWrite (n < 32) (R.COMP_WB_CTRL n) w (·.writeWbCtrl n (asking w (F.COMP_WB_CTRL_EN n) 1)))

/-- WB_PUBLISH (R270). -/
def execWbPublish (n : Nat) (s : State) : Host.Outcome State Fault Refusal :=
  s.ends (s.event (n < 32 && s.answers .pipe n 0) (·.wbPublish n))

/-- AWNING_PIXEL_SPLIT (R298). -/
def execAwningPixelSplit (n x y : Nat) (pixels : List Nat) (s : State) : Host.Outcome State Fault Refusal :=
  s.ends (s.event (n < 32) (·.pixelVote n x y pixels))

/-- INSTALL (R306). -/
def execInstall (w : Wr) (s : State) : Host.Outcome State Fault Refusal :=
  s.ends (s.onWrite true R.AWNG_BUNDLE_CTRL w (·.writeBundleCtrl (asking w F.AWNG_BUNDLE_CTRL_OP 1)))

/-- BUNDLE_VERIFY_DONE (R306). -/
def execBundleVerifyDone (s : State) : Host.Outcome State Fault Refusal :=
  s.ends (s.event true (·.bundleVerified))

end Sys2Proof.Machine
end

