-- ==== Sys2Proof/Machine/Thermal.lean ====
section
/-! DEFINITION. The commands of: thermal management (chapter 20). -/

namespace Sys2Proof.Machine

/-- THERMAL_UPDATE (R732). -/
def execThermalUpdate (upsets : List NodeUpset) (s : State) : Host.Outcome State Fault Refusal :=
  s.ends (s.thermalUpdate upsets)

/-- POWER_SENSE_SAMPLE (R733). -/
def execPowerSenseSample (mw : List Nat) (s : State) : Host.Outcome State Fault Refusal :=
  s.ends (s.powerSample mw)

/-- BND_READ (R735). -/
def execBndRead (r : BndResult) (s : State) : Host.Outcome State Fault Refusal :=
  s.ends (s.event true (·.bndRead r))

/-- REARM (R746). -/
def execRearm (w : Wr) (s : State) : Host.Outcome State Fault Refusal :=
  s.ends (s.onWrite true R.THERM_CTRL w (·.writeThermCtrl (asking w F.THERM_CTRL_OP 1)))

/-- TJ_PEAK_READ (R754). -/
def execTjPeakRead (master : Nat) (s : State) : Host.Outcome State Fault Refusal :=
  s.ends (s.onRead true master R.THERM_TJ_PEAK)

end Sys2Proof.Machine
end

