-- ==== Sys2Proof/Machine/TimeBases.lean ====
section
/-! DEFINITION. The commands of: time bases (chapter 14). -/

namespace Sys2Proof.Machine

/-- SET (R598). -/
def execSet (t : Nat) (w : Wr) (s : State) : Host.Outcome State Fault Refusal :=
  s.ends (s.onWrite (t < 8) (R.TB_CTRL t) w (·.writeTbCtrl t (asking w (F.TB_CTRL_OP t) 1)))

/-- STEP_TB (R598). -/
def execStepTb (t : Nat) (w : Wr) (s : State) : Host.Outcome State Fault Refusal :=
  s.ends (s.onWrite (t < 8) (R.TB_CTRL t) w (·.writeTbCtrl t (asking w (F.TB_CTRL_OP t) 2)))

/-- LOCK (R598). -/
def execLock (t : Nat) (w : Wr) (s : State) : Host.Outcome State Fault Refusal :=
  s.ends (s.onWrite (t < 8) (R.TB_CTRL t) w (·.writeTbCtrl t (asking w (F.TB_CTRL_OP t) 3)))

/-- UNLOCK (R598). -/
def execUnlock (t : Nat) (w : Wr) (s : State) : Host.Outcome State Fault Refusal :=
  s.ends (s.onWrite (t < 8) (R.TB_CTRL t) w (·.writeTbCtrl t (asking w (F.TB_CTRL_OP t) 4)))

/-- TB_RATE_HI_WRITE (R593). -/
def execTbRateHiWrite (t : Nat) (w : Wr) (s : State) : Host.Outcome State Fault Refusal :=
  s.ends (s.onWrite (t < 8) (R.TB_RATE_HI t) w (·.writeRateHi t w))

/-- OFFSET_IN_WRITE (R604). -/
def execOffsetInWrite (t : Nat) (w : Wr) (s : State) : Host.Outcome State Fault Refusal :=
  s.ends (s.onWrite (t < 8) (R.TB_OFFSET_IN t) w (·.writeOffsetIn t w))

/-- SERVO_ENABLE_WRITE (R604). -/
def execServoEnableWrite (t : Nat) (w : Wr) (s : State) : Host.Outcome State Fault Refusal :=
  s.ends (s.onWrite (t < 8) (R.TB_SERVO t) w (·.writeServo t (asking w (F.TB_SERVO_EN t) 1)))

/-- HOLDOVER_EXPIRY (R602). -/
def execHoldoverExpiry (t : Nat) (s : State) : Host.Outcome State Fault Refusal :=
  s.ends (s.event (t < 8) (·.holdoverCheck t))

/-- NOW_NS_READ (R597). -/
def execNowNsRead (t master : Nat) (s : State) : Host.Outcome State Fault Refusal :=
  s.ends (s.onRead (t < 8) master (R.TB_NOW_NS t))

/-- TS_POP (R608). -/
def execTsPop (p : Nat) (tx : Bool) (w : Wr) (s : State) : Host.Outcome State Fault Refusal :=
  s.ends (s.onWrite (p < 8) (if tx then R.TPORT_TXTS_POP p else R.TPORT_RXTS_POP p) w (·.writeTsPop p tx w))

end Sys2Proof.Machine
end

