-- ==== Sys2Proof/Machine/TouchSense.lean ====
section
/-! DEFINITION. The commands of: capacitive touch sensing (chapter 19). -/

namespace Sys2Proof.Machine

/-- TCH_RUN_SET (R715). -/
def execTchRunSet (g : Nat) (w : Wr) (s : State) : Host.Outcome State Fault Refusal :=
  s.ends (s.onWrite (g < 4) (R.TCH_CTRL g) w (·.writeTchCtrl g (asking w (F.TCH_CTRL_RUN g) 1)))

/-- TCH_RUN_CLEAR (R724). -/
def execTchRunClear (g : Nat) (w : Wr) (s : State) : Host.Outcome State Fault Refusal :=
  s.ends (s.onWrite (g < 4) (R.TCH_CTRL g) w (·.writeTchCtrl g (asking w (F.TCH_CTRL_RUN g) 0)))

/-- TCH_CH_EN_WRITE (R716). -/
def execTchChEnWrite (g : Nat) (hi : Bool) (w : Wr) (s : State) : Host.Outcome State Fault Refusal :=
  s.ends (s.onWrite (g < 4) (if hi then R.TCH_CH_EN_HI g else R.TCH_CH_EN_LO g) w (·.writeChEn g hi w))

/-- TCH_CALIBRATION_DONE (R716). -/
def execTchCalibrationDone (g : Nat) (caps : List (Nat × Nat)) (s : State) : Host.Outcome State Fault Refusal :=
  s.ends (s.event (g < 4) (·.tchCalDone g caps))

/-- TCH_SCAN_START (R714). -/
def execTchScanStart (g : Nat) (s : State) : Host.Outcome State Fault Refusal :=
  s.ends (s.event (g < 4) (·.tchScan g))

/-- TCH_PHASE_END (R717). -/
def execTchPhaseEnd (g : Nat) (nets : List (Nat × Nat)) (s : State) : Host.Outcome State Fault Refusal :=
  s.ends (s.event (g < 4) (·.tchPhase g nets))

end Sys2Proof.Machine
end

