-- ==== Sys2Proof/Machine/WallLink.lean ====
section
/-! DEFINITION. The commands of: the wall link and the protocol of the twin link (chapter 11). -/

namespace Sys2Proof.Machine

/-- BLOCK_LOCK (R480). -/
def execBlockLock (link : Link) (lane : Nat) (s : State) : Host.Outcome State Fault Refusal :=
  s.ends (s.event true (·.blockLock link lane))

/-- BLOCK_LOCK_LOSS (R480). -/
def execBlockLockLoss (link : Link) (lane : Nat) (s : State) : Host.Outcome State Fault Refusal :=
  s.ends (s.event true (·.blockLoss link lane))

/-- LINK_DESKEW (R481). -/
def execLinkDeskew (link : Link) (s : State) : Host.Outcome State Fault Refusal :=
  s.ends (s.event true (·.deskewed link))

/-- DESKEW_LOSS (R506). -/
def execDeskewLoss (link : Link) (s : State) : Host.Outcome State Fault Refusal :=
  s.ends (s.event true (·.deskewLost link))

/-- WLK_FRAME_REJECT (R484). -/
def execWlkFrameReject (link : Link) (why : FrameFault) (s : State) : Host.Outcome State Fault Refusal :=
  s.ends (s.event (3 ≤ s.get (linkStateF link)) (·.linkReject link why false))

/-- HELLO (R500). -/
def execHello (link : Link) (f : LinkFrame) (s : State) : Host.Outcome State Fault Refusal :=
  s.ends (s.event true (·.linkHello link f))

/-- FINISH (R502). -/
def execFinish (link : Link) (f : LinkFrame) (s : State) : Host.Outcome State Fault Refusal :=
  s.ends (s.event true (·.linkGotFinish link f))

/-- FINISH_TIMEOUT (R502). -/
def execFinishTimeout (link : Link) (s : State) : Host.Outcome State Fault Refusal :=
  s.ends (s.event true (·.finishTimeout link))

/-- VIDEO (R490). -/
def execVideo (f : LinkFrame) (s : State) : Host.Outcome State Fault Refusal :=
  s.ends (s.event true (·.linkRx .wall f fun s => (s.wlkVideo f).forward 1 f))

/-- AUDIO (R491). -/
def execAudio (f : LinkFrame) (s : State) : Host.Outcome State Fault Refusal :=
  s.ends (s.event true (·.linkRx .wall f fun s => (s.sapAudio f.vc f.tag f.payload).forward 2 f))

/-- INPUT (R493). -/
def execInput (f : LinkFrame) (s : State) : Host.Outcome State Fault Refusal :=
  s.ends (s.event true (·.linkRx .wall f (·.toSoftware 3 f)))

/-- CONTROL_SOFTWARE (R497). -/
def execControlSoftware (f : LinkFrame) (s : State) : Host.Outcome State Fault Refusal :=
  s.ends (s.event true (·.linkRx .wall f (·.toSoftware 4 f)))

/-- KEYREQ (R494). -/
def execKeyreq (f : LinkFrame) (s : State) : Host.Outcome State Fault Refusal :=
  s.ends (s.event true (·.linkRx .wall f (·.wlkKeyreq f)))

/-- HEARTBEAT (R495). -/
def execHeartbeat (f : LinkFrame) (s : State) : Host.Outcome State Fault Refusal :=
  s.ends (s.event true (·.linkRx .wall f id))

/-- ATTEST_REQUEST (R496). -/
def execAttestRequest (f : LinkFrame) (s : State) : Host.Outcome State Fault Refusal :=
  s.ends (s.event true (·.linkRx .wall f (·.wlkAttest f)))

/-- ATTEST_RECORD (R496). -/
def execAttestRecord (f : LinkFrame) (s : State) : Host.Outcome State Fault Refusal :=
  s.ends (s.event true (·.linkRx .wall f (·.toSoftware 7 f)))

/-- HEARTBEAT_SEND (R495). -/
def execHeartbeatSend (link : Link) (s : State) : Host.Outcome State Fault Refusal :=
  s.ends (s.event true (·.heartbeatSend link))

/-- HEARTBEAT_LOSS (R506). -/
def execHeartbeatLoss (link : Link) (s : State) : Host.Outcome State Fault Refusal :=
  s.ends (s.event true (·.heartbeatLoss link))

/-- WLK_FRAME_TX (R487). -/
def execWlkFrameTx (link : Link) (s : State) : Host.Outcome State Fault Refusal :=
  s.ends (s.event true (·.linkTx link))

/-- INPUT_FORWARD (R493). -/
def execInputForward (s : State) : Host.Outcome State Fault Refusal :=
  s.ends (s.event true (·.inputForward))

/-- REKEY (R503). -/
def execRekey (w : Wr) (s : State) : Host.Outcome State Fault Refusal :=
  s.ends (s.onWrite true R.WLK_CTRL w (·.writeWlkCtrl (asking w F.WLK_CTRL_REKEY 1)))

/-- WLK_ENABLE (R505). -/
def execWlkEnable (w : Wr) (s : State) : Host.Outcome State Fault Refusal :=
  s.ends (s.onWrite true R.WLK_CTRL w (·.writeWlkCtrl (asking w F.WLK_CTRL_EN 1)))

/-- WLK_DISABLE (R506). -/
def execWlkDisable (w : Wr) (s : State) : Host.Outcome State Fault Refusal :=
  s.ends (s.onWrite true R.WLK_CTRL w (·.writeWlkCtrl (asking w F.WLK_CTRL_EN 0)))

end Sys2Proof.Machine
end

