-- ==== Sys2Proof/Machine/Dispatch.lean ====
section
/-! DEFINITION. The dispatch of a command to its meaning: one arm per constructor. -/

namespace Sys2Proof.Machine

def exec (i : Instr) (s : State) : Host.Outcome State Fault Refusal :=
  match i with
  | .registerWrite master addr size data => Sys2Proof.Machine.execRegisterWrite master addr size data s
  | .pairLoRead master addr => Sys2Proof.Machine.execPairLoRead master addr s
  | .pairHiWrite master addr data => Sys2Proof.Machine.execPairHiWrite master addr data s
  | .headLatch n => Sys2Proof.Machine.execHeadLatch n s
  | .verdictDeadline n => Sys2Proof.Machine.execVerdictDeadline n s
  | .attestReq n w => Sys2Proof.Machine.execAttestReq n w s
  | .attestRecordDone n => Sys2Proof.Machine.execAttestRecordDone n s
  | .attestTimeout n => Sys2Proof.Machine.execAttestTimeout n s
  | .loadA w => Sys2Proof.Machine.execLoadA w s
  | .loadB w => Sys2Proof.Machine.execLoadB w s
  | .loadMem w => Sys2Proof.Machine.execLoadMem w s
  | .writeA w => Sys2Proof.Machine.execWriteA w s
  | .writeB w => Sys2Proof.Machine.execWriteB w s
  | .abort w => Sys2Proof.Machine.execAbort w s
  | .planLoadStart => Sys2Proof.Machine.execPlanLoadStart s
  | .planCopyDone => Sys2Proof.Machine.execPlanCopyDone s
  | .planVerifyDone => Sys2Proof.Machine.execPlanVerifyDone s
  | .planCheckDone => Sys2Proof.Machine.execPlanCheckDone s
  | .planApplyStart => Sys2Proof.Machine.execPlanApplyStart s
  | .planApplyDone => Sys2Proof.Machine.execPlanApplyDone s
  | .slotStagingDone => Sys2Proof.Machine.execSlotStagingDone s
  | .markerEraseDone => Sys2Proof.Machine.execMarkerEraseDone s
  | .imageEraseDone => Sys2Proof.Machine.execImageEraseDone s
  | .imageProgramDone => Sys2Proof.Machine.execImageProgramDone s
  | .readbackDone => Sys2Proof.Machine.execReadbackDone s
  | .markerProgramDone => Sys2Proof.Machine.execMarkerProgramDone s
  | .qspiGrant => Sys2Proof.Machine.execQspiGrant s
  | .ethPacketRx p pkt => Sys2Proof.Machine.execEthPacketRx p pkt s
  | .ethTxSlot p => Sys2Proof.Machine.execEthTxSlot p s
  | .frameClose ix => Sys2Proof.Machine.execFrameClose ix s
  | .frameCloseTimer ix => Sys2Proof.Machine.execFrameCloseTimer ix s
  | .snkFrameStart j => Sys2Proof.Machine.execSnkFrameStart j s
  | .snkFrameClose j f => Sys2Proof.Machine.execSnkFrameClose j f s
  | .streamEnable ix w => Sys2Proof.Machine.execStreamEnable ix w s
  | .streamDisable ix w => Sys2Proof.Machine.execStreamDisable ix w s
  | .silenceCompare => Sys2Proof.Machine.execSilenceCompare s
  | .streamRdIdxWrite ix w => Sys2Proof.Machine.execStreamRdIdxWrite ix w s
  | .decCtxEnable c w => Sys2Proof.Machine.execDecCtxEnable c w s
  | .decCtxDisable c w => Sys2Proof.Machine.execDecCtxDisable c w s
  | .decDrainDone c => Sys2Proof.Machine.execDecDrainDone c s
  | .decCmdWrIdxWrite c w => Sys2Proof.Machine.execDecCmdWrIdxWrite c w s
  | .decPictureStart c au => Sys2Proof.Machine.execDecPictureStart c au s
  | .decWorkUnitDone k r => Sys2Proof.Machine.execDecWorkUnitDone k r s
  | .decPictureDone c motion => Sys2Proof.Machine.execDecPictureDone c motion s
  | .decWatchdog k => Sys2Proof.Machine.execDecWatchdog k s
  | .keyreqRepeat c => Sys2Proof.Machine.execKeyreqRepeat c s
  | .decKeyreqWrite c w => Sys2Proof.Machine.execDecKeyreqWrite c w s
  | .decOutRdIdxWrite c w => Sys2Proof.Machine.execDecOutRdIdxWrite c w s
  | .stallBaseHiWrite n m w => Sys2Proof.Machine.execStallBaseHiWrite n m w s
  | .stallRingSrcWrite n m reg w => Sys2Proof.Machine.execStallRingSrcWrite n m reg w s
  | .shadowBindDone n m => Sys2Proof.Machine.execShadowBindDone n m s
  | .takePoint n => Sys2Proof.Machine.execTakePoint n s
  | .takeReadDone n m => Sys2Proof.Machine.execTakeReadDone n m s
  | .stallFetchReturn n m y => Sys2Proof.Machine.execStallFetchReturn n m y s
  | .stallFetchFault n m => Sys2Proof.Machine.execStallFetchFault n m s
  | .wbEnableWrite n w => Sys2Proof.Machine.execWbEnableWrite n w s
  | .wbPublish n => Sys2Proof.Machine.execWbPublish n s
  | .awningPixelSplit n x y pixels => Sys2Proof.Machine.execAwningPixelSplit n x y pixels s
  | .install w => Sys2Proof.Machine.execInstall w s
  | .bundleVerifyDone => Sys2Proof.Machine.execBundleVerifyDone s
  | .spBankSelWrite k w => Sys2Proof.Machine.execSpBankSelWrite k w s
  | .spBankCheckDone k => Sys2Proof.Machine.execSpBankCheckDone k s
  | .spCoefDataAccess k a => Sys2Proof.Machine.execSpCoefDataAccess k a s
  | .spRomLoad k w => Sys2Proof.Machine.execSpRomLoad k w s
  | .spRomLoadDone k => Sys2Proof.Machine.execSpRomLoadDone k s
  | .lutData1Access n a => Sys2Proof.Machine.execLutData1Access n a s
  | .pixclkWrite n w => Sys2Proof.Machine.execPixclkWrite n w s
  | .pllLock n => Sys2Proof.Machine.execPllLock n s
  | .headRunSet n w => Sys2Proof.Machine.execHeadRunSet n w s
  | .headStart n => Sys2Proof.Machine.execHeadStart n s
  | .headRunClear n w => Sys2Proof.Machine.execHeadRunClear n w s
  | .headHalt n => Sys2Proof.Machine.execHeadHalt n s
  | .headCommit n w => Sys2Proof.Machine.execHeadCommit n w s
  | .snapshotArm n => Sys2Proof.Machine.execSnapshotArm n s
  | .headUnderrun n line pixel => Sys2Proof.Machine.execHeadUnderrun n line pixel s
  | .rgnCompare n r fault => Sys2Proof.Machine.execRgnCompare n r fault s
  | .faultClr n w => Sys2Proof.Machine.execFaultClr n w s
  | .dsFetchFault n y => Sys2Proof.Machine.execDsFetchFault n y s
  | .tolMinRead n master => Sys2Proof.Machine.execTolMinRead n master s
  | .srcPlug k caps => Sys2Proof.Machine.execSrcPlug k caps s
  | .srcEdidDone k edid => Sys2Proof.Machine.execSrcEdidDone k edid s
  | .srcUnplug k edid => Sys2Proof.Machine.execSrcUnplug k edid s
  | .srcIrqHpd k st psrErr => Sys2Proof.Machine.execSrcIrqHpd k st psrErr s
  | .srcTrainAttemptEnd k ok => Sys2Proof.Machine.execSrcTrainAttemptEnd k ok s
  | .retrain k w => Sys2Proof.Machine.execRetrain k w s
  | .mstReallocDone k => Sys2Proof.Machine.execMstReallocDone k s
  | .srcAuxRequest k w => Sys2Proof.Machine.execSrcAuxRequest k w s
  | .srcAuxDone k result bytes => Sys2Proof.Machine.execSrcAuxDone k result bytes s
  | .panelPwrOn k w => Sys2Proof.Machine.execPanelPwrOn k w s
  | .panelPwrOff k w => Sys2Proof.Machine.execPanelPwrOff k w s
  | .panelDelayExpiry k => Sys2Proof.Machine.execPanelDelayExpiry k s
  | .snkHpdEnWrite j w => Sys2Proof.Machine.execSnkHpdEnWrite j w s
  | .snkHpdPulse j w => Sys2Proof.Machine.execSnkHpdPulse j w s
  | .snkSourceDetect j => Sys2Proof.Machine.execSnkSourceDetect j s
  | .snkHpdLoss j => Sys2Proof.Machine.execSnkHpdLoss j s
  | .snkTraining j rate lanes ok => Sys2Proof.Machine.execSnkTraining j rate lanes ok s
  | .snkLockLoss j => Sys2Proof.Machine.execSnkLockLoss j s
  | .encCtxEnable c w => Sys2Proof.Machine.execEncCtxEnable c w s
  | .encCtxDisable c w => Sys2Proof.Machine.execEncCtxDisable c w s
  | .encDrainDone c => Sys2Proof.Machine.execEncDrainDone c s
  | .encPictureStart c => Sys2Proof.Machine.execEncPictureStart c s
  | .encRowStart c j spent done => Sys2Proof.Machine.execEncRowStart c j spent done s
  | .encWorkUnitDone k rowBits => Sys2Proof.Machine.execEncWorkUnitDone k rowBits s
  | .encPictureDone c au motion => Sys2Proof.Machine.execEncPictureDone c au motion s
  | .encOutputOverflow c => Sys2Proof.Machine.execEncOutputOverflow c s
  | .encWatchdog k => Sys2Proof.Machine.execEncWatchdog k s
  | .encKeyreqWrite c w => Sys2Proof.Machine.execEncKeyreqWrite c w s
  | .encOutRdIdxWrite c w => Sys2Proof.Machine.execEncOutRdIdxWrite c w s
  | .blockLock link lane => Sys2Proof.Machine.execBlockLock link lane s
  | .blockLockLoss link lane => Sys2Proof.Machine.execBlockLockLoss link lane s
  | .linkDeskew link => Sys2Proof.Machine.execLinkDeskew link s
  | .wlkFrameReject link why => Sys2Proof.Machine.execWlkFrameReject link why s
  | .hello link f => Sys2Proof.Machine.execHello link f s
  | .finish link f => Sys2Proof.Machine.execFinish link f s
  | .finishTimeout link => Sys2Proof.Machine.execFinishTimeout link s
  | .video f => Sys2Proof.Machine.execVideo f s
  | .audio f => Sys2Proof.Machine.execAudio f s
  | .input f => Sys2Proof.Machine.execInput f s
  | .controlSoftware f => Sys2Proof.Machine.execControlSoftware f s
  | .keyreq f => Sys2Proof.Machine.execKeyreq f s
  | .heartbeat f => Sys2Proof.Machine.execHeartbeat f s
  | .attestRequest f => Sys2Proof.Machine.execAttestRequest f s
  | .attestRecord f => Sys2Proof.Machine.execAttestRecord f s
  | .heartbeatSend link => Sys2Proof.Machine.execHeartbeatSend link s
  | .heartbeatLoss link => Sys2Proof.Machine.execHeartbeatLoss link s
  | .wlkFrameTx link => Sys2Proof.Machine.execWlkFrameTx link s
  | .inputForward => Sys2Proof.Machine.execInputForward s
  | .rekey w => Sys2Proof.Machine.execRekey w s
  | .wlkEnable w => Sys2Proof.Machine.execWlkEnable w s
  | .wlkDisable w => Sys2Proof.Machine.execWlkDisable w s
  | .pairTick => Sys2Proof.Machine.execPairTick s
  | .tick f => Sys2Proof.Machine.execTick f s
  | .twinPhbEdge level => Sys2Proof.Machine.execTwinPhbEdge level s
  | .heartbeatMissed => Sys2Proof.Machine.execHeartbeatMissed s
  | .step f => Sys2Proof.Machine.execStep f s
  | .copy f => Sys2Proof.Machine.execCopy f s
  | .forward f => Sys2Proof.Machine.execForward f s
  | .forwardDrop => Sys2Proof.Machine.execForwardDrop s
  | .switchReq f => Sys2Proof.Machine.execSwitchReq f s
  | .switchAccept f => Sys2Proof.Machine.execSwitchAccept f s
  | .switchAbort f => Sys2Proof.Machine.execSwitchAbort f s
  | .twinSwitch w => Sys2Proof.Machine.execTwinSwitch w s
  | .twinPlanned w => Sys2Proof.Machine.execTwinPlanned w s
  | .declareFault w => Sys2Proof.Machine.execDeclareFault w s
  | .twinPactFall => Sys2Proof.Machine.execTwinPactFall s
  | .twinPactRise => Sys2Proof.Machine.execTwinPactRise s
  | .electionTimeout => Sys2Proof.Machine.execElectionTimeout s
  | .electionRetry => Sys2Proof.Machine.execElectionRetry s
  | .bistUnitDone ok => Sys2Proof.Machine.execBistUnitDone ok s
  | .tickWorkMissed => Sys2Proof.Machine.execTickWorkMissed s
  | .memAccess a => Sys2Proof.Machine.execMemAccess a s
  | .scrubRead u => Sys2Proof.Machine.execScrubRead u s
  | .srEntry => Sys2Proof.Machine.execSrEntry s
  | .srExit => Sys2Proof.Machine.execSrExit s
  | .srExitDone => Sys2Proof.Machine.execSrExitDone s
  | .recolourRequest w => Sys2Proof.Machine.execRecolourRequest w s
  | .recolourPage u => Sys2Proof.Machine.execRecolourPage u s
  | .set t w => Sys2Proof.Machine.execSet t w s
  | .stepTb t w => Sys2Proof.Machine.execStepTb t w s
  | .lock t w => Sys2Proof.Machine.execLock t w s
  | .unlock t w => Sys2Proof.Machine.execUnlock t w s
  | .tbRateHiWrite t w => Sys2Proof.Machine.execTbRateHiWrite t w s
  | .offsetInWrite t w => Sys2Proof.Machine.execOffsetInWrite t w s
  | .servoEnableWrite t w => Sys2Proof.Machine.execServoEnableWrite t w s
  | .holdoverExpiry t => Sys2Proof.Machine.execHoldoverExpiry t s
  | .nowNsRead t master => Sys2Proof.Machine.execNowNsRead t master s
  | .tsPop p tx w => Sys2Proof.Machine.execTsPop p tx w s
  | .swiSet w => Sys2Proof.Machine.execSwiSet w s
  | .irqDeliveryPoint => Sys2Proof.Machine.execIrqDeliveryPoint s
  | .holdoffExpiry g => Sys2Proof.Machine.execHoldoffExpiry g s
  | .claim k master => Sys2Proof.Machine.execClaim k master s
  | .complete k w => Sys2Proof.Machine.execComplete k w s
  | .stackReset k w => Sys2Proof.Machine.execStackReset k w s
  | .go e w => Sys2Proof.Machine.execGo e w s
  | .cveAbort e w => Sys2Proof.Machine.execCveAbort e w s
  | .cveBlockDone e => Sys2Proof.Machine.execCveBlockDone e s
  | .cveAccessFault e => Sys2Proof.Machine.execCveAccessFault e s
  | .lanePwrWrite l w => Sys2Proof.Machine.execLanePwrWrite l w s
  | .laneStateChangeDone l => Sys2Proof.Machine.execLaneStateChangeDone l s
  | .cdrLock l => Sys2Proof.Machine.execCdrLock l s
  | .cdrLockLoss l => Sys2Proof.Machine.execCdrLockLoss l s
  | .slip l w => Sys2Proof.Machine.execSlip l w s
  | .slipApplied l => Sys2Proof.Machine.execSlipApplied l s
  | .prbsCheckEnable l w => Sys2Proof.Machine.execPrbsCheckEnable l w s
  | .prbsLock l => Sys2Proof.Machine.execPrbsLock l s
  | .prbsLoss l => Sys2Proof.Machine.execPrbsLoss l s
  | .rxWordRead l master word => Sys2Proof.Machine.execRxWordRead l master word s
  | .calGo shell w => Sys2Proof.Machine.execCalGo shell w s
  | .calDone shell ok us => Sys2Proof.Machine.execCalDone shell ok us s
  | .shellHealthEval shell causes => Sys2Proof.Machine.execShellHealthEval shell causes s
  | .sampleFrame p len rx => Sys2Proof.Machine.execSampleFrame p len rx s
  | .sapRunSet p w => Sys2Proof.Machine.execSapRunSet p w s
  | .sapRunClear p w => Sys2Proof.Machine.execSapRunClear p w s
  | .sapMuteWrite p w => Sys2Proof.Machine.execSapMuteWrite p w s
  | .zcTimeout p => Sys2Proof.Machine.execZcTimeout p s
  | .slotMaskWrite p w => Sys2Proof.Machine.execSlotMaskWrite p w s
  | .pllCfgWrite w => Sys2Proof.Machine.execPllCfgWrite w s
  | .pllAdjWrite w => Sys2Proof.Machine.execPllAdjWrite w s
  | .measFsUpdate p => Sys2Proof.Machine.execMeasFsUpdate p s
  | .tchRunSet g w => Sys2Proof.Machine.execTchRunSet g w s
  | .tchRunClear g w => Sys2Proof.Machine.execTchRunClear g w s
  | .tchChEnWrite g hi w => Sys2Proof.Machine.execTchChEnWrite g hi w s
  | .tchCalibrationDone g caps => Sys2Proof.Machine.execTchCalibrationDone g caps s
  | .tchScanStart g => Sys2Proof.Machine.execTchScanStart g s
  | .tchPhaseEnd g nets => Sys2Proof.Machine.execTchPhaseEnd g nets s
  | .thermalUpdate upsets => Sys2Proof.Machine.execThermalUpdate upsets s
  | .powerSenseSample mw => Sys2Proof.Machine.execPowerSenseSample mw s
  | .bndRead r => Sys2Proof.Machine.execBndRead r s
  | .rearm w => Sys2Proof.Machine.execRearm w s
  | .tjPeakRead master => Sys2Proof.Machine.execTjPeakRead master s
  | .getId w => Sys2Proof.Machine.execGetId w s
  | .getCert w => Sys2Proof.Machine.execGetCert w s
  | .getNonce w => Sys2Proof.Machine.execGetNonce w s
  | .getStatus w => Sys2Proof.Machine.execGetStatus w s
  | .enrollKey w => Sys2Proof.Machine.execEnrollKey w s
  | .revokeKey w => Sys2Proof.Machine.execRevokeKey w s
  | .raiseFloor w => Sys2Proof.Machine.execRaiseFloor w s
  | .setLifecycle w => Sys2Proof.Machine.execSetLifecycle w s
  | .enrollDebug w => Sys2Proof.Machine.execEnrollDebug w s
  | .setBnd w => Sys2Proof.Machine.execSetBnd w s
  | .keyPut w => Sys2Proof.Machine.execKeyPut w s
  | .keyDelete w => Sys2Proof.Machine.execKeyDelete w s
  | .macsecSak w => Sys2Proof.Machine.execMacsecSak w s
  | .mkaIcv w => Sys2Proof.Machine.execMkaIcv w s
  | .mailboxCommandEnd bad => Sys2Proof.Machine.execMailboxCommandEnd bad s
  | .idReconstruct ok => Sys2Proof.Machine.execIdReconstruct ok s
  | .keystoreLoad => Sys2Proof.Machine.execKeystoreLoad s
  | .debugUnlock pub sigR sigS => Sys2Proof.Machine.execDebugUnlock pub sigR sigS s
  | .powerOnReset aon => Sys2Proof.Machine.execPowerOnReset aon s
  | .brownOutReset => Sys2Proof.Machine.execBrownOutReset s
  | .warmReset => Sys2Proof.Machine.execWarmReset s
  | .swrst w => Sys2Proof.Machine.execSwrst w s
  | .resetEnd gpio0 => Sys2Proof.Machine.execResetEnd gpio0 s
  | .hbmInitDone => Sys2Proof.Machine.execHbmInitDone s
  | .bootImageVerify => Sys2Proof.Machine.execBootImageVerify s
  | .hostBootGo w => Sys2Proof.Machine.execHostBootGo w s
  | .refclkCheck edges => Sys2Proof.Machine.execRefclkCheck edges s
  | .aonSplit => Sys2Proof.Machine.execAonSplit s
  | .wdogExpiry => Sys2Proof.Machine.execWdogExpiry s
  | .wdogKick w => Sys2Proof.Machine.execWdogKick w s
  | .wdogCfgWrite w => Sys2Proof.Machine.execWdogCfgWrite w s
  | .ccResetWrite k w => Sys2Proof.Machine.execCcResetWrite k w s
  | .ccParkWrite k w => Sys2Proof.Machine.execCcParkWrite k w s
  | .ccWfi k => Sys2Proof.Machine.execCcWfi k s
  | .ledgerWrite => Sys2Proof.Machine.execLedgerWrite s
  | .faultInjectArm d w => Sys2Proof.Machine.execFaultInjectArm d w s
  | .dbSetWrite w => Sys2Proof.Machine.execDbSetWrite w s
  | .gpioEdge pin level => Sys2Proof.Machine.execGpioEdge pin level s
  | .i2cTransaction b w => Sys2Proof.Machine.execI2cTransaction b w s
  | .i2cDone b result bytes => Sys2Proof.Machine.execI2cDone b result bytes s
  | .deskewLoss link => Sys2Proof.Machine.execDeskewLoss link s
  | .sapBclkLoss p => Sys2Proof.Machine.execSapBclkLoss p s
  | .aonDissent ch => Sys2Proof.Machine.execAonDissent ch s
  | .lutResetDone => Sys2Proof.Machine.execLutResetDone s

end Sys2Proof.Machine
end

