-- ==== Sys2Proof/Machine/Step.lean ====
section
/-! DEFINITION. The step of the block: the command at the front of the queue, or a clock where the queue is empty. -/

namespace Sys2Proof.Machine

/-- The command at the front of the queue takes effect; with none waiting, a TS clock passes.
(DESIGN CHOICE, log 1; DESIGN CHOICE, log 2.) -/
def step (s : State) : Host.Outcome State Fault Refusal :=
  match s.pending with
  | c :: rest => exec c { s with pending := rest }
  | [] => .next s.clock

/-- The state with the command that a word spells at the front of the queue; unchanged where it spells none.
(DESIGN CHOICE, log 5.) -/
def State.withFetchWord (s : State) (nbits w : Nat) : State :=
  match decodeTableWord nbits w with
  | some c => { s with pending := c :: s.pending }
  | none => s

end Sys2Proof.Machine
end

