-- ==== Sys2Proof/WellFormed.lean ====
section
/-! DEFINITION. Which commands are well formed: the operands name units that the die has and values that the spec's ranges
admit. A command that is not well formed stands for no access or event of the hardware. -/

namespace Sys2Proof

/-- Heads, pipes and their awning and verdict instances (R826). -/
def headOk (n : Nat) : Bool := n < 32

/-- Ethernet, sink and serial audio ports. -/
def portOk (n : Nat) : Bool := n < 8

/-- Stream entries. -/
def entryOk (n : Nat) : Bool := n < 512

/-- Decode contexts. -/
def decOk (n : Nat) : Bool := n < 128

/-- Decode cores. -/
def decCoreOk (n : Nat) : Bool := n < 16

/-- Stalls of a pipe. -/
def stallOk (n : Nat) : Bool := n < 8

/-- Units of the scaler pool. -/
def scalerOk (n : Nat) : Bool := n < 64

/-- Source ports. -/
def srcOk (n : Nat) : Bool := n < 16

/-- Encode contexts. -/
def encOk (n : Nat) : Bool := n < 64

/-- Encode cores. -/
def encCoreOk (n : Nat) : Bool := n < 8

/-- Time bases. -/
def timeBaseOk (n : Nat) : Bool := n < 8

/-- Hold-off groups of interrupt sources. -/
def irqGroupOk (n : Nat) : Bool := n < 31

/-- Interrupt targets. -/
def targetOk (n : Nat) : Bool := n < 12

/-- Check-value engines. -/
def engineOk (n : Nat) : Bool := n < 8

/-- Serial lanes. -/
def laneOk (n : Nat) : Bool := n < 96

/-- Touch groups. -/
def groupOk (n : Nat) : Bool := n < 4

/-- Control cores. -/
def unitOk (n : Nat) : Bool := n < 8

/-- Injection points. -/
def pointOk (n : Nat) : Bool := n < 96

/-- GPIO pins. -/
def pinOk (n : Nat) : Bool := n < 32

/-- I2C buses. -/
def busOk (n : Nat) : Bool := n < 2

/-- Masters: the identifiers of the checkers (R575). -/
def masterOk (n : Nat) : Bool := n < 128

/-- Addresses have 40 bits. -/
def addrOk (a : Nat) : Bool := a < 2 ^ 40

/-- A register write has 8, 16 or 32 bits (R22). -/
def sizeOk (n : Nat) : Bool := n == 1 || n == 2 || n == 4

/-- A link has at most eight lanes. -/
def linkLaneOk (n : Nat) : Bool := n < 8

/-- A shell is named by the address of its window (R834). -/
def shellOk (b : Nat) : Bool := b % 0x1000 == 0 && decide (0x40D80000 ≤ b) && decide (b < 0x417B0000)

/-- The always-on island has three channels (R784). -/
def channelOk (n : Nat) : Bool := n < 3

/-- A received frame has at most 9216 bytes. -/
def frameOk (p : Packet) : Bool := p.bytes.length ≤ 9216

/-- A raw receive word has 40 bits (R674). -/
def rxWordOk (w : Nat) : Bool := w < 2 ^ 40

/-- Results of an AUX request and of an I2C transaction (R428, R832). -/
def auxOk (n : Nat) : Bool := n < 4
def i2cOk (n : Nat) : Bool := n < 5

/-- Health causes have four bits besides that of an injection (R838). -/
def causesOk (n : Nat) : Bool := n < 16

/-- An EDID has at most 512 bytes (R406). -/
def edidOk (bs : List Byte) : Bool := bs.length ≤ 512

/-- A link frame has a virtual channel of 4 bits, a tag of 12, flags of 8 and at most 1040 payload bytes: 1024, or those and the header that a FORWARD frame repeats (R482, R522). -/
def LinkFrame.wf (f : LinkFrame) : Bool :=
  decide (f.vc < 16) && decide (f.tag < 4096) && decide (f.flags < 256) && decide (f.fcnt < 2 ^ 64) && decide (f.payload.length ≤ 1040)

/-- A sink frame has the lines it was measured with. -/
def SinkFrame.wf (f : SinkFrame) : Bool :=
  f.lines.length == f.height

def PortAccess.wf : PortAccess → Bool
  | .read master => masterOk master
  | .write w => masterOk w.master

/-- An access of at least one byte within the address space; a write brings its bytes. -/
def Access.wf (a : Access) : Bool :=
  masterOk a.master && addrOk a.addr && (if a.write then !a.data.isEmpty else decide (0 < a.size))

/-- The command is well formed. (DEDUCED, log 17.) -/
def Instr.wf : Instr → Bool
  | .registerWrite master addr size _ => masterOk master && addrOk addr && sizeOk size
  | .pairLoRead master addr => masterOk master && addrOk addr
  | .pairHiWrite master addr _ => masterOk master && addrOk addr
  | .headLatch n => headOk n
  | .verdictDeadline n => headOk n
  | .attestReq n w => headOk n && masterOk w.master
  | .attestRecordDone n => headOk n
  | .attestTimeout n => headOk n
  | .loadA w => masterOk w.master
  | .loadB w => masterOk w.master
  | .loadMem w => masterOk w.master
  | .writeA w => masterOk w.master
  | .writeB w => masterOk w.master
  | .abort w => masterOk w.master
  | .planLoadStart => true
  | .planCopyDone => true
  | .planVerifyDone => true
  | .planCheckDone => true
  | .planApplyStart => true
  | .planApplyDone => true
  | .slotStagingDone => true
  | .markerEraseDone => true
  | .imageEraseDone => true
  | .imageProgramDone => true
  | .readbackDone => true
  | .markerProgramDone => true
  | .qspiGrant => true
  | .ethPacketRx p pkt => portOk p && frameOk pkt
  | .ethTxSlot p => portOk p
  | .frameClose i => entryOk i
  | .frameCloseTimer i => entryOk i
  | .snkFrameStart j => portOk j
  | .snkFrameClose j f => portOk j && f.wf
  | .streamEnable i w => entryOk i && masterOk w.master
  | .streamDisable i w => entryOk i && masterOk w.master
  | .silenceCompare => true
  | .streamRdIdxWrite i w => entryOk i && masterOk w.master
  | .decCtxEnable c w => decOk c && masterOk w.master
  | .decCtxDisable c w => decOk c && masterOk w.master
  | .decDrainDone c => decOk c
  | .decCmdWrIdxWrite c w => decOk c && masterOk w.master
  | .decPictureStart c _ => decOk c
  | .decWorkUnitDone k _ => decCoreOk k
  | .decPictureDone c _ => decOk c
  | .decWatchdog k => decCoreOk k
  | .keyreqRepeat c => decOk c
  | .decKeyreqWrite c w => decOk c && masterOk w.master
  | .decOutRdIdxWrite c w => decOk c && masterOk w.master
  | .stallBaseHiWrite n m w => headOk n && stallOk m && masterOk w.master
  | .stallRingSrcWrite n m _ w => headOk n && stallOk m && masterOk w.master
  | .shadowBindDone n m => headOk n && stallOk m
  | .takePoint n => headOk n
  | .takeReadDone n m => headOk n && stallOk m
  | .stallFetchReturn n m _ => headOk n && stallOk m
  | .stallFetchFault n m => headOk n && stallOk m
  | .wbEnableWrite n w => headOk n && masterOk w.master
  | .wbPublish n => headOk n
  | .awningPixelSplit n _ _ _ => headOk n
  | .install w => masterOk w.master
  | .bundleVerifyDone => true
  | .spBankSelWrite k w => scalerOk k && masterOk w.master
  | .spBankCheckDone k => scalerOk k
  | .spCoefDataAccess k a => scalerOk k && a.wf
  | .spRomLoad k w => scalerOk k && masterOk w.master
  | .spRomLoadDone k => scalerOk k
  | .lutData1Access n a => headOk n && a.wf
  | .pixclkWrite n w => headOk n && masterOk w.master
  | .pllLock n => headOk n
  | .headRunSet n w => headOk n && masterOk w.master
  | .headStart n => headOk n
  | .headRunClear n w => headOk n && masterOk w.master
  | .headHalt n => headOk n
  | .headCommit n w => headOk n && masterOk w.master
  | .snapshotArm n => headOk n
  | .headUnderrun n _ _ => headOk n
  | .rgnCompare n _ _ => headOk n
  | .faultClr n w => headOk n && masterOk w.master
  | .dsFetchFault n _ => headOk n
  | .tolMinRead n master => headOk n && masterOk master
  | .srcPlug k _ => srcOk k
  | .srcEdidDone k edid => srcOk k && edidOk edid
  | .srcUnplug k edid => srcOk k && edidOk edid
  | .srcIrqHpd k _ _ => srcOk k
  | .srcTrainAttemptEnd k _ => srcOk k
  | .retrain k w => srcOk k && masterOk w.master
  | .mstReallocDone k => srcOk k
  | .srcAuxRequest k w => srcOk k && masterOk w.master
  | .srcAuxDone k result _ => srcOk k && auxOk result
  | .panelPwrOn k w => srcOk k && masterOk w.master
  | .panelPwrOff k w => srcOk k && masterOk w.master
  | .panelDelayExpiry k => srcOk k
  | .snkHpdEnWrite j w => portOk j && masterOk w.master
  | .snkHpdPulse j w => portOk j && masterOk w.master
  | .snkSourceDetect j => portOk j
  | .snkHpdLoss j => portOk j
  | .snkTraining j _ _ _ => portOk j
  | .snkLockLoss j => portOk j
  | .encCtxEnable c w => encOk c && masterOk w.master
  | .encCtxDisable c w => encOk c && masterOk w.master
  | .encDrainDone c => encOk c
  | .encPictureStart c => encOk c
  | .encRowStart c _ _ _ => encOk c
  | .encWorkUnitDone k _ => encCoreOk k
  | .encPictureDone c _ _ => encOk c
  | .encOutputOverflow c => encOk c
  | .encWatchdog k => encCoreOk k
  | .encKeyreqWrite c w => encOk c && masterOk w.master
  | .encOutRdIdxWrite c w => encOk c && masterOk w.master
  | .blockLock _ lane => linkLaneOk lane
  | .blockLockLoss _ lane => linkLaneOk lane
  | .linkDeskew _ => true
  | .wlkFrameReject _ _ => true
  | .hello _ f => f.wf
  | .finish _ f => f.wf
  | .finishTimeout _ => true
  | .video f => f.wf
  | .audio f => f.wf
  | .input f => f.wf
  | .controlSoftware f => f.wf
  | .keyreq f => f.wf
  | .heartbeat f => f.wf
  | .attestRequest f => f.wf
  | .attestRecord f => f.wf
  | .heartbeatSend _ => true
  | .heartbeatLoss _ => true
  | .wlkFrameTx _ => true
  | .inputForward => true
  | .rekey w => masterOk w.master
  | .wlkEnable w => masterOk w.master
  | .wlkDisable w => masterOk w.master
  | .pairTick => true
  | .tick f => f.wf
  | .twinPhbEdge _ => true
  | .heartbeatMissed => true
  | .step f => f.wf
  | .copy f => f.wf
  | .forward f => f.wf
  | .forwardDrop => true
  | .switchReq f => f.wf
  | .switchAccept f => f.wf
  | .switchAbort f => f.wf
  | .twinSwitch w => masterOk w.master
  | .twinPlanned w => masterOk w.master
  | .declareFault w => masterOk w.master
  | .twinPactFall => true
  | .twinPactRise => true
  | .electionTimeout => true
  | .electionRetry => true
  | .bistUnitDone _ => true
  | .tickWorkMissed => true
  | .memAccess a => a.wf
  | .scrubRead _ => true
  | .srEntry => true
  | .srExit => true
  | .srExitDone => true
  | .recolourRequest w => masterOk w.master
  | .recolourPage _ => true
  | .set t w => timeBaseOk t && masterOk w.master
  | .stepTb t w => timeBaseOk t && masterOk w.master
  | .lock t w => timeBaseOk t && masterOk w.master
  | .unlock t w => timeBaseOk t && masterOk w.master
  | .tbRateHiWrite t w => timeBaseOk t && masterOk w.master
  | .offsetInWrite t w => timeBaseOk t && masterOk w.master
  | .servoEnableWrite t w => timeBaseOk t && masterOk w.master
  | .holdoverExpiry t => timeBaseOk t
  | .nowNsRead t master => timeBaseOk t && masterOk master
  | .tsPop p _ w => portOk p && masterOk w.master
  | .swiSet w => masterOk w.master
  | .irqDeliveryPoint => true
  | .holdoffExpiry g => irqGroupOk g
  | .claim k master => targetOk k && masterOk master
  | .complete k w => targetOk k && masterOk w.master
  | .stackReset k w => targetOk k && masterOk w.master
  | .go e w => engineOk e && masterOk w.master
  | .cveAbort e w => engineOk e && masterOk w.master
  | .cveBlockDone e => engineOk e
  | .cveAccessFault e => engineOk e
  | .lanePwrWrite l w => laneOk l && masterOk w.master
  | .laneStateChangeDone l => laneOk l
  | .cdrLock l => laneOk l
  | .cdrLockLoss l => laneOk l
  | .slip l w => laneOk l && masterOk w.master
  | .slipApplied l => laneOk l
  | .prbsCheckEnable l w => laneOk l && masterOk w.master
  | .prbsLock l => laneOk l
  | .prbsLoss l => laneOk l
  | .rxWordRead l master word => laneOk l && masterOk master && rxWordOk word
  | .calGo shell w => shellOk shell && masterOk w.master
  | .calDone shell _ _ => shellOk shell
  | .shellHealthEval shell causes => shellOk shell && causesOk causes
  | .sampleFrame p _ _ => portOk p
  | .sapRunSet p w => portOk p && masterOk w.master
  | .sapRunClear p w => portOk p && masterOk w.master
  | .sapMuteWrite p w => portOk p && masterOk w.master
  | .zcTimeout p => portOk p
  | .slotMaskWrite p w => portOk p && masterOk w.master
  | .pllCfgWrite w => masterOk w.master
  | .pllAdjWrite w => masterOk w.master
  | .measFsUpdate p => portOk p
  | .tchRunSet g w => groupOk g && masterOk w.master
  | .tchRunClear g w => groupOk g && masterOk w.master
  | .tchChEnWrite g _ w => groupOk g && masterOk w.master
  | .tchCalibrationDone g _ => groupOk g
  | .tchScanStart g => groupOk g
  | .tchPhaseEnd g _ => groupOk g
  | .thermalUpdate _ => true
  | .powerSenseSample _ => true
  | .bndRead _ => true
  | .rearm w => masterOk w.master
  | .tjPeakRead master => masterOk master
  | .getId w => masterOk w.master
  | .getCert w => masterOk w.master
  | .getNonce w => masterOk w.master
  | .getStatus w => masterOk w.master
  | .enrollKey w => masterOk w.master
  | .revokeKey w => masterOk w.master
  | .raiseFloor w => masterOk w.master
  | .setLifecycle w => masterOk w.master
  | .enrollDebug w => masterOk w.master
  | .setBnd w => masterOk w.master
  | .keyPut w => masterOk w.master
  | .keyDelete w => masterOk w.master
  | .macsecSak w => masterOk w.master
  | .mkaIcv w => masterOk w.master
  | .mailboxCommandEnd _ => true
  | .idReconstruct _ => true
  | .keystoreLoad => true
  | .debugUnlock _ _ _ => true
  | .powerOnReset _ => true
  | .brownOutReset => true
  | .warmReset => true
  | .swrst w => masterOk w.master
  | .resetEnd _ => true
  | .hbmInitDone => true
  | .bootImageVerify => true
  | .hostBootGo w => masterOk w.master
  | .refclkCheck _ => true
  | .aonSplit => true
  | .wdogExpiry => true
  | .wdogKick w => masterOk w.master
  | .wdogCfgWrite w => masterOk w.master
  | .ccResetWrite k w => unitOk k && masterOk w.master
  | .ccParkWrite k w => unitOk k && masterOk w.master
  | .ccWfi k => unitOk k
  | .ledgerWrite => true
  | .faultInjectArm d w => pointOk d && masterOk w.master
  | .dbSetWrite w => masterOk w.master
  | .gpioEdge pin _ => pinOk pin
  | .i2cTransaction b w => busOk b && masterOk w.master
  | .i2cDone b result _ => busOk b && i2cOk result
  | .deskewLoss _ => true
  | .sapBclkLoss p => portOk p
  | .aonDissent ch => channelOk ch
  | .lutResetDone => true

end Sys2Proof
end

