-- ==== Sys2Proof/Safety.lean ====
section
/-! DEFINITION. What counts as a safe state, and the words in which claims speak of an accepted access, of an event and of what
an effect leaves alone. -/

namespace Sys2Proof.Machine

/-- The part as the checker of the writing master leaves it, having let through a write of the register at `a` (R575, R577). -/
def State.accepted (s : State) (master a : Nat) : State :=
  { (s.checked master a 4 true).2 with resp := some ⟨[], false⟩ }

/-- A write reaches its register: the part runs, the checker lets it through, the unit answers and takes writes (R23, R125,
R740, R743), and no reserved bit is set. -/
def State.permits (s : State) (w : Wr) (r : RegAt) : Bool :=
  s.inReset.isNone && !(s.checked w.master r.addr 4 true).1 && (s.accepted w.master r.addr).gate w.master r == .passed &&
  !strayBits w.data.toNat r.valid

/-- Where the write that the command stands for is permitted, the command ends in what `act` makes of the accepting part. -/
def State.Serves (s : State) (c : Instr) (w : Wr) (r : RegAt) (act : State → State) : Prop :=
  s.permits w r = true → exec c s = .next (s.ended (act (s.accepted w.master r.addr)))

/-- Where the part runs, the event that the command stands for ends in what `act` makes of the state. -/
def State.Takes (s : State) (c : Instr) (act : State → State) : Prop :=
  s.inReset = none → exec c s = .next (s.ended (act s))

/-- The command ends in what its own effect makes, and that effect meets `P`. -/
def State.Ends (s : State) (c : Instr) (P : State → Prop) : Prop :=
  ∃ u, exec c s = .next (s.ended u) ∧ P u

/-- Where the part runs and the checker lets the read through, the command ends with the register's value as the response. -/
def State.Reads (s : State) (c : Instr) (master a : Nat) : Prop :=
  s.inReset = none → (s.checked master a 4 false).1 = false →
    ∃ v t, (s.checked master a 4 false).2.readWord master a = (v, t) ∧
      exec c s = .next (s.ended { t with resp := some ⟨bytesLE 4 v.toNat, false⟩ })

/-- An effect that leaves memory, the flash, the time bases and every register but those listed as they were. -/
def State.Spares (s u : State) (written : List Nat) : Prop :=
  u.mem = s.mem ∧ u.flash = s.flash ∧ u.tbs = s.tbs ∧ ∀ a, a ∉ written → u.rd a = s.rd a

/-- An effect after which the part has nothing left to do at the end of the command: no UNPREDICTABLE outcome to resolve, no
pair whose role can change, no state copy in assembly, no display class to cut, and no lane that is not one of the 96. -/
def State.Quiet (u : State) : Prop :=
  u.unpred = none ∧ u.role = 0 ∧ u.twin.copy = none ∧ u.get F.THERM_STATUS_DISPLAY ≠ 1 ∧ ∀ l ∈ u.laneList, l < 96

/-- The state is safe: the island holds TWIN_ACT low in every reset (R521, R783), and time has passed in whole TS clocks. -/
def State.Safe (s : State) : Prop :=
  (s.inReset.isSome = true → s.flag F.TWIN_STAT_ACT = false) ∧ s.ns % 2 = 0

/-- Registers and memory hold their canonical form. -/
def State.Canonical (s : State) : Prop :=
  Tbl.Wf resetWord s.regs ∧ Memory.wf s.mem

end Sys2Proof.Machine
end

