-- ==== Sys2Proof/Certificates/Slice0/Obligations.lean ====
section
/-! DEFINITION. The statements for the provers: the machine as a whole, what the commands of each family leave, and that every
command of each family completes in the state of its own effect. -/

open Sys2Proof Sys2Proof.Machine

/-- For every command c, queue q and state s: a step of s with c at the front of its queue is exec of c on s with the rest
of the queue. The queue is the model's own (log 1). (Chapter 00 (Bus and registers), log 1) -/
def Obligations.StepServesTheFront : Prop :=
  ∀ (c : Instr) (q : List Instr) (s : State),
    step { s with pending := c :: q } = exec c { s with pending := q }

/-- With no command waiting a step answers the next state: 2 ns later, memory, the flash, the detections due, the last
response and what has left the part unchanged, the queue still empty. That a step on an empty queue is a TS clock is the
model's choice (log 2). (R592, R593) -/
def Obligations.EmptyQueueLetsAClockPass : Prop :=
  ∀ s : State, s.pending = [] →
    ∃ t, step s = .next t ∧ t.ns = s.ns + 2 ∧ t.pending = [] ∧ t.mem = s.mem ∧ t.flash = s.flash ∧ t.out = s.out ∧
      t.resp = s.resp ∧ t.due = s.due

/-- For every command and every state there is a next state: no command ends in a fault or a refusal. The commands that wait
are those that waited before, and the time is the same. (Chapter 00 (Bus and registers), Chapter 95 (the steps)) -/
def Obligations.EveryCommandEnds : Prop :=
  ∀ (c : Instr) (s : State), ∃ t, exec c s = .next t ∧ t.pending = s.pending ∧ t.ns = s.ns

/-- From every state, k steps with k no more than the length of the queue end in a state, k commands have left the front of
the queue, the others wait as they did, and no time has passed. The queue is the model's own (log 1). (Chapter 95 (the
steps), log 1) -/
def Obligations.QueueIsServedInOrder : Prop :=
  ∀ (k : Nat) (s : State), k ≤ s.pending.length →
    ∃ t, Host.Core.run core k s = .next t ∧ t.pending = s.pending.drop k ∧ t.ns = s.ns

/-- For every safe state s and every step of s to t, t is safe: where t is in a reset of any class its STAT.ACT, which
drives TWIN_ACT, reads 0, and the time of t is a whole number of TS clocks of 2 ns. (R521, R783, R592) -/
def Obligations.StepKeepsSafe : Prop :=
  ∀ s t : State, s.Safe → step s = .next t → t.Safe

/-- The state in a POWER-ON reset and the state right after it are safe, and their registers and memory hold their canonical
form. The end of that reset, with REFCLK good for ten windows and GPIO0 low, leads from the first to the second. Which state
the model names as the state after reset is its choice (log 5). (R521, R782, R783, R813) -/
def Obligations.ResetIsSafe : Prop :=
  State.powerOn.Safe ∧ State.powerOn.Canonical ∧ State.reset.Safe ∧ State.reset.Canonical ∧
  exec (.resetEnd false) { State.powerOn with clk := { good := 10 } } = .next State.reset

/-- Where an effect u leaves no UNPREDICTABLE outcome, no role of a pair, no state copy in assembly, no display class to cut
and no lane beyond the 96, the state in which the command ends holds the memory, flash, time bases, timestamp queues,
interrupt sources and targets, due detections, response, output, streams, plan and reset of u, and every register of u but
TWIN.STAT, TWIN.EVT and STAT of the lanes. (R23, R523, R534, R741, R665) -/
def Obligations.QuietEndsSpare : Prop :=
  ∀ s u : State, u.Quiet →
    (s.ended u).mem = u.mem ∧ (s.ended u).flash = u.flash ∧ (s.ended u).tbs = u.tbs ∧ (s.ended u).tsq = u.tsq ∧
    (s.ended u).irqSrc = u.irqSrc ∧ (s.ended u).irqTgt = u.irqTgt ∧ (s.ended u).due = u.due ∧
    (s.ended u).resp = u.resp ∧ (s.ended u).out = u.out ∧ (s.ended u).streams = u.streams ∧
    (s.ended u).plan = u.plan ∧ (s.ended u).inReset = u.inReset ∧
    ∀ a, a ≠ R.TWIN_STAT → a ≠ R.TWIN_EVT → (∀ l < 96, a ≠ R.LANE_STAT l) → (s.ended u).rd a = u.rd a

/-- For every stamp whose fields fit their widths, and every descriptor whose fields do, the stored bytes number 16 and 64,
and reading them back gives the same stamp and the same descriptor. (R32, R166) -/
def Obligations.StampAndDescriptorRoundTrip : Prop :=
  (∀ t : Stamp, t.sourceId < 2 ^ 12 → t.tb < 2 ^ 4 → t.captureTime < 2 ^ 48 → t.seq < 2 ^ 24 → t.alive < 2 ^ 4 →
    t.signature < 2 ^ 32 → t.bytes.length = 16 ∧ Stamp.ofBytes t.bytes = t) ∧
  (∀ d : Desc, Stamp.ofBytes d.stamp.bytes = d.stamp → d.dataOffset < 2 ^ 32 → d.dataLen < 2 ^ 32 → d.rtpTs < 2 ^ 32 →
    d.pkts < 2 ^ 16 → d.lost < 2 ^ 16 → d.arrival < 2 ^ 48 → d.flags < 2 ^ 32 → d.rtpSeq < 2 ^ 32 →
    d.bytes.length = 64 ∧ Desc.ofBytes d.bytes = d)

/-- For every field of every access type, a write of v leaves in each bit of the field: RW the bit written; RO, RC and WO
the old bit; W1C the old bit cleared where 1 is written; W1S the old bit set where 1 is written; RWP the bit written where
the bit is open, else the old bit; TRIM the bit written on lane and touch shells only. Bits outside the field keep their
value. (R26, R114, R835) -/
def Obligations.AccessTypesActOnBits : Prop :=
  ∀ (a opn old v k : Nat) (f : FieldSpec), k < 32 → f.lo ≤ f.hi → f.hi < 32 →
    bitOf (fieldAfter a opn old v f) k =
      if f.lo ≤ k ∧ k ≤ f.hi then
        match f.acc with
        | .rw => bitOf v k
        | .ro | .rc | .wo => bitOf old k
        | .w1c => bitOf old k && !bitOf v k
        | .w1s => bitOf old k || bitOf v k
        | .rwp => if bitOf opn k then bitOf v k else bitOf old k
        | .trim => if trimRW a then bitOf v k else bitOf old k
      else bitOf old k

/-- For the pair TB[t].SET_SEC of every time base, with no locked bits in force: where a write of the low half is permitted,
it ends with neither half changed and the value held; where a value is held for the low half and a write of the high half is
permitted, it ends with both halves changed, the low half to the value held, and nothing held for the pair. No other
register and no memory changes. (R25) -/
def Obligations.PairChangesWithItsHighHalf : Prop :=
  ∀ (s : State) (t : Nat) (w : Wr), t < 8 → s.plan = none →
    (s.permits w (G.TB_SET_SEC_LO t) = true →
      (s.Ends (.registerWrite w.master (R.TB_SET_SEC_LO t) 4 w.data) fun u =>
        u.loHeld.find? (fun e => e.1 == R.TB_SET_SEC_LO t) = some (R.TB_SET_SEC_LO t, w.data) ∧
        (s.accepted w.master (R.TB_SET_SEC_LO t)).Spares u [])) ∧
    (∀ v : W32, s.permits w (G.TB_SET_SEC_HI t) = true →
      (s.accepted w.master (R.TB_SET_SEC_HI t)).loHeld.find? (fun e => e.1 == R.TB_SET_SEC_LO t) =
        some (R.TB_SET_SEC_LO t, v) →
      (s.Ends (.pairHiWrite w.master (R.TB_SET_SEC_HI t) w.data) fun u =>
        u.rd (R.TB_SET_SEC_LO t) = v ∧ u.word (R.TB_SET_SEC_HI t) % 65536 = w.data.toNat ∧
        u.loHeld.find? (fun e => e.1 == R.TB_SET_SEC_LO t) = none ∧
        (s.accepted w.master (R.TB_SET_SEC_HI t)).Spares u [R.TB_SET_SEC_LO t, R.TB_SET_SEC_HI t]))

/-- For every access of memory by a master while the part runs: a read leaves all of memory as it was; after a write every
byte outside the bytes written reads as before; and after a write that is answered without an error, and that meets no page
being recoloured, every byte written reads as its data. (R577, R824) -/
def Obligations.AccessChangesItsBytesOnly : Prop :=
  ∀ (s : State) (x : Access), s.inReset = none → (x.master = 8 ∨ spaceOf x.addr ≠ .cspace) →
    s.Ends (.memAccess x) fun u =>
      (x.write = false → u.mem = s.mem) ∧
      (∀ b, ¬(s.accessAddr x ≤ b ∧ b < s.accessAddr x + x.data.length) → u.byte b = s.byte b) ∧
      (x.write = true → s.memc.recolour = none → u.resp = some ⟨[], false⟩ →
        ∀ (i : Nat) (h : i < x.data.length), u.byte (s.accessAddr x + i) = x.data[i])

/-- For every access of at most 256 bytes, across pages too, of no upset and outside a page being recoloured, that the
checker refuses: memory is as it was; the response carries the error indication, and for a read 0xDEADC0DE in every word;
and VIOL_CNT of the master counts it. (R561, R577, R579) -/
def Obligations.RefusedAccessHasNoEffectOnMemory : Prop :=
  ∀ (s : State) (x : Access), s.inReset = none → (x.master = 8 ∨ spaceOf x.addr ≠ .cspace) → x.upsets = ⟨[], [], false⟩ →
    s.memc.recolour = none → x.master < 128 →
    let n := if x.write then x.data.length else x.size
    0 < n → n ≤ 256 → s.injArmed 0x33 x.master = false →
    (s.refusal x.master (s.accessAddr x) n x.write).isSome = true →
    s.injArmed 0x32 0 = false →
    s.Ends (.memAccess x) fun u =>
      u.mem = s.mem ∧ u.resp = some ⟨if x.write then [] else deadBytes n, true⟩ ∧
      u.get (F.CHK_VIOL_CNT_CNT x.master) = min (s.get (F.CHK_VIOL_CNT_CNT x.master) + 1) (2 ^ 32 - 1)

/-- For the verdicts of the three channels of a stall: where any two show the same, the winner is one of the channels that
show it, and the dissenting channel is the one that does not, none where all agree; where no two show the same, there is no
winner and no dissent, and the vote is not short of channels. (R42, R43) -/
def Obligations.VoteOfThreeChannels : Prop :=
  ∀ a b c : ChanStall,
    (a.shown = b.shown → ∃ v, (vote [(0, a), (1, b), (2, c)]).winner = some v ∧ v.shown = a.shown ∧
      (vote [(0, a), (1, b), (2, c)]).dissent = if c.shown = a.shown then none else some 2) ∧
    (a.shown ≠ b.shown → a.shown = c.shown → ∃ v, (vote [(0, a), (1, b), (2, c)]).winner = some v ∧ v.shown = a.shown ∧
      (vote [(0, a), (1, b), (2, c)]).dissent = some 1) ∧
    (a.shown ≠ b.shown → b.shown = c.shown → ∃ v, (vote [(0, a), (1, b), (2, c)]).winner = some v ∧ v.shown = b.shown ∧
      (vote [(0, a), (1, b), (2, c)]).dissent = some 0) ∧
    (a.shown ≠ b.shown → a.shown ≠ c.shown → b.shown ≠ c.shown →
      vote [(0, a), (1, b), (2, c)] = { winner := none, dissent := none, short := false })

/-- For each of LOAD_A, LOAD_B, LOAD_MEM, WRITE_A and WRITE_B with KEY 0xA5: where the write is permitted and STATUS.BUSY is
1, the command ends with CODE 0x34, BUSY and PHASE as they were, the loader as it was, and no other register, memory or
flash changed. (R126, R128) -/
def Obligations.PlanRequestWhileBusyIsRefused : Prop :=
  ∀ (s : State) (w : Wr) (op : Nat) (c : Instr),
    (op = 1 ∧ c = .loadA w ∨ op = 2 ∧ c = .loadB w ∨ op = 3 ∧ c = .loadMem w ∨ op = 4 ∧ c = .writeA w ∨
      op = 5 ∧ c = .writeB w) →
    s.permits (asking w F.PLAN_CTRL_OP op) G.PLAN_CTRL = true → bitsOf (asking w F.PLAN_CTRL_OP op).data.toNat 31 24 = 0xA5 →
    let p := s.accepted w.master R.PLAN_CTRL
    p.flag F.PLAN_STATUS_BUSY = true →
    s.Ends c fun u =>
      u.get F.PLAN_STATUS_CODE = 0x34 ∧ u.flag F.PLAN_STATUS_BUSY = true ∧
      u.get F.PLAN_STATUS_PHASE = p.get F.PLAN_STATUS_PHASE ∧ u.loader = p.loader ∧ p.Spares u [R.PLAN_STATUS]

/-- For every enabled entry i whose other CTRL bits the write leaves as they are: where the write is permitted, ENABLE and
STAT.ACTIVE read 0, STAT.SILENT reads 1, no frame is being assembled, no ledger entry falls due and STAT.TIMEOUT_EV stays as
it was, and no memory and no register but CTRL and STAT of the entry changes. (R147, R174) -/
def Obligations.StreamDisableDiscardsItsFrames : Prop :=
  ∀ (s : State) (i : Nat) (w : Wr), i < 512 → s.permits (asking w (F.INGR_CTRL_ENABLE i) 0) (G.INGR_CTRL i) = true →
    let p := s.accepted w.master (R.INGR_CTRL i)
    p.flag (F.INGR_CTRL_ENABLE i) = true → w.data.toNat % 2 ^ 31 = p.word (R.INGR_CTRL i) % 2 ^ 31 →
    s.Ends (.streamDisable i w) fun u =>
      u.flag (F.INGR_CTRL_ENABLE i) = false ∧ u.flag (F.INGR_STAT_ACTIVE i) = false ∧
      u.flag (F.INGR_STAT_SILENT i) = true ∧ (u.stream i).frames = [] ∧ u.due = p.due ∧
      u.flag (F.INGR_STAT_TIMEOUT_EV i) = p.flag (F.INGR_STAT_TIMEOUT_EV i) ∧ p.Spares u [R.INGR_CTRL i, R.INGR_STAT i]

/-- For every pixel of every head: three channels in service with the same result leave the state as it is, and so do two;
where one of three differs and is no dissenter of the frame yet, DISSENT_CNT counts the frame where it is the first dissent
of it, EVT.DISSENT_EV is set, and one entry of detector 0x06 with the head and the channel falls due; memory and every other
register, the detection count apart, are as they were. (R298, R318, R802) -/
def Obligations.AgreedPixelHasNoFurtherEffect : Prop :=
  ∀ (s : State) (n x y a b : Nat), n < 32 → s.inReset = none →
    ((s.awnOk n).length = 3 ∨ (s.awnOk n).length = 2 → s.Ends (.awningPixelSplit n x y [a, a, a]) fun u => u = s) ∧
    (s.awnOk n = [0, 1, 2] → a ≠ b → s.hasPipe n = true → s.flag (F.HEAD_STAT_RUNNING n) = true →
      s.flag (F.HEAD_STAT_SLATE n) = false → (s.awn n).dissents = [] →
      s.Ends (.awningPixelSplit n x y [a, b, a]) fun u =>
        u.get (F.AWN_DISSENT_CNT_CNT n) = min (s.get (F.AWN_DISSENT_CNT_CNT n) + 1) (2 ^ 32 - 1) ∧
        u.flag (F.AWN_EVT_DISSENT_EV n) = true ∧ (u.awn n).dissents = [1] ∧
        (∃ e, u.due = s.due ++ [e] ∧ e.code = 0x06 ∧ e.unit = n ∧ e.detail = 1) ∧
        s.Spares u [R.AWN_DISSENT_CNT n, R.AWN_EVT n, R.FLT_DET_CNT 0x06])

/-- For every scaler unit with a selection pending or a ROM load running: a permitted write of CTRL leaves the selection and
the banks as they are, increments COEF_IGN and sets STAT.IGN_EV, and changes no other register, no coefficient and no
memory. (R329, R330) -/
def Obligations.BankSelectWhilePendingIsIgnored : Prop :=
  ∀ (s : State) (k : Nat) (w : Wr), k < 64 → s.permits w (G.SP_CTRL k) = true →
    let p := s.accepted w.master (R.SP_CTRL k)
    (p.flag (F.SP_STAT_PEND k) = true ∨ (p.sp k).load.isSome = true) →
    s.Ends (.spBankSelWrite k w) fun u =>
      u.get (F.SP_COEF_IGN_CNT k) = min (p.get (F.SP_COEF_IGN_CNT k) + 1) (2 ^ 32 - 1) ∧
      u.flag (F.SP_STAT_IGN_EV k) = true ∧ u.flag (F.SP_STAT_PEND k) = p.flag (F.SP_STAT_PEND k) ∧
      u.get (F.SP_STAT_BANK k) = p.get (F.SP_STAT_BANK k) ∧ u.spCoef = p.spCoef ∧ u.spUnits = p.spUnits ∧
      p.Spares u [R.SP_STAT k, R.SP_COEF_IGN k]

/-- For every head: with RUN 1, PLL_LOCK 1, the head stopped, named by the plan in force and answering, its timing within the
limits, and no apply in progress, the event sets STAT.RUNNING and changes no other register and no memory; where RUN or
PLL_LOCK is 0, no plan in force names the head, or its timing breaks the limits, it changes nothing. That timing outside the
limits keeps a head stopped is the model's choice (log 77). (R352, R354) -/
def Obligations.HeadStartsOnlyUnderItsConditions : Prop :=
  ∀ (s : State) (n : Nat), n < 32 → s.inReset = none →
    (s.flag (F.HEAD_CTRL_RUN n) = true → s.flag (F.HEAD_STAT_PLL_LOCK n) = true → s.flag (F.HEAD_STAT_RUNNING n) = false →
      s.answers .head n 0 = true → s.named 0x05 n = true → s.timingMeets n = true → s.applying = none →
      s.Ends (.headStart n) fun u => u.flag (F.HEAD_STAT_RUNNING n) = true ∧ s.Spares u [R.HEAD_STAT n]) ∧
    (s.flag (F.HEAD_CTRL_RUN n) = false ∨ s.flag (F.HEAD_STAT_PLL_LOCK n) = false ∨ s.named 0x05 n = false ∨
        s.timingMeets n = false →
      s.Ends (.headStart n) fun u => u = s)

/-- With the wall link in the state of a link that receives frames, a frame rejected for its CRC or its framing increments
CRC_ERR; no other register, no memory, no link state and no stream changes, and no ledger entry falls due. (R484) -/
def Obligations.BadFrameIsDroppedAndCounted : Prop :=
  ∀ (s : State) (why : FrameFault), s.inReset = none → 3 ≤ s.get (linkStateF .wall) → why = .crc ∨ why = .framing →
    s.Ends (.wlkFrameReject .wall why) fun u =>
      u.word R.WLK_CRC_ERR = min (s.word R.WLK_CRC_ERR + 1) (2 ^ 32 - 1) ∧ u.links = s.links ∧ u.streams = s.streams ∧
      u.due = s.due ∧ s.Spares u [R.WLK_CRC_ERR]

/-- For each of SWITCH, PLANNED and DECLARE_FAULT with KEY 0xA5: where the write is permitted and the plan in force pairs no
twin, LAST_SWITCH.REFUSE reads 4, EVT.REFUSED_EV is set, the role is as it was, and no other register and no memory changes.
(R552, R555) -/
def Obligations.SwitchOfALonePartIsRefused : Prop :=
  ∀ (s : State) (w : Wr) (op : Nat) (c : Instr),
    (op = 1 ∧ c = .twinSwitch w ∨ op = 2 ∧ c = .twinPlanned w ∨ op = 3 ∧ c = .declareFault w) →
    s.permits (asking w F.TWIN_CTRL_OP op) G.TWIN_CTRL = true → bitsOf (asking w F.TWIN_CTRL_OP op).data.toNat 31 24 = 0xA5 →
    let p := s.accepted w.master R.TWIN_CTRL
    p.paired = false →
    s.Ends c fun u =>
      u.get F.TWIN_LAST_SWITCH_REFUSE = 4 ∧ u.flag F.TWIN_EVT_REFUSED_EV = true ∧ u.role = p.role ∧ u.twin = p.twin ∧
      u.get F.TWIN_LAST_SWITCH_CAUSE = p.get F.TWIN_LAST_SWITCH_CAUSE ∧
      p.Spares u [R.TWIN_LAST_SWITCH, R.TWIN_EVT]

/-- With SR_CTRL.EN 1, HBM ready and neither in self-refresh nor leaving it, no recolouring, the last request at least IDLE
µs ago and the smallest tolerance at least 4 µs and MARGIN, the event sets STATUS.SELF_REFRESH and counts SR_ENTRIES, and
changes no other register and no memory; with EN 0, before INIT_DONE, or while recolouring runs, it changes nothing. (R565,
R584) -/
def Obligations.SelfRefreshIsEnteredOnlyWhenIdle : Prop :=
  ∀ s : State, s.inReset = none →
    (s.flag F.MEMC_SR_CTRL_EN = true → s.flag F.MEMC_STATUS_INIT_DONE = true → s.flag F.MEMC_STATUS_SELF_REFRESH = false →
      s.flag F.MEMC_STATUS_EXITING = false → s.memc.recolour = none →
      s.memc.lastReqNs + max 1 (s.get F.MEMC_SR_CTRL_IDLE) * 1000 ≤ s.ns → 4 + max 2 (s.get F.MEMC_SR_CTRL_MARGIN) ≤ s.minTol →
      s.Ends .srEntry fun u =>
        u.flag F.MEMC_STATUS_SELF_REFRESH = true ∧
        u.word R.MEMC_SR_ENTRIES = min (s.word R.MEMC_SR_ENTRIES + 1) (2 ^ 32 - 1) ∧
        s.Spares u [R.MEMC_STATUS, R.MEMC_SR_ENTRIES]) ∧
    (s.flag F.MEMC_SR_CTRL_EN = false ∨ s.flag F.MEMC_STATUS_INIT_DONE = false ∨ s.memc.recolour ≠ none →
      s.Ends .srEntry fun u => u = s)

/-- For every time base t, with KEY 0xA5, the write permitted and no injection pending: while not LOCKED, SET loads SET_SEC
and SET_NS (held to 999,999,999) and clears the fraction, STEP adds the signed nanoseconds of STEP with the seconds modulo
2^48, and each counts STEPS and sets STEP_EV; while LOCKED, both leave the count of the time base as it is, count
STEP_REFUSED and set REFUSED_EV, and one ledger entry of detector 0x38 falls due; LOCK sets LOCKED and UNLOCK clears it, and
a change sets LOCK_EV. Other time bases and memory are as they were. (R592, R598, R599, R600) -/
def Obligations.TimeBaseIsSetSteppedAndLocked : Prop :=
  ∀ (s : State) (t : Nat) (w : Wr), t < 8 →
    (∀ op, bitsOf (asking w (F.TB_CTRL_OP t) op).data.toNat 31 24 = 0xA5 →
      s.permits (asking w (F.TB_CTRL_OP t) op) (G.TB_CTRL t) = true →
      let p := s.accepted w.master (R.TB_CTRL t)
      p.injArmed 0x38 t = false →
      ((op = 1 ∨ op = 2) → p.tbLocked t = false →
        s.Ends (if op = 1 then .set t w else .stepTb t w) fun u =>
          ((u.tb t).count : Int) =
            (if op = 1 then
              ((((p.word (R.TB_SET_SEC_LO t) + p.word (R.TB_SET_SEC_HI t) % 65536 * 2 ^ 32) * 1000000000 +
                min 999999999 (p.get (F.TB_SET_NS_NS t))) * 2 ^ 48 : Nat) : Int)
            else
              (((p.tb t).count : Int) + signed 64 (p.pair (R.TB_STEP_LO t) (R.TB_STEP_HI t)) * (2 ^ 48 : Nat)) %
                (2 ^ 48 * 1000000000 * 2 ^ 48 : Nat)) ∧
          u.word (R.TB_STEPS t) = min (p.word (R.TB_STEPS t) + 1) (2 ^ 32 - 1) ∧ u.flag (F.TB_EVT_STEP_EV t) = true ∧
          u.mem = p.mem ∧ (∀ k, k ≠ t → u.tb k = p.tb k) ∧ ∀ a, a ∉ [R.TB_STEPS t, R.TB_EVT t] → u.rd a = p.rd a) ∧
      ((op = 1 ∨ op = 2) → p.tbLocked t = true →
        s.Ends (if op = 1 then .set t w else .stepTb t w) fun u =>
          u.word (R.TB_STEP_REFUSED t) = min (p.word (R.TB_STEP_REFUSED t) + 1) (2 ^ 32 - 1) ∧
          u.flag (F.TB_EVT_REFUSED_EV t) = true ∧
          (∃ e, u.due = p.due ++ [e] ∧ e.code = 0x38 ∧ e.unit = t ∧ e.detail = op) ∧
          p.Spares u [R.TB_STEP_REFUSED t, R.TB_EVT t, R.FLT_DET_CNT 0x38]) ∧
      ((op = 3 ∨ op = 4) →
        s.Ends (if op = 3 then .lock t w else .unlock t w) fun u =>
          u.tbLocked t = decide (op = 3) ∧ (u.tb t).count = (p.tb t).count ∧
          (u.tbLocked t ≠ p.tbLocked t → u.flag (F.TB_EVT_LOCK_EV t) = true) ∧ u.mem = p.mem ∧
          (∀ k, k ≠ t → u.tb k = p.tb k) ∧ ∀ a, a ∉ [R.TB_STAT t, R.TB_EVT t] → u.rd a = p.rd a))

/-- For every time base t that answers, a permitted read of NOW_NS while the part runs responds with the nanoseconds of the
count, and what NOW_SEC_LO, NOW_SEC_HI and NOW_FRAC return from then on are the seconds and the fraction of that same count.
The count and every register and memory are as the checker left them. (R592, R597) -/
def Obligations.NowIsLatchedByTheReadOfItsNanoseconds : Prop :=
  ∀ (s : State) (t master : Nat), t < 8 → s.inReset = none → (s.checked master (R.TB_NOW_NS t) 4 false).1 = false →
    let p := (s.checked master (R.TB_NOW_NS t) 4 false).2
    p.answers .timeBase t 0 = true →
    s.Ends (.nowNsRead t master) fun u =>
      let c := (p.tb t).count
      u.resp = some ⟨bytesLE 4 (c / 2 ^ 48 % 1000000000), false⟩ ∧ (u.tb t).count = c ∧
      u.nowLatched t 0 = c / 2 ^ 48 / 1000000000 % 2 ^ 32 ∧ u.nowLatched t 1 = c / 2 ^ 48 / 1000000000 / 2 ^ 32 % 65536 ∧
      u.nowLatched t 2 = c / 2 ^ 32 % 65536 ∧ u.mem = p.mem ∧ u.regs = p.regs

/-- For every target k that answers, and a permitted read of CLAIM while the part runs by a master other than the debug
master. With no claimable source, the response is zero and the stacks, sources and memory are as they were. Where source i
is claimable, and no claimable source has a higher priority or the same priority and a lower number, the response is VALID
with the priority and number of i; i and its priority are on top of the stack, i is in service at k and offered to no
target; and CLAIMS counts it. The other sources and targets, memory, and every register but CLAIMS, the PBA of MSI-X and the
state of the core are as they were. (R631, R632, R633) -/
def Obligations.ClaimTakesTheHighestPriority : Prop :=
  ∀ (s : State) (k master : Nat), k < 12 → master ≤ 8 → s.inReset = none →
    (s.checked master (R.TGT_CLAIM k) 4 false).1 = false →
    let p := (s.checked master (R.TGT_CLAIM k) 4 false).2
    ((∀ i, p.claimable k i = false) →
      s.Ends (.claim k master) fun u =>
        u.resp = some ⟨bytesLE 4 0, false⟩ ∧ u.irqTgt = p.irqTgt ∧ u.irqSrc = p.irqSrc ∧ p.Spares u []) ∧
    (∀ i, i < 512 → p.irqPrio i < 16 → p.claimable k i = true →
      (∀ j, p.claimable k j = true → p.irqPrio j < p.irqPrio i ∨ (p.irqPrio j = p.irqPrio i ∧ i ≤ j)) →
      s.Ends (.claim k master) fun u =>
        u.resp = some ⟨bytesLE 4 (2 ^ 31 + p.irqPrio i * 2 ^ 16 + i), false⟩ ∧
        (u.tgt k).stack = (i, p.irqPrio i) :: (p.tgt k).stack ∧ (u.src i).inService = some k ∧ (u.src i).offered = none ∧
        u.word (R.TGT_CLAIMS k) = min (p.word (R.TGT_CLAIMS k) + 1) (2 ^ 32 - 1) ∧ u.mem = p.mem ∧
        (∀ j, j ≠ i → u.src j = p.src j) ∧ (∀ j, j ≠ k → u.tgt j = p.tgt j) ∧
        ∀ a, a ∉ [R.TGT_CLAIMS k, R.MSIX_PBA, R.CC_STAT k] → u.rd a = p.rd a)

/-- For every target k, a permitted write of COMPLETE of a number i, with no injection of the detector. Where i is the
source of the top entry and the stack is not frozen, the entry is popped and the source leaves service. Where it is not, or
the stack is empty, the stack is as it was and frozen, FAULT_INFO records the top entry (all ones for none) and the number,
FAULTS counts it, and one ledger entry of detector 0x3A for the target falls due. The other targets and sources, memory and
every register not named, the PBA of MSI-X and the state of the core apart, are as they were. (R634, R635) -/
def Obligations.CompletionPopsOrFaults : Prop :=
  ∀ (s : State) (k i : Nat) (w : Wr), k < 12 → i < 496 → w.data = BitVec.ofNat 32 i →
    s.permits w (G.TGT_COMPLETE k) = true →
    let p := s.accepted w.master (R.TGT_COMPLETE k)
    p.injArmed 0x3A k = false →
    (∀ prio rest, (p.tgt k).stack = (i, prio) :: rest → (p.tgt k).frozen = false →
      s.Ends (.complete k w) fun u =>
        (u.tgt k).stack = rest ∧ (u.tgt k).frozen = false ∧ (u.src i).inService = none ∧ u.mem = p.mem ∧
        (∀ j, j ≠ i → u.src j = p.src j) ∧ (∀ j, j ≠ k → u.tgt j = p.tgt j) ∧
        ∀ a, a ∉ [R.MSIX_PBA, R.CC_STAT k] → u.rd a = p.rd a) ∧
    (((p.tgt k).stack.head?.map (·.1)) ≠ some i →
      s.Ends (.complete k w) fun u =>
        (u.tgt k).stack = (p.tgt k).stack ∧ (u.tgt k).frozen = true ∧
        u.word (R.TGT_FAULTS k) = min (p.word (R.TGT_FAULTS k) + 1) (2 ^ 32 - 1) ∧
        u.word (R.TGT_FAULT_INFO k) =
          (2 ^ 31 + ((((p.tgt k).stack.head?.map (·.1)).getD 0x1FF) * 2 ^ 16 + i)) % 2 ^ 32 ∧
        (∃ e, u.due = p.due ++ [e] ∧ e.code = 0x3A ∧ e.unit = k) ∧ u.mem = p.mem ∧ u.irqSrc = p.irqSrc ∧
        (∀ j, j ≠ k → u.tgt j = p.tgt j) ∧
        ∀ a, a ∉ [R.TGT_FAULTS k, R.TGT_FAULT_INFO k, R.FLT_DET_CNT 0x3A, R.MSIX_PBA] → u.rd a = p.rd a)

/-- For every target k, frozen or not, a permitted write of STACK_RESET with KEY 0xA5 and GO 1: the stack is empty, no
source that was in it is in service, the target is not frozen, FAULT_INFO reads 0, the sources outside the stack and memory
are as they were. A permitted write with another KEY, or GO 0, leaves the part as the checker left it. (R636, R643) -/
def Obligations.StackResetEmptiesAndThaws : Prop :=
  ∀ (s : State) (k : Nat) (w : Wr), k < 12 → s.permits w (G.TGT_STACK_RESET k) = true →
    let p := s.accepted w.master (R.TGT_STACK_RESET k)
    (bitsOf w.data.toNat 31 24 = 0xA5 → bitOf w.data.toNat 0 = true →
      s.Ends (.stackReset k w) fun u =>
        (u.tgt k).stack = [] ∧ (u.tgt k).frozen = false ∧ u.word (R.TGT_FAULT_INFO k) = 0 ∧
        (∀ e ∈ (p.tgt k).stack, (u.src e.1).inService = none) ∧
        (∀ i, (∀ e ∈ (p.tgt k).stack, e.1 ≠ i) → u.src i = p.src i) ∧ (∀ j, j ≠ k → u.tgt j = p.tgt j) ∧ u.mem = p.mem ∧
        ∀ a, a ∉ [R.TGT_FAULT_INFO k, R.MSIX_PBA, R.CC_STAT k] → u.rd a = p.rd a) ∧
    (bitsOf w.data.toNat 31 24 ≠ 0xA5 ∨ bitOf w.data.toNat 0 = false → s.Ends (.stackReset k w) fun u => u = p)

/-- For every check-value engine, a permitted ABORT with KEY 0xA5: while BUSY is 1, BUSY clears, CODE reads 7, FAIL is set
and DONE and JOBS are as they were, no time passes, and no other register and no memory changes; while BUSY is 0, nothing
changes. (R655) -/
def Obligations.AbortEndsARunningJob : Prop :=
  ∀ (s : State) (e : Nat) (w : Wr), e < 8 → s.permits (asking w (F.CVE_CTRL_OP e) 2) (G.CVE_CTRL e) = true →
    bitsOf (asking w (F.CVE_CTRL_OP e) 2).data.toNat 31 24 = 0xA5 →
    let p := s.accepted w.master (R.CVE_CTRL e)
    (p.flag (F.CVE_STAT_BUSY e) = true →
      s.Ends (.cveAbort e w) fun u =>
        u.flag (F.CVE_STAT_BUSY e) = false ∧ u.get (F.CVE_STAT_CODE e) = 7 ∧ u.flag (F.CVE_STAT_FAIL e) = true ∧
        u.flag (F.CVE_STAT_DONE e) = p.flag (F.CVE_STAT_DONE e) ∧ u.ns = s.ns ∧ p.Spares u [R.CVE_STAT e]) ∧
    (p.flag (F.CVE_STAT_BUSY e) = false → s.Ends (.cveAbort e w) fun u => u = p)

/-- For every lane that runs with SLIP_PEND 1: the event advances STAT.BOUNDARY by one modulo 40 on a raw lane and 66 on any
other, clears SLIP_PEND, counts SLIPS, and changes no other register and no memory; with SLIP_PEND 0 it changes nothing.
(R675) -/
def Obligations.SlipMovesTheWordBoundary : Prop :=
  ∀ (s : State) (l : Nat), l < 96 → s.inReset = none → s.unitPresent .lane l 0 = true →
    s.get (F.LANE_STAT_STATE l) ≠ 0 →
    (s.flag (F.LANE_STAT_SLIP_PEND l) = true →
      s.Ends (.slipApplied l) fun u =>
        u.get (F.LANE_STAT_BOUNDARY l) = (s.get (F.LANE_STAT_BOUNDARY l) + 1) % (if s.laneRaw l then 40 else 66) ∧
        u.flag (F.LANE_STAT_SLIP_PEND l) = false ∧
        u.word (R.LANE_SLIPS l) = min (s.word (R.LANE_SLIPS l) + 1) (2 ^ 32 - 1) ∧
        s.Spares u [R.LANE_STAT l, R.LANE_SLIPS l]) ∧
    (s.flag (F.LANE_STAT_SLIP_PEND l) = false → s.Ends (.slipApplied l) fun u => u = s)

/-- For every port that answers: where a second has passed since the last update, MEAS_FS reads the frames counted since,
times 16 (R711), the count starts again at zero, and no other register and no memory changes; where it has not, nothing
changes. (R711) -/
def Obligations.FrameRateIsMeasuredOverASecond : Prop :=
  ∀ (s : State) (p : Nat), p < 8 → s.inReset = none → s.answers .sap p 0 = true →
    ((s.sap p).fsNs + 1000000000 ≤ s.ns → (s.sap p).fsCount * 16 < 2 ^ 24 →
      s.Ends (.measFsUpdate p) fun u =>
        u.get (F.SAP_MEAS_FS_FS p) = (s.sap p).fsCount * 16 ∧ (u.sap p).fsCount = 0 ∧ (u.sap p).fsNs = s.ns ∧
        s.Spares u [R.SAP_MEAS_FS p]) ∧
    (s.ns < (s.sap p).fsNs + 1000000000 → s.Ends (.measFsUpdate p) fun u => u = s)

/-- For every touch group that runs, with RUN 1, no scan in progress, SCAN_PERIOD passed since the last scan's start, and no
channel that is disabled touched: the event sets STAT.SCANNING; the scan measures the channels that are enabled and
calibrated, and takes THRESH, FILTER and MAX_TOUCH as they are; no other register and no memory changes. (R714, R715) -/
def Obligations.ScanTakesItsSettings : Prop :=
  ∀ (s : State) (g : Nat), g < 4 → s.inReset = none → s.unitPresent .touch g 0 = true →
    s.flag (F.TCH_STAT_RUNNING g) = true → s.flag (F.TCH_CTRL_RUN g) = true → (s.tch g).scan = none →
    s.tchPast g (s.get (F.TCH_SCAN_PERIOD g)) = true →
    (∀ c < 64, bitOf (s.tchEn g) c = false → s.flag (F.TCHC_STAT_TOUCHED g c) = false) →
    s.Ends (.tchScanStart g) fun u =>
      u.flag (F.TCH_STAT_SCANNING g) = true ∧ (u.tch g).thresh = s.rd (R.TCH_THRESH g) ∧
      (u.tch g).filter = s.rd (R.TCH_FILTER g) ∧
      (u.tch g).longest = max 1 (min 3600 (s.get (F.TCH_MAX_TOUCH_S g))) ∧
      (∃ m, (u.tch g).scan = some (m, 0) ∧
        ∀ c < 64, bitOf m c = (bitOf (s.tchEn g) c && ((s.tch g).chan c).cal)) ∧
      s.Spares u [R.TCH_STAT g]

/-- While the part runs, and in a WARM reset, a sample of the rails joins the samples of the update in progress and changes
no register and no memory; in a POWER-ON or BROWN-OUT reset it has no effect. (R733) -/
def Obligations.PowerSamplesGather : Prop :=
  ∀ (s : State) (mw : List Nat),
    (s.inReset = none ∨ s.inReset = some .warm →
      s.Ends (.powerSenseSample mw) fun u => u.therm.samples = s.therm.samples ++ [mw] ∧ s.Spares u []) ∧
    (s.inReset = some .powerOn ∨ s.inReset = some .brownOut → s.Ends (.powerSenseSample mw) fun u => u = s)

/-- For every command of the mailbox that is not GET_STATUS, in progress in a part whose OTP holds RETIRED, and that needs
no flash or holds it: its end clears BUSY, sets FAIL and EVT.MB_EV, and CODE reads 2; OTP, flash, memory and the session
keys of the ports are as they were. (R764, R769, R774) -/
def Obligations.RetiredPartAnswersStatusOnly : Prop :=
  ∀ (s : State) (op master : Nat) (bad : Option Nat), s.inReset = none → s.lifecycle = 3 → secOps.contains op = true →
    op ≠ 0x04 → s.sec.cmd = some (op, master) → (s.opFlash op = true → s.holdsFlash .security = true) →
    s.Ends (.mailboxCommandEnd bad) fun u =>
      u.flag F.SEC_MB_STAT_BUSY = false ∧ u.flag F.SEC_MB_STAT_FAIL = true ∧ u.get F.SEC_MB_STAT_CODE = 2 ∧
      u.flag F.SEC_EVT_MB_EV = true ∧ u.otp = s.otp ∧ u.flash = s.flash ∧ u.mem = s.mem ∧ u.saks = s.saks ∧
      u.sec.cmd = none

/-- For every state and each class of reset, started by PORn, a brown-out or WRSTn: where no reset of a higher class is in
progress, the part is in that reset with no plan in force, every register outside those that the class keeps and outside
FLT, CLKRST and THERM reads its reset value, no mailbox command is in progress, and WARM keeps the time bases; where one is,
nothing changes. (R781, R782, R783) -/
def Obligations.ResetLeavesWhatItsClassKeeps : Prop :=
  ∀ (s : State) (c : ResetClass) (i : Instr),
    (c = .powerOn ∧ i = .powerOnReset false ∨ c = .brownOut ∧ i = .brownOutReset ∨ c = .warm ∧ i = .warmReset) →
    ((∀ r, s.inReset = some r → r.rank ≤ c.rank) →
      s.Ends i fun u =>
        u.inReset = some c ∧ u.plan = none ∧ u.applying = none ∧ u.sec.cmd = none ∧
        (∀ a, keptReg c a = false → blockOf a ≠ 24 → blockOf a ≠ 23 → blockOf a ≠ 21 → u.rd a = resetWord a) ∧
        (c = .warm → u.tbs = s.tbs ∧ u.tsq = s.tsq)) ∧
    ((∃ r, s.inReset = some r ∧ c.rank < r.rank) → s.Ends i fun u => u = s)

/-- A permitted write of WDOG_KICK with bits 31 to 24 equal to 0xA5 starts the count of the watchdog again, clears
STAT.WDOG_FIRST and changes no other register and no memory; with any other KEY it changes nothing. (R798) -/
def Obligations.KickRestartsTheWatchdog : Prop :=
  ∀ (s : State) (w : Wr), s.permits w G.CLKRST_WDOG_KICK = true →
    let p := s.accepted w.master R.CLKRST_WDOG_KICK
    (bitsOf w.data.toNat 31 24 = 0xA5 →
      s.Ends (.wdogKick w) fun u =>
        u.clk.wdogNs = p.ns ∧ u.flag F.CLKRST_STAT_WDOG_FIRST = false ∧ p.Spares u [R.CLKRST_STAT]) ∧
    (bitsOf w.data.toNat 31 24 ≠ 0xA5 → s.Ends (.wdogKick w) fun u => u = p)

/-- The start of a POWER-ON reset leaves WR_CNT, RD_IDX and LOST at 0. For every detection d that is due next and is not
suppressed: it leaves the queue; the four words of slot WR_CNT mod 256 hold its time, flags and detector, unit and count,
and detail; WR_CNT advances by one; NEW_EV is set. Where 256 entries are unread, RD_IDX advances by one, LOST counts it and
LOST_EV is set; else RD_IDX and LOST are as they were. INJ_REF_EV, every other register and memory are as they were. (R804)
-/
def Obligations.LedgerEntryGoesIntoItsSlot : Prop :=
  (∀ (s : State) (aon : Bool), s.Ends (.powerOnReset aon) fun u =>
    u.word R.FLT_WR_CNT = 0 ∧ u.word R.FLT_RD_IDX = 0 ∧ u.word R.FLT_LOST = 0) ∧
  (∀ (s : State) (d : Due) (rest : List Due), nextDue s.due = some (d, rest) → s.suppressed d = false →
    s.Ends .ledgerWrite fun u =>
      let e := s.word R.FLT_WR_CNT
      let slot := R.FLT_ENTRY (e % 256 * 4)
      let full : Bool := decide (256 ≤ (e + 2 ^ 32 - s.word R.FLT_RD_IDX) % 2 ^ 32)
      u.due = rest ∧
      u.rd slot = BitVec.ofNat 32 d.time ∧
      u.rd (slot + 4) = BitVec.ofNat 32 (d.time / 2 ^ 32 % 65536 + d.flags * 65536 + d.code * 2 ^ 24) ∧
      u.rd (slot + 8) = BitVec.ofNat 32 (d.unit % 65536 + e % 65536 * 65536) ∧
      u.rd (slot + 12) = BitVec.ofNat 32 d.detail ∧
      u.word R.FLT_WR_CNT = (e + 1) % 2 ^ 32 ∧
      u.word R.FLT_RD_IDX = (if full then (s.word R.FLT_RD_IDX + 1) % 2 ^ 32 else s.word R.FLT_RD_IDX) ∧
      u.word R.FLT_LOST = (if full then min (s.word R.FLT_LOST + 1) (2 ^ 32 - 1) else s.word R.FLT_LOST) ∧
      u.flag F.FLT_EVT_NEW_EV = true ∧ u.flag F.FLT_EVT_LOST_EV = (full || s.flag F.FLT_EVT_LOST_EV) ∧
      u.flag F.FLT_EVT_INJ_REF_EV = s.flag F.FLT_EVT_INJ_REF_EV ∧
      s.Spares u [slot, slot + 4, slot + 8, slot + 12, R.FLT_WR_CNT, R.FLT_RD_IDX, R.FLT_LOST, R.FLT_EVT])

/-- For every detection d that is due next: where its pair has a last entry, dated less than 1 ms before it, and d is
neither of the switch class nor RESET, it leaves the queue, SUPPRESSED counts it, and no other register, memory, flash and
date of a last entry changes; where d is of the switch class or is RESET, an entry is written and dates the pair. Every
detection of a detector, by any unit, counts in DET_CNT of the detector when it is made. (R806) -/
def Obligations.RepeatedDetectionsAreSuppressed : Prop :=
  (∀ (s : State) (d : Due) (rest : List Due), nextDue s.due = some (d, rest) →
    let last := Tbl.get (fun _ => 0) s.lastEntry (d.code * 65536 + d.unit % 65536)
    (d.code ∉ switchClass → d.code ≠ 0x50 → 0 < last → d.ns + 1 - last ≤ 1000000 →
      s.Ends .ledgerWrite fun u =>
        u.due = rest ∧ u.word R.FLT_SUPPRESSED = min (s.word R.FLT_SUPPRESSED + 1) (2 ^ 32 - 1) ∧
        u.lastEntry = s.lastEntry ∧ s.Spares u [R.FLT_SUPPRESSED]) ∧
    (d.code ∈ switchClass ∨ d.code = 0x50 →
      s.Ends .ledgerWrite fun u =>
        u.due = rest ∧ u.word R.FLT_WR_CNT = (s.word R.FLT_WR_CNT + 1) % 2 ^ 32 ∧
        u.word R.FLT_SUPPRESSED = s.word R.FLT_SUPPRESSED ∧
        Tbl.get (fun _ => 0) u.lastEntry (d.code * 65536 + d.unit % 65536) = d.ns + 1)) ∧
  (∀ (s : State) (inj : Bool) (code unit detail : Nat), code < 96 →
    (s.detectWith inj code unit detail).get (F.FLT_DET_CNT_CNT code) = min (s.get (F.FLT_DET_CNT_CNT code) + 1) 65535 ∧
    ∃ d, (s.detectWith inj code unit detail).due = s.due ++ [d] ∧ d.code = code ∧ d.unit = unit ∧ d.ns = s.ns)

/-- For every pin and level, with the queue of the pin off: where the pin reads the other level, GPIO_IN takes the level,
source 320 + pin latches an edge where the trigger of the pin selects it, the other sources, every other register and memory
are as they were; where the pin reads that level already, nothing changes. (R622, R829, R830) -/
def Obligations.GpioEdgeReachesItsSource : Prop :=
  ∀ (s : State) (pin : Nat) (level : Bool), pin < 32 → s.inReset = none →
    (bitOf (s.word R.MISC_GPIO_IN) pin ≠ level → bitOf (s.word R.MISC_GPIO_QEN) pin = false →
      s.Ends (.gpioEdge pin level) fun u =>
        bitOf (u.word R.MISC_GPIO_IN) pin = level ∧
        (∀ k < 32, k ≠ pin → bitOf (u.word R.MISC_GPIO_IN) k = bitOf (s.word R.MISC_GPIO_IN) k) ∧
        (u.src (320 + pin)).edge =
          ((s.src (320 + pin)).edge || (s.gpioTrig pin == 2 && level) || (s.gpioTrig pin == 3 && !level)) ∧
        (∀ j, j ≠ 320 + pin → u.src j = s.src j) ∧ s.Spares u [R.MISC_GPIO_IN]) ∧
    (bitOf (s.word R.MISC_GPIO_IN) pin = level → s.Ends (.gpioEdge pin level) fun u => u = s)

/-- For every permitted write of DB_SET: each of the 16 doorbells is set where the write has 1 and keeps its value where it
has 0; no register but the doorbells and, where a plan locks bits of them, the lock records changes, and no memory. (R113,
R827) -/
def Obligations.DoorbellsAreSetByOnes : Prop :=
  ∀ (s : State) (w : Wr), s.permits w G.SYS_DB_SET = true →
    let p := s.accepted w.master R.SYS_DB_SET
    s.Ends (.dbSetWrite w) fun u =>
      (∀ k < 16, bitOf (u.word R.SYS_DB_SET) k = (bitOf (p.word R.SYS_DB_SET) k || bitOf w.data.toNat k)) ∧
      p.Spares u [R.SYS_DB_SET, R.PLAN_LOCK_HITS, R.PLAN_LOCK_FIRST, R.PLAN_LOCK_MASTER, R.PLAN_EVENT]

/-- Every command of registers, latches and attestation (chapters 00, 01 and 24) completes: REGISTER_WRITE, PAIR_LO_READ,
PAIR_HI_WRITE, HEAD_LATCH, VERDICT_DEADLINE, ATTEST_REQ, ATTEST_RECORD_DONE, ATTEST_TIMEOUT. Each clause has the whole next
state as its conclusion, for every state and operands that meet hypotheses on them alone: an event while the part runs (in a
few events: of a unit that answers) ends in the state that the effect of the event makes of the present one; a permitted
write, with no reserved bit set, ends in what the write makes of the accepting part; a read that the checker lets through
responds with the value of the register. -/
def Obligations.LiveComplete : Prop :=
  (∀ (s : State) master addr data, s.inReset = none → spaceOf addr = .cspace → addr % 4 = 0 →
      (s.checked master addr 4 true).1 = false →
    exec (.registerWrite master addr 4 data) s = .next (s.ended ((s.accepted master addr).writeWord addr ⟨master, data⟩))) ∧
  (∀ (s : State) master addr, spaceOf addr = .cspace → addr % 4 = 0 → s.Reads (.pairLoRead master addr) master addr) ∧
  (∀ (s : State) master addr data, s.inReset = none → spaceOf addr = .cspace → addr % 4 = 0 →
      (s.checked master addr 4 true).1 = false →
    exec (.pairHiWrite master addr data) s = .next (s.ended ((s.accepted master addr).writeWord addr ⟨master, data⟩))) ∧
  (∀ (s : State) n, n < 32 → s.Takes (.headLatch n) (·.latch n)) ∧
  (∀ (s : State) n, n < 32 → s.Takes (.verdictDeadline n) (·.verdictLate n)) ∧
  (∀ (s : State) n w, n < 32 →
      s.Serves (.attestReq n w) (asking w (F.FRESH_ATTEST_CTRL_REQ n) 1) (G.FRESH_ATTEST_CTRL n)
      (·.writeAttestCtrl n (asking w (F.FRESH_ATTEST_CTRL_REQ n) 1))) ∧
  (∀ (s : State) n, n < 32 → s.Takes (.attestRecordDone n) (·.attestRecord n)) ∧
  (∀ (s : State) n, n < 32 → s.Takes (.attestTimeout n) (·.attestTimeout n))

/-- Every command of the plan and its loader (chapter 02) completes: LOAD_A, LOAD_B, LOAD_MEM, WRITE_A, WRITE_B, ABORT,
PLAN_LOAD_START, PLAN_COPY_DONE, PLAN_VERIFY_DONE, PLAN_CHECK_DONE, PLAN_APPLY_START, PLAN_APPLY_DONE, SLOT_STAGING_DONE,
MARKER_ERASE_DONE, IMAGE_ERASE_DONE, IMAGE_PROGRAM_DONE, READBACK_DONE, MARKER_PROGRAM_DONE, QSPI_GRANT. Each clause has the
whole next state as its conclusion, for every state and operands that meet hypotheses on them alone: an event while the part
runs (in a few events: of a unit that answers) ends in the state that the effect of the event makes of the present one; a
permitted write, with no reserved bit set, ends in what the write makes of the accepting part; a read that the checker lets
through responds with the value of the register. -/
def Obligations.PlanComplete : Prop :=
  (∀ (s : State) w, s.Serves (.loadA w) (asking w F.PLAN_CTRL_OP 1) G.PLAN_CTRL
      (·.writePlanCtrl (asking w F.PLAN_CTRL_OP 1))) ∧
  (∀ (s : State) w, s.Serves (.loadB w) (asking w F.PLAN_CTRL_OP 2) G.PLAN_CTRL
      (·.writePlanCtrl (asking w F.PLAN_CTRL_OP 2))) ∧
  (∀ (s : State) w, s.Serves (.loadMem w) (asking w F.PLAN_CTRL_OP 3) G.PLAN_CTRL
      (·.writePlanCtrl (asking w F.PLAN_CTRL_OP 3))) ∧
  (∀ (s : State) w, s.Serves (.writeA w) (asking w F.PLAN_CTRL_OP 4) G.PLAN_CTRL
      (·.writePlanCtrl (asking w F.PLAN_CTRL_OP 4))) ∧
  (∀ (s : State) w, s.Serves (.writeB w) (asking w F.PLAN_CTRL_OP 5) G.PLAN_CTRL
      (·.writePlanCtrl (asking w F.PLAN_CTRL_OP 5))) ∧
  (∀ (s : State) w, s.Serves (.abort w) (asking w F.PLAN_CTRL_OP 6) G.PLAN_CTRL
      (·.writePlanCtrl (asking w F.PLAN_CTRL_OP 6))) ∧
  (∀ (s : State), s.Takes .planLoadStart (·.planStart)) ∧
  (∀ (s : State), s.Takes .planCopyDone (·.planCopied)) ∧
  (∀ (s : State), s.Takes .planVerifyDone (·.planVerified)) ∧
  (∀ (s : State), s.Takes .planCheckDone (·.planChecked)) ∧
  (∀ (s : State), s.Takes .planApplyStart (·.applyStart)) ∧
  (∀ (s : State), s.Takes .planApplyDone (·.applyDone)) ∧
  (∀ (s : State), s.Takes .slotStagingDone (·.slotStaged)) ∧
  (∀ (s : State), s.Takes .markerEraseDone (·.markerErased)) ∧
  (∀ (s : State), s.Takes .imageEraseDone (·.imageErased)) ∧
  (∀ (s : State), s.Takes .imageProgramDone (·.imageProgrammed)) ∧
  (∀ (s : State), s.Takes .readbackDone (·.slotReadBack)) ∧
  (∀ (s : State), s.Takes .markerProgramDone (·.markerProgrammed)) ∧
  (∀ (s : State), s.Takes .qspiGrant (·.grantFlash))

/-- Every command of stream ingress (chapter 03) completes: ETH_PACKET_RX, ETH_TX_SLOT, FRAME_CLOSE, FRAME_CLOSE_TIMER,
SNK_FRAME_START, SNK_FRAME_CLOSE, STREAM_ENABLE, STREAM_DISABLE, SILENCE_COMPARE, STREAM_RD_IDX_WRITE. Each clause has the
whole next state as its conclusion, for every state and operands that meet hypotheses on them alone: an event while the part
runs (in a few events: of a unit that answers) ends in the state that the effect of the event makes of the present one; a
permitted write, with no reserved bit set, ends in what the write makes of the accepting part; a read that the checker lets
through responds with the value of the register. -/
def Obligations.IngressComplete : Prop :=
  (∀ (s : State) p pkt, p < 8 → s.Takes (.ethPacketRx p pkt) (·.ethRx p pkt)) ∧
  (∀ (s : State) p, p < 8 → s.Takes (.ethTxSlot p) (·.ethTx p)) ∧
  (∀ (s : State) i, i < 512 → s.Takes (.frameClose i) (·.frameClose i)) ∧
  (∀ (s : State) i, i < 512 → s.Takes (.frameCloseTimer i) (·.frameTimer i)) ∧
  (∀ (s : State) j, j < 8 → s.Takes (.snkFrameStart j) (·.snkStart j)) ∧
  (∀ (s : State) j f, j < 8 → s.Takes (.snkFrameClose j f) (·.snkClose j f)) ∧
  (∀ (s : State) i w, i < 512 →
      s.Serves (.streamEnable i w) (asking w (F.INGR_CTRL_ENABLE i) 1) (G.INGR_CTRL i)
      (·.writeStreamCtrl i (asking w (F.INGR_CTRL_ENABLE i) 1))) ∧
  (∀ (s : State) i w, i < 512 →
      s.Serves (.streamDisable i w) (asking w (F.INGR_CTRL_ENABLE i) 0) (G.INGR_CTRL i)
      (·.writeStreamCtrl i (asking w (F.INGR_CTRL_ENABLE i) 0))) ∧
  (∀ (s : State), s.Takes .silenceCompare (·.silenceCompare)) ∧
  (∀ (s : State) i w, i < 512 → s.Serves (.streamRdIdxWrite i w) w (G.INGR_RD_IDX i) (·.releaseStream i w))

/-- Every command of the decode array (chapter 04) completes: DEC_CTX_ENABLE, DEC_CTX_DISABLE, DEC_DRAIN_DONE,
DEC_CMD_WR_IDX_WRITE, DEC_PICTURE_START, DEC_WORK_UNIT_DONE, DEC_PICTURE_DONE, DEC_WATCHDOG, KEYREQ_REPEAT,
DEC_KEYREQ_WRITE, DEC_OUT_RD_IDX_WRITE. Each clause has the whole next state as its conclusion, for every state and operands
that meet hypotheses on them alone: an event while the part runs (in a few events: of a unit that answers) ends in the state
that the effect of the event makes of the present one; a permitted write, with no reserved bit set, ends in what the write
makes of the accepting part; a read that the checker lets through responds with the value of the register. -/
def Obligations.DecodeArrayComplete : Prop :=
  (∀ (s : State) c w, c < 128 →
      s.Serves (.decCtxEnable c w) (asking w (F.DEC_CTRL_ENABLE c) 1) (G.DEC_CTRL c)
      (·.writeDecCtrl c (asking w (F.DEC_CTRL_ENABLE c) 1))) ∧
  (∀ (s : State) c w, c < 128 →
      s.Serves (.decCtxDisable c w) (asking w (F.DEC_CTRL_ENABLE c) 0) (G.DEC_CTRL c)
      (·.writeDecCtrl c (asking w (F.DEC_CTRL_ENABLE c) 0))) ∧
  (∀ (s : State) c, c < 128 → s.Takes (.decDrainDone c) (·.decDrained c)) ∧
  (∀ (s : State) c w, c < 128 → s.Serves (.decCmdWrIdxWrite c w) w (G.DEC_CMD_WR_IDX c) (·.writeDecCmd c w)) ∧
  (∀ (s : State) c au, c < 128 → s.cut .decode 0 = false → s.Takes (.decPictureStart c au) (·.decStart c au)) ∧
  (∀ (s : State) k r, k < 16 → s.cut .decode 0 = false → s.Takes (.decWorkUnitDone k r) (·.decUnitDone k r)) ∧
  (∀ (s : State) c motion, c < 128 → s.cut .decode 0 = false →
      s.Takes (.decPictureDone c motion) (·.decPictureDone c motion)) ∧
  (∀ (s : State) k, k < 16 → s.cut .decode 0 = false → s.Takes (.decWatchdog k) (·.decWatchdog k)) ∧
  (∀ (s : State) c, c < 128 → s.cut .decode 0 = false → s.Takes (.keyreqRepeat c) (·.decRepeat c)) ∧
  (∀ (s : State) c w, c < 128 →
      s.Serves (.decKeyreqWrite c w) (asking w (F.DEC_KEYREQ_REQ c) 1) (G.DEC_KEYREQ c)
      (·.writeDecKeyreq c (asking w (F.DEC_KEYREQ_REQ c) 1))) ∧
  (∀ (s : State) c w, c < 128 → s.Serves (.decOutRdIdxWrite c w) w (G.DEC_OUT_RD_IDX c) (·.releaseDec c w))

/-- Every command of stalls, composition and the awning (chapters 05 and 06) completes: STALL_BASE_HI_WRITE,
STALL_RING_SRC_WRITE, SHADOW_BIND_DONE, TAKE_POINT, TAKE_READ_DONE, STALL_FETCH_RETURN, STALL_FETCH_FAULT, WB_ENABLE_WRITE,
WB_PUBLISH, AWNING_PIXEL_SPLIT, INSTALL, BUNDLE_VERIFY_DONE. Each clause has the whole next state as its conclusion, for
every state and operands that meet hypotheses on them alone: an event while the part runs (in a few events: of a unit that
answers) ends in the state that the effect of the event makes of the present one; a permitted write, with no reserved bit
set, ends in what the write makes of the accepting part; a read that the checker lets through responds with the value of the
register. -/
def Obligations.StallsComplete : Prop :=
  (∀ (s : State) n m w, n < 32 → m < 8 →
      s.Serves (.stallBaseHiWrite n m w) w (G.CSTALL_BASE_HI n m) (·.writeBaseHi n m w)) ∧
  (∀ (s : State) n m w, n < 32 → m < 8 →
      s.Serves (.stallRingSrcWrite n m .ctrl w) w (G.CSTALL_CTRL n m) (·.writeStallCtrl n m w)) ∧
  (∀ (s : State) n m w, n < 32 → m < 8 →
      s.Serves (.stallRingSrcWrite n m .src w) w (G.CSTALL_SRC n m) (·.writeStallSrc n m w)) ∧
  (∀ (s : State) n m, n < 32 → m < 8 → s.answers .pipe n 0 = true → s.Takes (.shadowBindDone n m) (·.bindDone n m)) ∧
  (∀ (s : State) n, n < 32 → s.answers .pipe n 0 = true → s.Takes (.takePoint n) (·.takePoint n)) ∧
  (∀ (s : State) n m, n < 32 → m < 8 → s.answers .pipe n 0 = true → s.Takes (.takeReadDone n m) (·.takeRead n m)) ∧
  (∀ (s : State) n m y, n < 32 → m < 8 → s.answers .pipe n 0 = true →
      s.Takes (.stallFetchReturn n m y) (·.fetchRow n m y)) ∧
  (∀ (s : State) n m, n < 32 → m < 8 → s.answers .pipe n 0 = true → s.Takes (.stallFetchFault n m) (·.fetchFails n m)) ∧
  (∀ (s : State) n w, n < 32 →
      s.Serves (.wbEnableWrite n w) (asking w (F.COMP_WB_CTRL_EN n) 1) (G.COMP_WB_CTRL n)
      (·.writeWbCtrl n (asking w (F.COMP_WB_CTRL_EN n) 1))) ∧
  (∀ (s : State) n, n < 32 → s.answers .pipe n 0 = true → s.Takes (.wbPublish n) (·.wbPublish n)) ∧
  (∀ (s : State) n x y pixels, n < 32 → s.Takes (.awningPixelSplit n x y pixels) (·.pixelVote n x y pixels)) ∧
  (∀ (s : State) w, s.Serves (.install w) (asking w F.AWNG_BUNDLE_CTRL_OP 1) G.AWNG_BUNDLE_CTRL
      (·.writeBundleCtrl (asking w F.AWNG_BUNDLE_CTRL_OP 1))) ∧
  (∀ (s : State), s.Takes .bundleVerifyDone (·.bundleVerified))

/-- Every command of the scaler pool and colour tables (chapter 07) completes: SP_BANK_SEL_WRITE, SP_BANK_CHECK_DONE,
SP_COEF_DATA_ACCESS, SP_ROM_LOAD, SP_ROM_LOAD_DONE, LUT_DATA1_ACCESS, LUT_RESET_DONE. Each clause has the whole next state
as its conclusion, for every state and operands that meet hypotheses on them alone: an event while the part runs (in a few
events: of a unit that answers) ends in the state that the effect of the event makes of the present one; a permitted write,
with no reserved bit set, ends in what the write makes of the accepting part; a read that the checker lets through responds
with the value of the register. -/
def Obligations.PoolComplete : Prop :=
  (∀ (s : State) k w, k < 64 → s.Serves (.spBankSelWrite k w) w (G.SP_CTRL k) (·.writeSpCtrl k w)) ∧
  (∀ (s : State) k, k < 64 → s.answers .scaler k 0 = true → s.Takes (.spBankCheckDone k) (·.bankChecked k)) ∧
  (∀ (s : State) k master, k < 64 → s.Reads (.spCoefDataAccess k (.read master)) master (R.SP_COEF_DATA k)) ∧
  (∀ (s : State) k w, k < 64 → s.Serves (.spCoefDataAccess k (.write w)) w (G.SP_COEF_DATA k) (·.writeCoefData k w)) ∧
  (∀ (s : State) k w, k < 64 →
      s.Serves (.spRomLoad k w) (asking w (F.SP_COEF_CMD_LOAD k) 1) (G.SP_COEF_CMD k)
      (·.writeCoefCmd k (asking w (F.SP_COEF_CMD_LOAD k) 1))) ∧
  (∀ (s : State) k, k < 64 → s.answers .scaler k 0 = true → s.Takes (.spRomLoadDone k) (·.romLoaded k)) ∧
  (∀ (s : State) n master, n < 32 → s.Reads (.lutData1Access n (.read master)) master (R.HEAD_LUT_DATA1 n)) ∧
  (∀ (s : State) n w, n < 32 → s.Serves (.lutData1Access n (.write w)) w (G.HEAD_LUT_DATA1 n) (·.writeLutData1 n w)) ∧
  (∀ (s : State), s.Takes .lutResetDone (·.lutsReset))

/-- Every command of scanout heads (chapter 08) completes: PIXCLK_WRITE, PLL_LOCK, HEAD_RUN_SET, HEAD_START, HEAD_RUN_CLEAR,
HEAD_HALT, HEAD_COMMIT, SNAPSHOT_ARM, HEAD_UNDERRUN, RGN_COMPARE, FAULT_CLR, DS_FETCH_FAULT, TOL_MIN_READ. Each clause has
the whole next state as its conclusion, for every state and operands that meet hypotheses on them alone: an event while the
part runs (in a few events: of a unit that answers) ends in the state that the effect of the event makes of the present one;
a permitted write, with no reserved bit set, ends in what the write makes of the accepting part; a read that the checker
lets through responds with the value of the register. -/
def Obligations.HeadsComplete : Prop :=
  (∀ (s : State) n w, n < 32 → s.Serves (.pixclkWrite n w) w (G.HEAD_PIXCLK n) (·.pixclkWrite n w)) ∧
  (∀ (s : State) n, n < 32 → s.answers .head n 0 = true → s.Takes (.pllLock n) (·.pllLocks n)) ∧
  (∀ (s : State) n w, n < 32 →
      s.Serves (.headRunSet n w) (asking w (F.HEAD_CTRL_RUN n) 1) (G.HEAD_CTRL n)
      (·.writeHeadCtrl n (asking w (F.HEAD_CTRL_RUN n) 1))) ∧
  (∀ (s : State) n, n < 32 → s.Takes (.headStart n) (·.headStarts n)) ∧
  (∀ (s : State) n w, n < 32 →
      s.Serves (.headRunClear n w) (asking w (F.HEAD_CTRL_RUN n) 0) (G.HEAD_CTRL n)
      (·.writeHeadCtrl n (asking w (F.HEAD_CTRL_RUN n) 0))) ∧
  (∀ (s : State) n, n < 32 → s.Takes (.headHalt n) (·.halt n)) ∧
  (∀ (s : State) n w, n < 32 → s.Serves (.headCommit n w) w (G.HEAD_COMMIT n) (·.writeCommit n w)) ∧
  (∀ (s : State) n, n < 32 → s.answers .head n 0 = true → s.Takes (.snapshotArm n) (·.armSnapshot n)) ∧
  (∀ (s : State) n line pixel, n < 32 → s.Takes (.headUnderrun n line pixel) (·.underrun n line pixel)) ∧
  (∀ (s : State) n r fault, n < 32 → s.Takes (.rgnCompare n r fault) (·.rgnEvent n r fault)) ∧
  (∀ (s : State) n w, n < 32 →
      s.Serves (.faultClr n w) (asking w (F.HEAD_CTRL_FAULT_CLR n) 1) (G.HEAD_CTRL n)
      (·.writeHeadCtrl n (asking w (F.HEAD_CTRL_FAULT_CLR n) 1))) ∧
  (∀ (s : State) n y, n < 32 → s.Takes (.dsFetchFault n y) (·.dsFails n y)) ∧
  (∀ (s : State) n master, n < 32 → s.Reads (.tolMinRead n master) master (R.HEAD_TOL_MIN n))

/-- Every command of displayPort sources and sinks (chapter 09) completes: SRC_PLUG, SRC_EDID_DONE, SRC_UNPLUG, SRC_IRQ_HPD,
SRC_TRAIN_ATTEMPT_END, RETRAIN, MST_REALLOC_DONE, SRC_AUX_REQUEST, SRC_AUX_DONE, PANEL_PWR_ON, PANEL_PWR_OFF,
PANEL_DELAY_EXPIRY, SNK_HPD_EN_WRITE, SNK_HPD_PULSE, SNK_SOURCE_DETECT, SNK_HPD_LOSS, SNK_TRAINING, SNK_LOCK_LOSS. Each
clause has the whole next state as its conclusion, for every state and operands that meet hypotheses on them alone: an event
while the part runs (in a few events: of a unit that answers) ends in the state that the effect of the event makes of the
present one; a permitted write, with no reserved bit set, ends in what the write makes of the accepting part; a read that
the checker lets through responds with the value of the register. -/
def Obligations.PortsComplete : Prop :=
  (∀ (s : State) k caps, k < 16 → s.Takes (.srcPlug k caps) (·.srcPlug k caps)) ∧
  (∀ (s : State) k edid, k < 16 → s.Takes (.srcEdidDone k edid) (·.edidDone k edid)) ∧
  (∀ (s : State) k edid, k < 16 → s.Takes (.srcUnplug k edid) (·.srcUnplugged k edid)) ∧
  (∀ (s : State) k st psrErr, k < 16 → s.Takes (.srcIrqHpd k st psrErr) (·.irqHpd k st psrErr)) ∧
  (∀ (s : State) k ok, k < 16 → s.Takes (.srcTrainAttemptEnd k ok) (·.sourceTrained k ok)) ∧
  (∀ (s : State) k w, k < 16 →
      s.Serves (.retrain k w) (asking w (F.SRC_CTRL_RETRAIN k) 1) (G.SRC_CTRL k)
      (·.writeSrcCtrl k (asking w (F.SRC_CTRL_RETRAIN k) 1))) ∧
  (∀ (s : State) k, k < 16 → s.Takes (.mstReallocDone k) (·.reallocDone k)) ∧
  (∀ (s : State) k w, k < 16 →
      s.Serves (.srcAuxRequest k w) (asking w (F.SRC_AUX_CMD_GO k) 1) (G.SRC_AUX_CMD k)
      (·.writeAuxCmd k (asking w (F.SRC_AUX_CMD_GO k) 1))) ∧
  (∀ (s : State) k result bytes, k < 16 → s.Takes (.srcAuxDone k result bytes) (·.auxDone k result bytes)) ∧
  (∀ (s : State) k w, k < 16 →
      s.Serves (.panelPwrOn k w) (asking w (F.SRC_PANEL_CTRL_PWR_ON k) 1) (G.SRC_PANEL_CTRL k)
      (·.writePanelCtrl k (asking w (F.SRC_PANEL_CTRL_PWR_ON k) 1))) ∧
  (∀ (s : State) k w, k < 16 →
      s.Serves (.panelPwrOff k w) (asking w (F.SRC_PANEL_CTRL_PWR_ON k) 0) (G.SRC_PANEL_CTRL k)
      (·.writePanelCtrl k (asking w (F.SRC_PANEL_CTRL_PWR_ON k) 0))) ∧
  (∀ (s : State) k, k < 16 → s.Takes (.panelDelayExpiry k) (·.panelExpiry k)) ∧
  (∀ (s : State) j w, j < 8 → s.Serves (.snkHpdEnWrite j w) w (G.SNK_CTRL j) (·.writeSnkCtrl j w)) ∧
  (∀ (s : State) j w, j < 8 →
      s.Serves (.snkHpdPulse j w) (asking w (F.SNK_HPD_PULSE_REQ j) 1) (G.SNK_HPD_PULSE j)
      (·.writeHpdPulse j (asking w (F.SNK_HPD_PULSE_REQ j) 1))) ∧
  (∀ (s : State) j, j < 8 → s.Takes (.snkSourceDetect j) (·.sourceDetect j)) ∧
  (∀ (s : State) j, j < 8 → s.Takes (.snkHpdLoss j) (·.sourceGone j)) ∧
  (∀ (s : State) j rate lanes ok, j < 8 → s.Takes (.snkTraining j rate lanes ok) (·.sinkTraining j rate lanes ok)) ∧
  (∀ (s : State) j, j < 8 → s.Takes (.snkLockLoss j) (·.lockLoss j false))

/-- Every command of the encode array (chapter 10) completes: ENC_CTX_ENABLE, ENC_CTX_DISABLE, ENC_DRAIN_DONE,
ENC_PICTURE_START, ENC_ROW_START, ENC_WORK_UNIT_DONE, ENC_PICTURE_DONE, ENC_OUTPUT_OVERFLOW, ENC_WATCHDOG, ENC_KEYREQ_WRITE,
ENC_OUT_RD_IDX_WRITE. Each clause has the whole next state as its conclusion, for every state and operands that meet
hypotheses on them alone: an event while the part runs (in a few events: of a unit that answers) ends in the state that the
effect of the event makes of the present one; a permitted write, with no reserved bit set, ends in what the write makes of
the accepting part; a read that the checker lets through responds with the value of the register. -/
def Obligations.EncodeArrayComplete : Prop :=
  (∀ (s : State) c w, c < 64 →
      s.Serves (.encCtxEnable c w) (asking w (F.ENC_CTRL_ENABLE c) 1) (G.ENC_CTRL c)
      (·.writeEncCtrl c (asking w (F.ENC_CTRL_ENABLE c) 1))) ∧
  (∀ (s : State) c w, c < 64 →
      s.Serves (.encCtxDisable c w) (asking w (F.ENC_CTRL_ENABLE c) 0) (G.ENC_CTRL c)
      (·.writeEncCtrl c (asking w (F.ENC_CTRL_ENABLE c) 0))) ∧
  (∀ (s : State) c, c < 64 → s.Takes (.encDrainDone c) (·.encDrained c)) ∧
  (∀ (s : State) c, c < 64 → s.cut .encode 0 = false → s.Takes (.encPictureStart c) (·.encStart c)) ∧
  (∀ (s : State) c j spent done, c < 64 → s.cut .encode 0 = false →
      s.Takes (.encRowStart c j spent done) (·.encRow c j spent done)) ∧
  (∀ (s : State) k rowBits, k < 8 → s.cut .encode 0 = false →
      s.Takes (.encWorkUnitDone k rowBits) (·.encUnitDone k rowBits)) ∧
  (∀ (s : State) c au motion, c < 64 → s.cut .encode 0 = false →
      s.Takes (.encPictureDone c au motion) (·.encPictureDone c au motion)) ∧
  (∀ (s : State) c, c < 64 → s.cut .encode 0 = false → s.Takes (.encOutputOverflow c) (·.encOverflow c)) ∧
  (∀ (s : State) k, k < 8 → s.cut .encode 0 = false → s.Takes (.encWatchdog k) (·.encWatchdog k)) ∧
  (∀ (s : State) c w, c < 64 →
      s.Serves (.encKeyreqWrite c w) (asking w (F.ENC_KEYREQ_REQ c) 1) (G.ENC_KEYREQ c)
      (·.writeEncKeyreq c (asking w (F.ENC_KEYREQ_REQ c) 1))) ∧
  (∀ (s : State) c w, c < 64 → s.Serves (.encOutRdIdxWrite c w) w (G.ENC_OUT_RD_IDX c) (·.writeEncRd c w))

/-- Every command of the wall link and the protocol of the twin link (chapter 11) completes: BLOCK_LOCK, BLOCK_LOCK_LOSS,
LINK_DESKEW, DESKEW_LOSS, WLK_FRAME_REJECT, HELLO, FINISH, FINISH_TIMEOUT, VIDEO, AUDIO, INPUT, CONTROL_SOFTWARE, KEYREQ,
HEARTBEAT, ATTEST_REQUEST, ATTEST_RECORD, HEARTBEAT_SEND, HEARTBEAT_LOSS, WLK_FRAME_TX, INPUT_FORWARD, REKEY, WLK_ENABLE,
WLK_DISABLE. Each clause has the whole next state as its conclusion, for every state and operands that meet hypotheses on
them alone: an event while the part runs (in a few events: of a unit that answers) ends in the state that the effect of the
event makes of the present one; a permitted write, with no reserved bit set, ends in what the write makes of the accepting
part; a read that the checker lets through responds with the value of the register. -/
def Obligations.WallLinkComplete : Prop :=
  (∀ (s : State) link lane, s.Takes (.blockLock link lane) (·.blockLock link lane)) ∧
  (∀ (s : State) link lane, s.Takes (.blockLockLoss link lane) (·.blockLoss link lane)) ∧
  (∀ (s : State) link, s.Takes (.linkDeskew link) (·.deskewed link)) ∧
  (∀ (s : State) link, s.Takes (.deskewLoss link) (·.deskewLost link)) ∧
  (∀ (s : State) link why, 3 ≤ s.get (linkStateF link) → s.Takes (.wlkFrameReject link why) (·.linkReject link why false)) ∧
  (∀ (s : State) link f, s.Takes (.hello link f) (·.linkHello link f)) ∧
  (∀ (s : State) link f, s.Takes (.finish link f) (·.linkGotFinish link f)) ∧
  (∀ (s : State) link, s.Takes (.finishTimeout link) (·.finishTimeout link)) ∧
  (∀ (s : State) f, s.Takes (.video f) (·.linkRx .wall f fun s => (s.wlkVideo f).forward 1 f)) ∧
  (∀ (s : State) f, s.Takes (.audio f) (·.linkRx .wall f fun s => (s.sapAudio f.vc f.tag f.payload).forward 2 f)) ∧
  (∀ (s : State) f, s.Takes (.input f) (·.linkRx .wall f (·.toSoftware 3 f))) ∧
  (∀ (s : State) f, s.Takes (.controlSoftware f) (·.linkRx .wall f (·.toSoftware 4 f))) ∧
  (∀ (s : State) f, s.Takes (.keyreq f) (·.linkRx .wall f (·.wlkKeyreq f))) ∧
  (∀ (s : State) f, s.Takes (.heartbeat f) (·.linkRx .wall f id)) ∧
  (∀ (s : State) f, s.Takes (.attestRequest f) (·.linkRx .wall f (·.wlkAttest f))) ∧
  (∀ (s : State) f, s.Takes (.attestRecord f) (·.linkRx .wall f (·.toSoftware 7 f))) ∧
  (∀ (s : State) link, s.Takes (.heartbeatSend link) (·.heartbeatSend link)) ∧
  (∀ (s : State) link, s.Takes (.heartbeatLoss link) (·.heartbeatLoss link)) ∧
  (∀ (s : State) link, s.Takes (.wlkFrameTx link) (·.linkTx link)) ∧
  (∀ (s : State), s.Takes .inputForward (·.inputForward)) ∧
  (∀ (s : State) w, s.Serves (.rekey w) (asking w F.WLK_CTRL_REKEY 1) G.WLK_CTRL
      (·.writeWlkCtrl (asking w F.WLK_CTRL_REKEY 1))) ∧
  (∀ (s : State) w, s.Serves (.wlkEnable w) (asking w F.WLK_CTRL_EN 1) G.WLK_CTRL
      (·.writeWlkCtrl (asking w F.WLK_CTRL_EN 1))) ∧
  (∀ (s : State) w, s.Serves (.wlkDisable w) (asking w F.WLK_CTRL_EN 0) G.WLK_CTRL
      (·.writeWlkCtrl (asking w F.WLK_CTRL_EN 0)))

/-- Every command of twin pairing and switch-over (chapter 12) completes: PAIR_TICK, TICK, TWIN_PHB_EDGE, HEARTBEAT_MISSED,
STEP, COPY, FORWARD, FORWARD_DROP, SWITCH_REQ, SWITCH_ACCEPT, SWITCH_ABORT, TWIN_SWITCH, TWIN_PLANNED, DECLARE_FAULT,
TWIN_PACT_FALL, TWIN_PACT_RISE, ELECTION_TIMEOUT, ELECTION_RETRY, BIST_UNIT_DONE, TICK_WORK_MISSED. Each clause has the
whole next state as its conclusion, for every state and operands that meet hypotheses on them alone: an event while the part
runs (in a few events: of a unit that answers) ends in the state that the effect of the event makes of the present one; a
permitted write, with no reserved bit set, ends in what the write makes of the accepting part; a read that the checker lets
through responds with the value of the register. -/
def Obligations.PairingComplete : Prop :=
  (∀ (s : State), s.Takes .pairTick (·.pairTick)) ∧
  (∀ (s : State) f, s.Takes (.tick f) (·.linkRx .twin f (·.tickFrame f))) ∧
  (∀ (s : State) level, s.Takes (.twinPhbEdge level) (·.phbEdge level)) ∧
  (∀ (s : State), s.Takes .heartbeatMissed (·.windowEnds)) ∧
  (∀ (s : State) f, s.Takes (.step f) (·.linkRx .twin f (·.stepFrame f))) ∧
  (∀ (s : State) f, s.Takes (.copy f) (·.linkRx .twin f (·.copyFrame f))) ∧
  (∀ (s : State) f, s.Takes (.forward f) (·.linkRx .twin f (·.forwarded f))) ∧
  (∀ (s : State), s.Takes .forwardDrop (·.forwardDrop)) ∧
  (∀ (s : State) f, s.Takes (.switchReq f) (·.linkRx .twin f (·.switchReq f))) ∧
  (∀ (s : State) f, s.Takes (.switchAccept f) (·.linkRx .twin f (·.switchAccept))) ∧
  (∀ (s : State) f, s.Takes (.switchAbort f) (·.linkRx .twin f (·.switchAbort))) ∧
  (∀ (s : State) w, s.Serves (.twinSwitch w) (asking w F.TWIN_CTRL_OP 1) G.TWIN_CTRL
      (·.writeTwinCtrl (asking w F.TWIN_CTRL_OP 1))) ∧
  (∀ (s : State) w, s.Serves (.twinPlanned w) (asking w F.TWIN_CTRL_OP 2) G.TWIN_CTRL
      (·.writeTwinCtrl (asking w F.TWIN_CTRL_OP 2))) ∧
  (∀ (s : State) w, s.Serves (.declareFault w) (asking w F.TWIN_CTRL_OP 3) G.TWIN_CTRL
      (·.writeTwinCtrl (asking w F.TWIN_CTRL_OP 3))) ∧
  (∀ (s : State), s.Takes .twinPactFall (·.pactFall)) ∧
  (∀ (s : State), s.Takes .twinPactRise (·.pactRise)) ∧
  (∀ (s : State), s.Takes .electionTimeout (·.electionEnds)) ∧
  (∀ (s : State), s.Takes .electionRetry (·.electAgain)) ∧
  (∀ (s : State) ok, s.Takes (.bistUnitDone ok) (·.bistDone ok)) ∧
  (∀ (s : State), s.Takes .tickWorkMissed (·.tickMissed false))

/-- Every command of memory and its colours (chapter 13) completes: MEM_ACCESS, SCRUB_READ, SR_ENTRY, SR_EXIT, SR_EXIT_DONE,
RECOLOUR_REQUEST, RECOLOUR_PAGE. Each clause has the whole next state as its conclusion, for every state and operands that
meet hypotheses on them alone: an event while the part runs (in a few events: of a unit that answers) ends in the state that
the effect of the event makes of the present one; a permitted write, with no reserved bit set, ends in what the write makes
of the accepting part; a read that the checker lets through responds with the value of the register. -/
def Obligations.MemcComplete : Prop :=
  (∀ (s : State) a, (a.master = 8 ∨ spaceOf a.addr ≠ .cspace) → s.Takes (.memAccess a) (·.softAccess a)) ∧
  (∀ (s : State) u, s.Takes (.scrubRead u) (·.scrubRead u)) ∧
  (∀ (s : State), s.Takes .srEntry (·.srEntry)) ∧
  (∀ (s : State), s.Takes .srExit (·.srExit)) ∧
  (∀ (s : State), s.Takes .srExitDone (·.srExitDone)) ∧
  (∀ (s : State) w, s.Serves (.recolourRequest w) w G.TAG_RC_CTRL (·.writeRcCtrl w)) ∧
  (∀ (s : State) u, s.Takes (.recolourPage u) (·.recolourNext u))

/-- Every command of time bases (chapter 14) completes: SET, STEP_TB, LOCK, UNLOCK, TB_RATE_HI_WRITE, OFFSET_IN_WRITE,
SERVO_ENABLE_WRITE, HOLDOVER_EXPIRY, NOW_NS_READ, TS_POP. Each clause has the whole next state as its conclusion, for every
state and operands that meet hypotheses on them alone: an event while the part runs (in a few events: of a unit that
answers) ends in the state that the effect of the event makes of the present one; a permitted write, with no reserved bit
set, ends in what the write makes of the accepting part; a read that the checker lets through responds with the value of the
register. -/
def Obligations.TimeBasesComplete : Prop :=
  (∀ (s : State) t w, t < 8 →
      s.Serves (.set t w) (asking w (F.TB_CTRL_OP t) 1) (G.TB_CTRL t) (·.writeTbCtrl t (asking w (F.TB_CTRL_OP t) 1))) ∧
  (∀ (s : State) t w, t < 8 →
      s.Serves (.stepTb t w) (asking w (F.TB_CTRL_OP t) 2) (G.TB_CTRL t) (·.writeTbCtrl t (asking w (F.TB_CTRL_OP t) 2))) ∧
  (∀ (s : State) t w, t < 8 →
      s.Serves (.lock t w) (asking w (F.TB_CTRL_OP t) 3) (G.TB_CTRL t) (·.writeTbCtrl t (asking w (F.TB_CTRL_OP t) 3))) ∧
  (∀ (s : State) t w, t < 8 →
      s.Serves (.unlock t w) (asking w (F.TB_CTRL_OP t) 4) (G.TB_CTRL t) (·.writeTbCtrl t (asking w (F.TB_CTRL_OP t) 4))) ∧
  (∀ (s : State) t w, t < 8 → s.Serves (.tbRateHiWrite t w) w (G.TB_RATE_HI t) (·.writeRateHi t w)) ∧
  (∀ (s : State) t w, t < 8 → s.Serves (.offsetInWrite t w) w (G.TB_OFFSET_IN t) (·.writeOffsetIn t w)) ∧
  (∀ (s : State) t w, t < 8 →
      s.Serves (.servoEnableWrite t w) (asking w (F.TB_SERVO_EN t) 1) (G.TB_SERVO t)
      (·.writeServo t (asking w (F.TB_SERVO_EN t) 1))) ∧
  (∀ (s : State) t, t < 8 → s.Takes (.holdoverExpiry t) (·.holdoverCheck t)) ∧
  (∀ (s : State) t master, t < 8 → s.Reads (.nowNsRead t master) master (R.TB_NOW_NS t)) ∧
  (∀ (s : State) p tx w, p < 8 →
      s.Serves (.tsPop p tx w) w (if tx then G.TPORT_TXTS_POP p else G.TPORT_RXTS_POP p) (·.writeTsPop p tx w))

/-- Every command of interrupts (chapter 15) completes: SWI_SET, IRQ_DELIVERY_POINT, HOLDOFF_EXPIRY, CLAIM, COMPLETE,
STACK_RESET. Each clause has the whole next state as its conclusion, for every state and operands that meet hypotheses on
them alone: an event while the part runs (in a few events: of a unit that answers) ends in the state that the effect of the
event makes of the present one; a permitted write, with no reserved bit set, ends in what the write makes of the accepting
part; a read that the checker lets through responds with the value of the register. -/
def Obligations.InterruptsComplete : Prop :=
  (∀ (s : State) w, s.Serves (.swiSet w) w G.IRQ_SWI_SET (·.writeSwiSet w)) ∧
  (∀ (s : State), s.Takes .irqDeliveryPoint (·.deliver)) ∧
  (∀ (s : State) g, g < 31 → s.Takes (.holdoffExpiry g) (·.holdoffEnds g)) ∧
  (∀ (s : State) k master, k < 12 → s.Reads (.claim k master) master (R.TGT_CLAIM k)) ∧
  (∀ (s : State) k w, k < 12 → s.Serves (.complete k w) w (G.TGT_COMPLETE k) (·.writeComplete k w)) ∧
  (∀ (s : State) k w, k < 12 → s.Serves (.stackReset k w) w (G.TGT_STACK_RESET k) (·.writeStackReset k w))

/-- Every command of check-value engines (chapter 16) completes: GO, CVE_ABORT, CVE_BLOCK_DONE, CVE_ACCESS_FAULT. Each
clause has the whole next state as its conclusion, for every state and operands that meet hypotheses on them alone: an event
while the part runs (in a few events: of a unit that answers) ends in the state that the effect of the event makes of the
present one; a permitted write, with no reserved bit set, ends in what the write makes of the accepting part; a read that
the checker lets through responds with the value of the register. -/
def Obligations.CheckValuesComplete : Prop :=
  (∀ (s : State) e w, e < 8 →
      s.Serves (.go e w) (asking w (F.CVE_CTRL_OP e) 1) (G.CVE_CTRL e) (·.writeCveCtrl e (asking w (F.CVE_CTRL_OP e) 1))) ∧
  (∀ (s : State) e w, e < 8 →
      s.Serves (.cveAbort e w) (asking w (F.CVE_CTRL_OP e) 2) (G.CVE_CTRL e)
      (·.writeCveCtrl e (asking w (F.CVE_CTRL_OP e) 2))) ∧
  (∀ (s : State) e, e < 8 → s.Takes (.cveBlockDone e) (·.cveBlockDone e)) ∧
  (∀ (s : State) e, e < 8 → s.Takes (.cveAccessFault e) (·.cveFault e))

/-- Every command of serial lanes (chapter 17) completes: LANE_PWR_WRITE, LANE_STATE_CHANGE_DONE, CDR_LOCK, CDR_LOCK_LOSS,
SLIP, SLIP_APPLIED, PRBS_CHECK_ENABLE, PRBS_LOCK, PRBS_LOSS, RX_WORD_READ. Each clause has the whole next state as its
conclusion, for every state and operands that meet hypotheses on them alone: an event while the part runs (in a few events:
of a unit that answers) ends in the state that the effect of the event makes of the present one; a permitted write, with no
reserved bit set, ends in what the write makes of the accepting part; a read that the checker lets through responds with the
value of the register. -/
def Obligations.LanesComplete : Prop :=
  (∀ (s : State) l w, l < 96 → s.Serves (.lanePwrWrite l w) w (G.LANE_CTRL l) (·.writeLaneCtrl l w)) ∧
  (∀ (s : State) l, l < 96 → s.Takes (.laneStateChangeDone l) (·.laneChanged l)) ∧
  (∀ (s : State) l, l < 96 → s.Takes (.cdrLock l) (·.cdrLocks l)) ∧
  (∀ (s : State) l, l < 96 → s.Takes (.cdrLockLoss l) (·.cdrLoses l)) ∧
  (∀ (s : State) l w, l < 96 →
      s.Serves (.slip l w) (asking w (F.LANE_CTRL_SLIP l) 1) (G.LANE_CTRL l)
      (·.writeLaneCtrl l (asking w (F.LANE_CTRL_SLIP l) 1))) ∧
  (∀ (s : State) l, l < 96 → s.Takes (.slipApplied l) (·.slipMoves l)) ∧
  (∀ (s : State) l w, l < 96 →
      s.Serves (.prbsCheckEnable l w) (asking w (F.LANE_RAW_CFG_CHK_EN l) 1) (G.LANE_RAW_CFG l)
      (·.writeRawCfg l (asking w (F.LANE_RAW_CFG_CHK_EN l) 1))) ∧
  (∀ (s : State) l, l < 96 → s.Takes (.prbsLock l) (·.prbsLocks l)) ∧
  (∀ (s : State) l, l < 96 → s.Takes (.prbsLoss l) (·.prbsLoses l)) ∧
  (∀ (s : State) l master word, l < 96 → s.inReset = none →
      ((s.rxWord l word).checked master (R.LANE_RX_WORD_LO l) 4 false).1 = false →
    ∃ v t, ((s.rxWord l word).checked master (R.LANE_RX_WORD_LO l) 4 false).2.readWord master (R.LANE_RX_WORD_LO l) =
        (v, t) ∧
      exec (.rxWordRead l master word) s = .next (s.ended { t with resp := some ⟨bytesLE 4 v.toNat, false⟩ }))

/-- Every command of serial audio ports (chapter 18) completes: SAMPLE_FRAME, SAP_RUN_SET, SAP_RUN_CLEAR, SAP_MUTE_WRITE,
ZC_TIMEOUT, SLOT_MASK_WRITE, PLL_CFG_WRITE, PLL_ADJ_WRITE, MEAS_FS_UPDATE, SAP_BCLK_LOSS. Each clause has the whole next
state as its conclusion, for every state and operands that meet hypotheses on them alone: an event while the part runs (in a
few events: of a unit that answers) ends in the state that the effect of the event makes of the present one; a permitted
write, with no reserved bit set, ends in what the write makes of the accepting part; a read that the checker lets through
responds with the value of the register. -/
def Obligations.AudioPortsComplete : Prop :=
  (∀ (s : State) p len rx, p < 8 → s.Takes (.sampleFrame p len rx) (·.sampleFrame p len rx)) ∧
  (∀ (s : State) p w, p < 8 →
      s.Serves (.sapRunSet p w) (asking w (F.SAP_CTRL_RUN p) 1) (G.SAP_CTRL p)
      (·.writeSapCtrl p (asking w (F.SAP_CTRL_RUN p) 1))) ∧
  (∀ (s : State) p w, p < 8 →
      s.Serves (.sapRunClear p w) (asking w (F.SAP_CTRL_RUN p) 0) (G.SAP_CTRL p)
      (·.writeSapCtrl p (asking w (F.SAP_CTRL_RUN p) 0))) ∧
  (∀ (s : State) p w, p < 8 → s.Serves (.sapMuteWrite p w) w (G.SAP_CTRL p) (·.writeSapCtrl p w)) ∧
  (∀ (s : State) p, p < 8 → s.Takes (.zcTimeout p) (·.zcTimeout p)) ∧
  (∀ (s : State) p w, p < 8 → s.Serves (.slotMaskWrite p w) w (G.SAP_SLOT_MASK p) (·.writeSlotMask p w)) ∧
  (∀ (s : State) w, s.Serves (.pllCfgWrite w) w G.AUDG_PLL_CFG (·.writePllCfg w)) ∧
  (∀ (s : State) w, s.Serves (.pllAdjWrite w) w G.AUDG_PLL_ADJ (·.writePllAdj w)) ∧
  (∀ (s : State) p, p < 8 → s.Takes (.measFsUpdate p) (·.measFs p)) ∧
  (∀ (s : State) p, p < 8 → s.answers .sap p 0 = true → s.Takes (.sapBclkLoss p) (·.bclkLoss p))

/-- Every command of capacitive touch sensing (chapter 19) completes: TCH_RUN_SET, TCH_RUN_CLEAR, TCH_CH_EN_WRITE,
TCH_CALIBRATION_DONE, TCH_SCAN_START, TCH_PHASE_END. Each clause has the whole next state as its conclusion, for every state
and operands that meet hypotheses on them alone: an event while the part runs (in a few events: of a unit that answers) ends
in the state that the effect of the event makes of the present one; a permitted write, with no reserved bit set, ends in
what the write makes of the accepting part; a read that the checker lets through responds with the value of the register. -/
def Obligations.TouchSenseComplete : Prop :=
  (∀ (s : State) g w, g < 4 →
      s.Serves (.tchRunSet g w) (asking w (F.TCH_CTRL_RUN g) 1) (G.TCH_CTRL g)
      (·.writeTchCtrl g (asking w (F.TCH_CTRL_RUN g) 1))) ∧
  (∀ (s : State) g w, g < 4 →
      s.Serves (.tchRunClear g w) (asking w (F.TCH_CTRL_RUN g) 0) (G.TCH_CTRL g)
      (·.writeTchCtrl g (asking w (F.TCH_CTRL_RUN g) 0))) ∧
  (∀ (s : State) g hi w, g < 4 →
      s.Serves (.tchChEnWrite g hi w) w (if hi then G.TCH_CH_EN_HI g else G.TCH_CH_EN_LO g) (·.writeChEn g hi w)) ∧
  (∀ (s : State) g caps, g < 4 → s.Takes (.tchCalibrationDone g caps) (·.tchCalDone g caps)) ∧
  (∀ (s : State) g, g < 4 → s.Takes (.tchScanStart g) (·.tchScan g)) ∧
  (∀ (s : State) g nets, g < 4 → s.Takes (.tchPhaseEnd g nets) (·.tchPhase g nets))

/-- Every command of thermal management (chapter 20) completes: THERMAL_UPDATE, POWER_SENSE_SAMPLE, BND_READ, REARM,
TJ_PEAK_READ. Each clause has the whole next state as its conclusion, for every state and operands that meet hypotheses on
them alone: an event while the part runs (in a few events: of a unit that answers) ends in the state that the effect of the
event makes of the present one; a permitted write, with no reserved bit set, ends in what the write makes of the accepting
part; a read that the checker lets through responds with the value of the register. The events of the always-on island take
effect in a reset too. -/
def Obligations.ThermalComplete : Prop :=
  (∀ (s : State) upsets, exec (.thermalUpdate upsets) s = .next (s.ended (s.thermalUpdate upsets))) ∧
  (∀ (s : State) mw, exec (.powerSenseSample mw) s = .next (s.ended (s.powerSample mw))) ∧
  (∀ (s : State) r, s.Takes (.bndRead r) (·.bndRead r)) ∧
  (∀ (s : State) w, s.Serves (.rearm w) (asking w F.THERM_CTRL_OP 1) G.THERM_CTRL
      (·.writeThermCtrl (asking w F.THERM_CTRL_OP 1))) ∧
  (∀ (s : State) master, s.Reads (.tjPeakRead master) master R.THERM_TJ_PEAK)

/-- Every command of security and lifecycle (chapter 21) completes: GET_ID, GET_CERT, GET_NONCE, GET_STATUS, ENROLL_KEY,
REVOKE_KEY, RAISE_FLOOR, SET_LIFECYCLE, ENROLL_DEBUG, SET_BND, KEY_PUT, KEY_DELETE, MACSEC_SAK, MKA_ICV,
MAILBOX_COMMAND_END, ID_RECONSTRUCT, KEYSTORE_LOAD, DEBUG_UNLOCK. Each clause has the whole next state as its conclusion,
for every state and operands that meet hypotheses on them alone: an event while the part runs (in a few events: of a unit
that answers) ends in the state that the effect of the event makes of the present one; a permitted write, with no reserved
bit set, ends in what the write makes of the accepting part; a read that the checker lets through responds with the value of
the register. -/
def Obligations.SecurityComplete : Prop :=
  (∀ (s : State) w, s.Serves (.getId w) (asking w F.SEC_MB_CMD_OP 0x01) G.SEC_MB_CMD
      (·.writeMbCmd (asking w F.SEC_MB_CMD_OP 0x01))) ∧
  (∀ (s : State) w, s.Serves (.getCert w) (asking w F.SEC_MB_CMD_OP 0x02) G.SEC_MB_CMD
      (·.writeMbCmd (asking w F.SEC_MB_CMD_OP 0x02))) ∧
  (∀ (s : State) w, s.Serves (.getNonce w) (asking w F.SEC_MB_CMD_OP 0x03) G.SEC_MB_CMD
      (·.writeMbCmd (asking w F.SEC_MB_CMD_OP 0x03))) ∧
  (∀ (s : State) w, s.Serves (.getStatus w) (asking w F.SEC_MB_CMD_OP 0x04) G.SEC_MB_CMD
      (·.writeMbCmd (asking w F.SEC_MB_CMD_OP 0x04))) ∧
  (∀ (s : State) w, s.Serves (.enrollKey w) (asking w F.SEC_MB_CMD_OP 0x10) G.SEC_MB_CMD
      (·.writeMbCmd (asking w F.SEC_MB_CMD_OP 0x10))) ∧
  (∀ (s : State) w, s.Serves (.revokeKey w) (asking w F.SEC_MB_CMD_OP 0x11) G.SEC_MB_CMD
      (·.writeMbCmd (asking w F.SEC_MB_CMD_OP 0x11))) ∧
  (∀ (s : State) w, s.Serves (.raiseFloor w) (asking w F.SEC_MB_CMD_OP 0x12) G.SEC_MB_CMD
      (·.writeMbCmd (asking w F.SEC_MB_CMD_OP 0x12))) ∧
  (∀ (s : State) w, s.Serves (.setLifecycle w) (asking w F.SEC_MB_CMD_OP 0x13) G.SEC_MB_CMD
      (·.writeMbCmd (asking w F.SEC_MB_CMD_OP 0x13))) ∧
  (∀ (s : State) w, s.Serves (.enrollDebug w) (asking w F.SEC_MB_CMD_OP 0x14) G.SEC_MB_CMD
      (·.writeMbCmd (asking w F.SEC_MB_CMD_OP 0x14))) ∧
  (∀ (s : State) w, s.Serves (.setBnd w) (asking w F.SEC_MB_CMD_OP 0x15) G.SEC_MB_CMD
      (·.writeMbCmd (asking w F.SEC_MB_CMD_OP 0x15))) ∧
  (∀ (s : State) w, s.Serves (.keyPut w) (asking w F.SEC_MB_CMD_OP 0x20) G.SEC_MB_CMD
      (·.writeMbCmd (asking w F.SEC_MB_CMD_OP 0x20))) ∧
  (∀ (s : State) w, s.Serves (.keyDelete w) (asking w F.SEC_MB_CMD_OP 0x21) G.SEC_MB_CMD
      (·.writeMbCmd (asking w F.SEC_MB_CMD_OP 0x21))) ∧
  (∀ (s : State) w, s.Serves (.macsecSak w) (asking w F.SEC_MB_CMD_OP 0x22) G.SEC_MB_CMD
      (·.writeMbCmd (asking w F.SEC_MB_CMD_OP 0x22))) ∧
  (∀ (s : State) w, s.Serves (.mkaIcv w) (asking w F.SEC_MB_CMD_OP 0x23) G.SEC_MB_CMD
      (·.writeMbCmd (asking w F.SEC_MB_CMD_OP 0x23))) ∧
  (∀ (s : State) bad, s.Takes (.mailboxCommandEnd bad) (·.mailboxEnd bad)) ∧
  (∀ (s : State) ok, s.Takes (.idReconstruct ok) (·.idReconstruct ok)) ∧
  (∀ (s : State), s.Takes .keystoreLoad (·.keystoreLoad)) ∧
  (∀ (s : State) pub sigR sigS, s.Takes (.debugUnlock pub sigR sigS) (·.debugUnlock pub sigR sigS))

/-- Every command of clocks, resets and start-up (chapter 22) completes: POWER_ON_RESET, BROWN_OUT_RESET, WARM_RESET, SWRST,
RESET_END, HBM_INIT_DONE, BOOT_IMAGE_VERIFY, HOST_BOOT_GO, REFCLK_CHECK, AON_SPLIT, AON_DISSENT, WDOG_EXPIRY, WDOG_KICK,
WDOG_CFG_WRITE, CC_RESET_WRITE, CC_PARK_WRITE, CC_WFI. Each clause has the whole next state as its conclusion, for every
state and operands that meet hypotheses on them alone: an event while the part runs (in a few events: of a unit that
answers) ends in the state that the effect of the event makes of the present one; a permitted write, with no reserved bit
set, ends in what the write makes of the accepting part; a read that the checker lets through responds with the value of the
register. The events of the always-on island take effect in a reset too. -/
def Obligations.ResetsComplete : Prop :=
  (∀ (s : State) aon, exec (.powerOnReset aon) s = .next (s.ended (s.beginReset .powerOn (if aon then 2 else 1)))) ∧
  (∀ (s : State), exec .brownOutReset s = .next (s.ended (s.beginReset .brownOut 3))) ∧
  (∀ (s : State), exec .warmReset s = .next (s.ended (s.beginReset .warm 4))) ∧
  (∀ (s : State) w, s.Serves (.swrst w) (asking w F.CLKRST_SWRST_OP 1) G.CLKRST_SWRST
      (·.writeSwrst (asking w F.CLKRST_SWRST_OP 1))) ∧
  (∀ (s : State) gpio0, exec (.resetEnd gpio0) s = .next (s.ended (s.resetEnds gpio0))) ∧
  (∀ (s : State), s.Takes .hbmInitDone (·.hbmReady)) ∧
  (∀ (s : State), s.Takes .bootImageVerify (·.bootVerify)) ∧
  (∀ (s : State) w, s.Serves (.hostBootGo w) (asking w F.CLKRST_BOOT_CTRL_GO 1) G.CLKRST_BOOT_CTRL
      (·.writeBootCtrl (asking w F.CLKRST_BOOT_CTRL_GO 1))) ∧
  (∀ (s : State) edges, exec (.refclkCheck edges) s = .next (s.ended (s.refclkCheck edges))) ∧
  (∀ (s : State), exec .aonSplit s = .next (s.ended (s.aonSplit))) ∧
  (∀ (s : State) ch, exec (.aonDissent ch) s = .next (s.ended (s.aonDissent ch))) ∧
  (∀ (s : State), s.Takes .wdogExpiry (·.wdogExpires)) ∧
  (∀ (s : State) w, s.Serves (.wdogKick w) w G.CLKRST_WDOG_KICK (·.writeWdogKick w)) ∧
  (∀ (s : State) w, s.Serves (.wdogCfgWrite w) w G.CLKRST_WDOG_CFG (·.writeWdogCfg w)) ∧
  (∀ (s : State) k w, k < 8 → s.Serves (.ccResetWrite k w) w (G.CC_CTRL k) (·.writeCcCtrl k w)) ∧
  (∀ (s : State) k w, k < 8 → s.Serves (.ccParkWrite k w) w (G.CC_CTRL k) (·.writeCcCtrl k w)) ∧
  (∀ (s : State) k, k < 8 → s.Takes (.ccWfi k) (·.ccWfi k))

/-- Every command of the fault ledger, injection, the shells and the miscellaneous block (chapters 23 to 25) completes:
CAL_GO, CAL_DONE, SHELL_HEALTH_EVAL, LEDGER_WRITE, FAULT_INJECT_ARM, DB_SET_WRITE, GPIO_EDGE, I2C_TRANSACTION, I2C_DONE.
Each clause has the whole next state as its conclusion, for every state and operands that meet hypotheses on them alone: an
event while the part runs (in a few events: of a unit that answers) ends in the state that the effect of the event makes of
the present one; a permitted write, with no reserved bit set, ends in what the write makes of the accepting part; a read
that the checker lets through responds with the value of the register. The events of the always-on island take effect in a
reset too. -/
def Obligations.FaultsComplete : Prop :=
  (∀ (s : State) shell w, (shellOf shell).isSome →
      s.Serves (.calGo shell w) (asking w (F.SH_CAL_CTRL_GO shell) 1)
      ⟨R.SH_CAL_CTRL shell, .always, 0, 0, 0xff000001⟩ (·.writeCal shell (asking w (F.SH_CAL_CTRL_GO shell) 1))) ∧
  (∀ (s : State) shell ok us, s.Takes (.calDone shell ok us) (·.calDone shell ok us)) ∧
  (∀ (s : State) shell causes, s.Takes (.shellHealthEval shell causes) (·.healthEval shell causes)) ∧
  (∀ (s : State), exec .ledgerWrite s = .next (s.ended (s.ledgerWrite))) ∧
  (∀ (s : State) d w, d < 96 →
      s.Serves (.faultInjectArm d w) (asking w (F.FLT_INJ_ARM d) 1) (G.FLT_INJ d)
      (·.writeInj d (asking w (F.FLT_INJ_ARM d) 1))) ∧
  (∀ (s : State) w, s.Serves (.dbSetWrite w) w G.SYS_DB_SET (·.writeDbSet w)) ∧
  (∀ (s : State) pin level, pin < 32 → s.Takes (.gpioEdge pin level) (·.gpioEdge pin level)) ∧
  (∀ (s : State) b w, b < 2 →
      s.Serves (.i2cTransaction b w) (asking w (F.I2C_CMD_GO b) 1) (G.I2C_CMD b)
      (·.writeI2cCmd b (asking w (F.I2C_CMD_GO b) 1))) ∧
  (∀ (s : State) b result bytes, b < 2 → s.Takes (.i2cDone b result bytes) (·.i2cDone b result bytes))
end

