-- ==== Sys2Proof/Laws/State.lean ====
section
/-! SUPPORT. What each elementary update leaves: one lemma per field and update, true by definition. -/

namespace Sys2Proof.Machine

/-! ## A register -/

@[simp] theorem State.wr_pending (s : State) (a : Nat) (v : W32) : (s.wr a v).pending = s.pending := rfl
@[simp] theorem State.wr_inForce (s : State) (a : Nat) (v : W32) : (s.wr a v).inForce = s.inForce := rfl
@[simp] theorem State.wr_hiLatch (s : State) (a : Nat) (v : W32) : (s.wr a v).hiLatch = s.hiLatch := rfl
@[simp] theorem State.wr_loHeld (s : State) (a : Nat) (v : W32) : (s.wr a v).loHeld = s.loHeld := rfl
@[simp] theorem State.wr_mem (s : State) (a : Nat) (v : W32) : (s.wr a v).mem = s.mem := rfl
@[simp] theorem State.wr_flash (s : State) (a : Nat) (v : W32) : (s.wr a v).flash = s.flash := rfl
@[simp] theorem State.wr_tagFill (s : State) (a : Nat) (v : W32) : (s.wr a v).tagFill = s.tagFill := rfl
@[simp] theorem State.wr_tagRanges (s : State) (a : Nat) (v : W32) : (s.wr a v).tagRanges = s.tagRanges := rfl
@[simp] theorem State.wr_tags (s : State) (a : Nat) (v : W32) : (s.wr a v).tags = s.tags := rfl
@[simp] theorem State.wr_sramTags (s : State) (a : Nat) (v : W32) : (s.wr a v).sramTags = s.sramTags := rfl
@[simp] theorem State.wr_fuses (s : State) (a : Nat) (v : W32) : (s.wr a v).fuses = s.fuses := rfl
@[simp] theorem State.wr_otp (s : State) (a : Nat) (v : W32) : (s.wr a v).otp = s.otp := rfl
@[simp] theorem State.wr_inReset (s : State) (a : Nat) (v : W32) : (s.wr a v).inReset = s.inReset := rfl
@[simp] theorem State.wr_plan (s : State) (a : Nat) (v : W32) : (s.wr a v).plan = s.plan := rfl
@[simp] theorem State.wr_applying (s : State) (a : Nat) (v : W32) : (s.wr a v).applying = s.applying := rfl
@[simp] theorem State.wr_loader (s : State) (a : Nat) (v : W32) : (s.wr a v).loader = s.loader := rfl
@[simp] theorem State.wr_qspi (s : State) (a : Nat) (v : W32) : (s.wr a v).qspi = s.qspi := rfl
@[simp] theorem State.wr_ns (s : State) (a : Nat) (v : W32) : (s.wr a v).ns = s.ns := rfl
@[simp] theorem State.wr_free (s : State) (a : Nat) (v : W32) : (s.wr a v).free = s.free := rfl
@[simp] theorem State.wr_resp (s : State) (a : Nat) (v : W32) : (s.wr a v).resp = s.resp := rfl
@[simp] theorem State.wr_out (s : State) (a : Nat) (v : W32) : (s.wr a v).out = s.out := rfl
@[simp] theorem State.wr_unpred (s : State) (a : Nat) (v : W32) : (s.wr a v).unpred = s.unpred := rfl
@[simp] theorem State.wr_chans (s : State) (a : Nat) (v : W32) : (s.wr a v).chans = s.chans := rfl
@[simp] theorem State.wr_fstalls (s : State) (a : Nat) (v : W32) : (s.wr a v).fstalls = s.fstalls := rfl
@[simp] theorem State.wr_fheads (s : State) (a : Nat) (v : W32) : (s.wr a v).fheads = s.fheads := rfl
@[simp] theorem State.wr_saks (s : State) (a : Nat) (v : W32) : (s.wr a v).saks = s.saks := rfl
@[simp] theorem State.wr_streams (s : State) (a : Nat) (v : W32) : (s.wr a v).streams = s.streams := rfl
@[simp] theorem State.wr_stalls (s : State) (a : Nat) (v : W32) : (s.wr a v).stalls = s.stalls := rfl
@[simp] theorem State.wr_pipes (s : State) (a : Nat) (v : W32) : (s.wr a v).pipes = s.pipes := rfl
@[simp] theorem State.wr_spUnits (s : State) (a : Nat) (v : W32) : (s.wr a v).spUnits = s.spUnits := rfl
@[simp] theorem State.wr_spCoef (s : State) (a : Nat) (v : W32) : (s.wr a v).spCoef = s.spCoef := rfl
@[simp] theorem State.wr_lut (s : State) (a : Nat) (v : W32) : (s.wr a v).lut = s.lut := rfl
@[simp] theorem State.wr_ringRetired (s : State) (a : Nat) (v : W32) : (s.wr a v).ringRetired = s.ringRetired := rfl
@[simp] theorem State.wr_srcs (s : State) (a : Nat) (v : W32) : (s.wr a v).srcs = s.srcs := rfl
@[simp] theorem State.wr_unplugged (s : State) (a : Nat) (v : W32) : (s.wr a v).unplugged = s.unplugged := rfl
@[simp] theorem State.wr_decs (s : State) (a : Nat) (v : W32) : (s.wr a v).decs = s.decs := rfl
@[simp] theorem State.wr_decCores (s : State) (a : Nat) (v : W32) : (s.wr a v).decCores = s.decCores := rfl
@[simp] theorem State.wr_encs (s : State) (a : Nat) (v : W32) : (s.wr a v).encs = s.encs := rfl
@[simp] theorem State.wr_encCores (s : State) (a : Nat) (v : W32) : (s.wr a v).encCores = s.encCores := rfl
@[simp] theorem State.wr_links (s : State) (a : Nat) (v : W32) : (s.wr a v).links = s.links := rfl
@[simp] theorem State.wr_inputs (s : State) (a : Nat) (v : W32) : (s.wr a v).inputs = s.inputs := rfl
@[simp] theorem State.wr_twin (s : State) (a : Nat) (v : W32) : (s.wr a v).twin = s.twin := rfl
@[simp] theorem State.wr_saps (s : State) (a : Nat) (v : W32) : (s.wr a v).saps = s.saps := rfl
@[simp] theorem State.wr_awns (s : State) (a : Nat) (v : W32) : (s.wr a v).awns = s.awns := rfl
@[simp] theorem State.wr_install (s : State) (a : Nat) (v : W32) : (s.wr a v).install = s.install := rfl
@[simp] theorem State.wr_heads (s : State) (a : Nat) (v : W32) : (s.wr a v).heads = s.heads := rfl
@[simp] theorem State.wr_memc (s : State) (a : Nat) (v : W32) : (s.wr a v).memc = s.memc := rfl
@[simp] theorem State.wr_lanes (s : State) (a : Nat) (v : W32) : (s.wr a v).lanes = s.lanes := rfl
@[simp] theorem State.wr_touch (s : State) (a : Nat) (v : W32) : (s.wr a v).touch = s.touch := rfl
@[simp] theorem State.wr_therm (s : State) (a : Nat) (v : W32) : (s.wr a v).therm = s.therm := rfl
@[simp] theorem State.wr_sec (s : State) (a : Nat) (v : W32) : (s.wr a v).sec = s.sec := rfl
@[simp] theorem State.wr_clk (s : State) (a : Nat) (v : W32) : (s.wr a v).clk = s.clk := rfl
@[simp] theorem State.wr_i2c (s : State) (a : Nat) (v : W32) : (s.wr a v).i2c = s.i2c := rfl
@[simp] theorem State.wr_due (s : State) (a : Nat) (v : W32) : (s.wr a v).due = s.due := rfl
@[simp] theorem State.wr_lastEntry (s : State) (a : Nat) (v : W32) : (s.wr a v).lastEntry = s.lastEntry := rfl
@[simp] theorem State.wr_injLeft (s : State) (a : Nat) (v : W32) : (s.wr a v).injLeft = s.injLeft := rfl
@[simp] theorem State.wr_chkBytes (s : State) (a : Nat) (v : W32) : (s.wr a v).chkBytes = s.chkBytes := rfl
@[simp] theorem State.wr_tbs (s : State) (a : Nat) (v : W32) : (s.wr a v).tbs = s.tbs := rfl
@[simp] theorem State.wr_tsq (s : State) (a : Nat) (v : W32) : (s.wr a v).tsq = s.tsq := rfl
@[simp] theorem State.wr_irqSrc (s : State) (a : Nat) (v : W32) : (s.wr a v).irqSrc = s.irqSrc := rfl
@[simp] theorem State.wr_irqTimer (s : State) (a : Nat) (v : W32) : (s.wr a v).irqTimer = s.irqTimer := rfl
@[simp] theorem State.wr_irqTgt (s : State) (a : Nat) (v : W32) : (s.wr a v).irqTgt = s.irqTgt := rfl
@[simp] theorem State.wr_busMaster (s : State) (a : Nat) (v : W32) : (s.wr a v).busMaster = s.busMaster := rfl
@[simp] theorem State.wr_msixEnable (s : State) (a : Nat) (v : W32) : (s.wr a v).msixEnable = s.msixEnable := rfl
@[simp] theorem State.wr_functionMask (s : State) (a : Nat) (v : W32) : (s.wr a v).functionMask = s.functionMask := rfl

/-! ## A field -/

@[simp] theorem State.set_pending (s : State) (f : Fld) (v : Nat) : (s.set f v).pending = s.pending := rfl
@[simp] theorem State.set_inForce (s : State) (f : Fld) (v : Nat) : (s.set f v).inForce = s.inForce := rfl
@[simp] theorem State.set_hiLatch (s : State) (f : Fld) (v : Nat) : (s.set f v).hiLatch = s.hiLatch := rfl
@[simp] theorem State.set_loHeld (s : State) (f : Fld) (v : Nat) : (s.set f v).loHeld = s.loHeld := rfl
@[simp] theorem State.set_mem (s : State) (f : Fld) (v : Nat) : (s.set f v).mem = s.mem := rfl
@[simp] theorem State.set_flash (s : State) (f : Fld) (v : Nat) : (s.set f v).flash = s.flash := rfl
@[simp] theorem State.set_tagFill (s : State) (f : Fld) (v : Nat) : (s.set f v).tagFill = s.tagFill := rfl
@[simp] theorem State.set_tagRanges (s : State) (f : Fld) (v : Nat) : (s.set f v).tagRanges = s.tagRanges := rfl
@[simp] theorem State.set_tags (s : State) (f : Fld) (v : Nat) : (s.set f v).tags = s.tags := rfl
@[simp] theorem State.set_sramTags (s : State) (f : Fld) (v : Nat) : (s.set f v).sramTags = s.sramTags := rfl
@[simp] theorem State.set_fuses (s : State) (f : Fld) (v : Nat) : (s.set f v).fuses = s.fuses := rfl
@[simp] theorem State.set_otp (s : State) (f : Fld) (v : Nat) : (s.set f v).otp = s.otp := rfl
@[simp] theorem State.set_inReset (s : State) (f : Fld) (v : Nat) : (s.set f v).inReset = s.inReset := rfl
@[simp] theorem State.set_plan (s : State) (f : Fld) (v : Nat) : (s.set f v).plan = s.plan := rfl
@[simp] theorem State.set_applying (s : State) (f : Fld) (v : Nat) : (s.set f v).applying = s.applying := rfl
@[simp] theorem State.set_loader (s : State) (f : Fld) (v : Nat) : (s.set f v).loader = s.loader := rfl
@[simp] theorem State.set_qspi (s : State) (f : Fld) (v : Nat) : (s.set f v).qspi = s.qspi := rfl
@[simp] theorem State.set_ns (s : State) (f : Fld) (v : Nat) : (s.set f v).ns = s.ns := rfl
@[simp] theorem State.set_free (s : State) (f : Fld) (v : Nat) : (s.set f v).free = s.free := rfl
@[simp] theorem State.set_resp (s : State) (f : Fld) (v : Nat) : (s.set f v).resp = s.resp := rfl
@[simp] theorem State.set_out (s : State) (f : Fld) (v : Nat) : (s.set f v).out = s.out := rfl
@[simp] theorem State.set_unpred (s : State) (f : Fld) (v : Nat) : (s.set f v).unpred = s.unpred := rfl
@[simp] theorem State.set_chans (s : State) (f : Fld) (v : Nat) : (s.set f v).chans = s.chans := rfl
@[simp] theorem State.set_fstalls (s : State) (f : Fld) (v : Nat) : (s.set f v).fstalls = s.fstalls := rfl
@[simp] theorem State.set_fheads (s : State) (f : Fld) (v : Nat) : (s.set f v).fheads = s.fheads := rfl
@[simp] theorem State.set_saks (s : State) (f : Fld) (v : Nat) : (s.set f v).saks = s.saks := rfl
@[simp] theorem State.set_streams (s : State) (f : Fld) (v : Nat) : (s.set f v).streams = s.streams := rfl
@[simp] theorem State.set_stalls (s : State) (f : Fld) (v : Nat) : (s.set f v).stalls = s.stalls := rfl
@[simp] theorem State.set_pipes (s : State) (f : Fld) (v : Nat) : (s.set f v).pipes = s.pipes := rfl
@[simp] theorem State.set_spUnits (s : State) (f : Fld) (v : Nat) : (s.set f v).spUnits = s.spUnits := rfl
@[simp] theorem State.set_spCoef (s : State) (f : Fld) (v : Nat) : (s.set f v).spCoef = s.spCoef := rfl
@[simp] theorem State.set_lut (s : State) (f : Fld) (v : Nat) : (s.set f v).lut = s.lut := rfl
@[simp] theorem State.set_ringRetired (s : State) (f : Fld) (v : Nat) : (s.set f v).ringRetired = s.ringRetired := rfl
@[simp] theorem State.set_srcs (s : State) (f : Fld) (v : Nat) : (s.set f v).srcs = s.srcs := rfl
@[simp] theorem State.set_unplugged (s : State) (f : Fld) (v : Nat) : (s.set f v).unplugged = s.unplugged := rfl
@[simp] theorem State.set_decs (s : State) (f : Fld) (v : Nat) : (s.set f v).decs = s.decs := rfl
@[simp] theorem State.set_decCores (s : State) (f : Fld) (v : Nat) : (s.set f v).decCores = s.decCores := rfl
@[simp] theorem State.set_encs (s : State) (f : Fld) (v : Nat) : (s.set f v).encs = s.encs := rfl
@[simp] theorem State.set_encCores (s : State) (f : Fld) (v : Nat) : (s.set f v).encCores = s.encCores := rfl
@[simp] theorem State.set_links (s : State) (f : Fld) (v : Nat) : (s.set f v).links = s.links := rfl
@[simp] theorem State.set_inputs (s : State) (f : Fld) (v : Nat) : (s.set f v).inputs = s.inputs := rfl
@[simp] theorem State.set_twin (s : State) (f : Fld) (v : Nat) : (s.set f v).twin = s.twin := rfl
@[simp] theorem State.set_saps (s : State) (f : Fld) (v : Nat) : (s.set f v).saps = s.saps := rfl
@[simp] theorem State.set_awns (s : State) (f : Fld) (v : Nat) : (s.set f v).awns = s.awns := rfl
@[simp] theorem State.set_install (s : State) (f : Fld) (v : Nat) : (s.set f v).install = s.install := rfl
@[simp] theorem State.set_heads (s : State) (f : Fld) (v : Nat) : (s.set f v).heads = s.heads := rfl
@[simp] theorem State.set_memc (s : State) (f : Fld) (v : Nat) : (s.set f v).memc = s.memc := rfl
@[simp] theorem State.set_lanes (s : State) (f : Fld) (v : Nat) : (s.set f v).lanes = s.lanes := rfl
@[simp] theorem State.set_touch (s : State) (f : Fld) (v : Nat) : (s.set f v).touch = s.touch := rfl
@[simp] theorem State.set_therm (s : State) (f : Fld) (v : Nat) : (s.set f v).therm = s.therm := rfl
@[simp] theorem State.set_sec (s : State) (f : Fld) (v : Nat) : (s.set f v).sec = s.sec := rfl
@[simp] theorem State.set_clk (s : State) (f : Fld) (v : Nat) : (s.set f v).clk = s.clk := rfl
@[simp] theorem State.set_i2c (s : State) (f : Fld) (v : Nat) : (s.set f v).i2c = s.i2c := rfl
@[simp] theorem State.set_due (s : State) (f : Fld) (v : Nat) : (s.set f v).due = s.due := rfl
@[simp] theorem State.set_lastEntry (s : State) (f : Fld) (v : Nat) : (s.set f v).lastEntry = s.lastEntry := rfl
@[simp] theorem State.set_injLeft (s : State) (f : Fld) (v : Nat) : (s.set f v).injLeft = s.injLeft := rfl
@[simp] theorem State.set_chkBytes (s : State) (f : Fld) (v : Nat) : (s.set f v).chkBytes = s.chkBytes := rfl
@[simp] theorem State.set_tbs (s : State) (f : Fld) (v : Nat) : (s.set f v).tbs = s.tbs := rfl
@[simp] theorem State.set_tsq (s : State) (f : Fld) (v : Nat) : (s.set f v).tsq = s.tsq := rfl
@[simp] theorem State.set_irqSrc (s : State) (f : Fld) (v : Nat) : (s.set f v).irqSrc = s.irqSrc := rfl
@[simp] theorem State.set_irqTimer (s : State) (f : Fld) (v : Nat) : (s.set f v).irqTimer = s.irqTimer := rfl
@[simp] theorem State.set_irqTgt (s : State) (f : Fld) (v : Nat) : (s.set f v).irqTgt = s.irqTgt := rfl
@[simp] theorem State.set_busMaster (s : State) (f : Fld) (v : Nat) : (s.set f v).busMaster = s.busMaster := rfl
@[simp] theorem State.set_msixEnable (s : State) (f : Fld) (v : Nat) : (s.set f v).msixEnable = s.msixEnable := rfl
@[simp] theorem State.set_functionMask (s : State) (f : Fld) (v : Nat) : (s.set f v).functionMask = s.functionMask := rfl

/-! ## A register as a number -/

@[simp] theorem State.setWord_pending (s : State) (a v : Nat) : (s.setWord a v).pending = s.pending := rfl
@[simp] theorem State.setWord_inForce (s : State) (a v : Nat) : (s.setWord a v).inForce = s.inForce := rfl
@[simp] theorem State.setWord_hiLatch (s : State) (a v : Nat) : (s.setWord a v).hiLatch = s.hiLatch := rfl
@[simp] theorem State.setWord_loHeld (s : State) (a v : Nat) : (s.setWord a v).loHeld = s.loHeld := rfl
@[simp] theorem State.setWord_mem (s : State) (a v : Nat) : (s.setWord a v).mem = s.mem := rfl
@[simp] theorem State.setWord_flash (s : State) (a v : Nat) : (s.setWord a v).flash = s.flash := rfl
@[simp] theorem State.setWord_tagFill (s : State) (a v : Nat) : (s.setWord a v).tagFill = s.tagFill := rfl
@[simp] theorem State.setWord_tagRanges (s : State) (a v : Nat) : (s.setWord a v).tagRanges = s.tagRanges := rfl
@[simp] theorem State.setWord_tags (s : State) (a v : Nat) : (s.setWord a v).tags = s.tags := rfl
@[simp] theorem State.setWord_sramTags (s : State) (a v : Nat) : (s.setWord a v).sramTags = s.sramTags := rfl
@[simp] theorem State.setWord_fuses (s : State) (a v : Nat) : (s.setWord a v).fuses = s.fuses := rfl
@[simp] theorem State.setWord_otp (s : State) (a v : Nat) : (s.setWord a v).otp = s.otp := rfl
@[simp] theorem State.setWord_inReset (s : State) (a v : Nat) : (s.setWord a v).inReset = s.inReset := rfl
@[simp] theorem State.setWord_plan (s : State) (a v : Nat) : (s.setWord a v).plan = s.plan := rfl
@[simp] theorem State.setWord_applying (s : State) (a v : Nat) : (s.setWord a v).applying = s.applying := rfl
@[simp] theorem State.setWord_loader (s : State) (a v : Nat) : (s.setWord a v).loader = s.loader := rfl
@[simp] theorem State.setWord_qspi (s : State) (a v : Nat) : (s.setWord a v).qspi = s.qspi := rfl
@[simp] theorem State.setWord_ns (s : State) (a v : Nat) : (s.setWord a v).ns = s.ns := rfl
@[simp] theorem State.setWord_free (s : State) (a v : Nat) : (s.setWord a v).free = s.free := rfl
@[simp] theorem State.setWord_resp (s : State) (a v : Nat) : (s.setWord a v).resp = s.resp := rfl
@[simp] theorem State.setWord_out (s : State) (a v : Nat) : (s.setWord a v).out = s.out := rfl
@[simp] theorem State.setWord_unpred (s : State) (a v : Nat) : (s.setWord a v).unpred = s.unpred := rfl
@[simp] theorem State.setWord_chans (s : State) (a v : Nat) : (s.setWord a v).chans = s.chans := rfl
@[simp] theorem State.setWord_fstalls (s : State) (a v : Nat) : (s.setWord a v).fstalls = s.fstalls := rfl
@[simp] theorem State.setWord_fheads (s : State) (a v : Nat) : (s.setWord a v).fheads = s.fheads := rfl
@[simp] theorem State.setWord_saks (s : State) (a v : Nat) : (s.setWord a v).saks = s.saks := rfl
@[simp] theorem State.setWord_streams (s : State) (a v : Nat) : (s.setWord a v).streams = s.streams := rfl
@[simp] theorem State.setWord_stalls (s : State) (a v : Nat) : (s.setWord a v).stalls = s.stalls := rfl
@[simp] theorem State.setWord_pipes (s : State) (a v : Nat) : (s.setWord a v).pipes = s.pipes := rfl
@[simp] theorem State.setWord_spUnits (s : State) (a v : Nat) : (s.setWord a v).spUnits = s.spUnits := rfl
@[simp] theorem State.setWord_spCoef (s : State) (a v : Nat) : (s.setWord a v).spCoef = s.spCoef := rfl
@[simp] theorem State.setWord_lut (s : State) (a v : Nat) : (s.setWord a v).lut = s.lut := rfl
@[simp] theorem State.setWord_ringRetired (s : State) (a v : Nat) : (s.setWord a v).ringRetired = s.ringRetired := rfl
@[simp] theorem State.setWord_srcs (s : State) (a v : Nat) : (s.setWord a v).srcs = s.srcs := rfl
@[simp] theorem State.setWord_unplugged (s : State) (a v : Nat) : (s.setWord a v).unplugged = s.unplugged := rfl
@[simp] theorem State.setWord_decs (s : State) (a v : Nat) : (s.setWord a v).decs = s.decs := rfl
@[simp] theorem State.setWord_decCores (s : State) (a v : Nat) : (s.setWord a v).decCores = s.decCores := rfl
@[simp] theorem State.setWord_encs (s : State) (a v : Nat) : (s.setWord a v).encs = s.encs := rfl
@[simp] theorem State.setWord_encCores (s : State) (a v : Nat) : (s.setWord a v).encCores = s.encCores := rfl
@[simp] theorem State.setWord_links (s : State) (a v : Nat) : (s.setWord a v).links = s.links := rfl
@[simp] theorem State.setWord_inputs (s : State) (a v : Nat) : (s.setWord a v).inputs = s.inputs := rfl
@[simp] theorem State.setWord_twin (s : State) (a v : Nat) : (s.setWord a v).twin = s.twin := rfl
@[simp] theorem State.setWord_saps (s : State) (a v : Nat) : (s.setWord a v).saps = s.saps := rfl
@[simp] theorem State.setWord_awns (s : State) (a v : Nat) : (s.setWord a v).awns = s.awns := rfl
@[simp] theorem State.setWord_install (s : State) (a v : Nat) : (s.setWord a v).install = s.install := rfl
@[simp] theorem State.setWord_heads (s : State) (a v : Nat) : (s.setWord a v).heads = s.heads := rfl
@[simp] theorem State.setWord_memc (s : State) (a v : Nat) : (s.setWord a v).memc = s.memc := rfl
@[simp] theorem State.setWord_lanes (s : State) (a v : Nat) : (s.setWord a v).lanes = s.lanes := rfl
@[simp] theorem State.setWord_touch (s : State) (a v : Nat) : (s.setWord a v).touch = s.touch := rfl
@[simp] theorem State.setWord_therm (s : State) (a v : Nat) : (s.setWord a v).therm = s.therm := rfl
@[simp] theorem State.setWord_sec (s : State) (a v : Nat) : (s.setWord a v).sec = s.sec := rfl
@[simp] theorem State.setWord_clk (s : State) (a v : Nat) : (s.setWord a v).clk = s.clk := rfl
@[simp] theorem State.setWord_i2c (s : State) (a v : Nat) : (s.setWord a v).i2c = s.i2c := rfl
@[simp] theorem State.setWord_due (s : State) (a v : Nat) : (s.setWord a v).due = s.due := rfl
@[simp] theorem State.setWord_lastEntry (s : State) (a v : Nat) : (s.setWord a v).lastEntry = s.lastEntry := rfl
@[simp] theorem State.setWord_injLeft (s : State) (a v : Nat) : (s.setWord a v).injLeft = s.injLeft := rfl
@[simp] theorem State.setWord_chkBytes (s : State) (a v : Nat) : (s.setWord a v).chkBytes = s.chkBytes := rfl
@[simp] theorem State.setWord_tbs (s : State) (a v : Nat) : (s.setWord a v).tbs = s.tbs := rfl
@[simp] theorem State.setWord_tsq (s : State) (a v : Nat) : (s.setWord a v).tsq = s.tsq := rfl
@[simp] theorem State.setWord_irqSrc (s : State) (a v : Nat) : (s.setWord a v).irqSrc = s.irqSrc := rfl
@[simp] theorem State.setWord_irqTimer (s : State) (a v : Nat) : (s.setWord a v).irqTimer = s.irqTimer := rfl
@[simp] theorem State.setWord_irqTgt (s : State) (a v : Nat) : (s.setWord a v).irqTgt = s.irqTgt := rfl
@[simp] theorem State.setWord_busMaster (s : State) (a v : Nat) : (s.setWord a v).busMaster = s.busMaster := rfl
@[simp] theorem State.setWord_msixEnable (s : State) (a v : Nat) : (s.setWord a v).msixEnable = s.msixEnable := rfl
@[simp] theorem State.setWord_functionMask (s : State) (a v : Nat) : (s.setWord a v).functionMask = s.functionMask := rfl

/-! ## Bytes of memory -/

@[simp] theorem State.store_pending (s : State) (a : Nat) (bs : List Byte) : (s.store a bs).pending = s.pending := rfl
@[simp] theorem State.store_regs (s : State) (a : Nat) (bs : List Byte) : (s.store a bs).regs = s.regs := rfl
@[simp] theorem State.store_inForce (s : State) (a : Nat) (bs : List Byte) : (s.store a bs).inForce = s.inForce := rfl
@[simp] theorem State.store_hiLatch (s : State) (a : Nat) (bs : List Byte) : (s.store a bs).hiLatch = s.hiLatch := rfl
@[simp] theorem State.store_loHeld (s : State) (a : Nat) (bs : List Byte) : (s.store a bs).loHeld = s.loHeld := rfl
@[simp] theorem State.store_flash (s : State) (a : Nat) (bs : List Byte) : (s.store a bs).flash = s.flash := rfl
@[simp] theorem State.store_tagFill (s : State) (a : Nat) (bs : List Byte) : (s.store a bs).tagFill = s.tagFill := rfl
@[simp] theorem State.store_tagRanges (s : State) (a : Nat) (bs : List Byte) : (s.store a bs).tagRanges = s.tagRanges := rfl
@[simp] theorem State.store_tags (s : State) (a : Nat) (bs : List Byte) : (s.store a bs).tags = s.tags := rfl
@[simp] theorem State.store_sramTags (s : State) (a : Nat) (bs : List Byte) : (s.store a bs).sramTags = s.sramTags := rfl
@[simp] theorem State.store_fuses (s : State) (a : Nat) (bs : List Byte) : (s.store a bs).fuses = s.fuses := rfl
@[simp] theorem State.store_otp (s : State) (a : Nat) (bs : List Byte) : (s.store a bs).otp = s.otp := rfl
@[simp] theorem State.store_inReset (s : State) (a : Nat) (bs : List Byte) : (s.store a bs).inReset = s.inReset := rfl
@[simp] theorem State.store_plan (s : State) (a : Nat) (bs : List Byte) : (s.store a bs).plan = s.plan := rfl
@[simp] theorem State.store_applying (s : State) (a : Nat) (bs : List Byte) : (s.store a bs).applying = s.applying := rfl
@[simp] theorem State.store_loader (s : State) (a : Nat) (bs : List Byte) : (s.store a bs).loader = s.loader := rfl
@[simp] theorem State.store_qspi (s : State) (a : Nat) (bs : List Byte) : (s.store a bs).qspi = s.qspi := rfl
@[simp] theorem State.store_ns (s : State) (a : Nat) (bs : List Byte) : (s.store a bs).ns = s.ns := rfl
@[simp] theorem State.store_free (s : State) (a : Nat) (bs : List Byte) : (s.store a bs).free = s.free := rfl
@[simp] theorem State.store_resp (s : State) (a : Nat) (bs : List Byte) : (s.store a bs).resp = s.resp := rfl
@[simp] theorem State.store_out (s : State) (a : Nat) (bs : List Byte) : (s.store a bs).out = s.out := rfl
@[simp] theorem State.store_unpred (s : State) (a : Nat) (bs : List Byte) : (s.store a bs).unpred = s.unpred := rfl
@[simp] theorem State.store_chans (s : State) (a : Nat) (bs : List Byte) : (s.store a bs).chans = s.chans := rfl
@[simp] theorem State.store_fstalls (s : State) (a : Nat) (bs : List Byte) : (s.store a bs).fstalls = s.fstalls := rfl
@[simp] theorem State.store_fheads (s : State) (a : Nat) (bs : List Byte) : (s.store a bs).fheads = s.fheads := rfl
@[simp] theorem State.store_saks (s : State) (a : Nat) (bs : List Byte) : (s.store a bs).saks = s.saks := rfl
@[simp] theorem State.store_streams (s : State) (a : Nat) (bs : List Byte) : (s.store a bs).streams = s.streams := rfl
@[simp] theorem State.store_stalls (s : State) (a : Nat) (bs : List Byte) : (s.store a bs).stalls = s.stalls := rfl
@[simp] theorem State.store_pipes (s : State) (a : Nat) (bs : List Byte) : (s.store a bs).pipes = s.pipes := rfl
@[simp] theorem State.store_spUnits (s : State) (a : Nat) (bs : List Byte) : (s.store a bs).spUnits = s.spUnits := rfl
@[simp] theorem State.store_spCoef (s : State) (a : Nat) (bs : List Byte) : (s.store a bs).spCoef = s.spCoef := rfl
@[simp] theorem State.store_lut (s : State) (a : Nat) (bs : List Byte) : (s.store a bs).lut = s.lut := rfl
@[simp] theorem State.store_ringRetired (s : State) (a : Nat) (bs : List Byte) : (s.store a bs).ringRetired = s.ringRetired := rfl
@[simp] theorem State.store_srcs (s : State) (a : Nat) (bs : List Byte) : (s.store a bs).srcs = s.srcs := rfl
@[simp] theorem State.store_unplugged (s : State) (a : Nat) (bs : List Byte) : (s.store a bs).unplugged = s.unplugged := rfl
@[simp] theorem State.store_decs (s : State) (a : Nat) (bs : List Byte) : (s.store a bs).decs = s.decs := rfl
@[simp] theorem State.store_decCores (s : State) (a : Nat) (bs : List Byte) : (s.store a bs).decCores = s.decCores := rfl
@[simp] theorem State.store_encs (s : State) (a : Nat) (bs : List Byte) : (s.store a bs).encs = s.encs := rfl
@[simp] theorem State.store_encCores (s : State) (a : Nat) (bs : List Byte) : (s.store a bs).encCores = s.encCores := rfl
@[simp] theorem State.store_links (s : State) (a : Nat) (bs : List Byte) : (s.store a bs).links = s.links := rfl
@[simp] theorem State.store_inputs (s : State) (a : Nat) (bs : List Byte) : (s.store a bs).inputs = s.inputs := rfl
@[simp] theorem State.store_twin (s : State) (a : Nat) (bs : List Byte) : (s.store a bs).twin = s.twin := rfl
@[simp] theorem State.store_saps (s : State) (a : Nat) (bs : List Byte) : (s.store a bs).saps = s.saps := rfl
@[simp] theorem State.store_awns (s : State) (a : Nat) (bs : List Byte) : (s.store a bs).awns = s.awns := rfl
@[simp] theorem State.store_install (s : State) (a : Nat) (bs : List Byte) : (s.store a bs).install = s.install := rfl
@[simp] theorem State.store_heads (s : State) (a : Nat) (bs : List Byte) : (s.store a bs).heads = s.heads := rfl
@[simp] theorem State.store_memc (s : State) (a : Nat) (bs : List Byte) : (s.store a bs).memc = s.memc := rfl
@[simp] theorem State.store_lanes (s : State) (a : Nat) (bs : List Byte) : (s.store a bs).lanes = s.lanes := rfl
@[simp] theorem State.store_touch (s : State) (a : Nat) (bs : List Byte) : (s.store a bs).touch = s.touch := rfl
@[simp] theorem State.store_therm (s : State) (a : Nat) (bs : List Byte) : (s.store a bs).therm = s.therm := rfl
@[simp] theorem State.store_sec (s : State) (a : Nat) (bs : List Byte) : (s.store a bs).sec = s.sec := rfl
@[simp] theorem State.store_clk (s : State) (a : Nat) (bs : List Byte) : (s.store a bs).clk = s.clk := rfl
@[simp] theorem State.store_i2c (s : State) (a : Nat) (bs : List Byte) : (s.store a bs).i2c = s.i2c := rfl
@[simp] theorem State.store_due (s : State) (a : Nat) (bs : List Byte) : (s.store a bs).due = s.due := rfl
@[simp] theorem State.store_lastEntry (s : State) (a : Nat) (bs : List Byte) : (s.store a bs).lastEntry = s.lastEntry := rfl
@[simp] theorem State.store_injLeft (s : State) (a : Nat) (bs : List Byte) : (s.store a bs).injLeft = s.injLeft := rfl
@[simp] theorem State.store_chkBytes (s : State) (a : Nat) (bs : List Byte) : (s.store a bs).chkBytes = s.chkBytes := rfl
@[simp] theorem State.store_tbs (s : State) (a : Nat) (bs : List Byte) : (s.store a bs).tbs = s.tbs := rfl
@[simp] theorem State.store_tsq (s : State) (a : Nat) (bs : List Byte) : (s.store a bs).tsq = s.tsq := rfl
@[simp] theorem State.store_irqSrc (s : State) (a : Nat) (bs : List Byte) : (s.store a bs).irqSrc = s.irqSrc := rfl
@[simp] theorem State.store_irqTimer (s : State) (a : Nat) (bs : List Byte) : (s.store a bs).irqTimer = s.irqTimer := rfl
@[simp] theorem State.store_irqTgt (s : State) (a : Nat) (bs : List Byte) : (s.store a bs).irqTgt = s.irqTgt := rfl
@[simp] theorem State.store_busMaster (s : State) (a : Nat) (bs : List Byte) : (s.store a bs).busMaster = s.busMaster := rfl
@[simp] theorem State.store_msixEnable (s : State) (a : Nat) (bs : List Byte) : (s.store a bs).msixEnable = s.msixEnable := rfl
@[simp] theorem State.store_functionMask (s : State) (a : Nat) (bs : List Byte) : (s.store a bs).functionMask = s.functionMask := rfl

/-! ## Steps of the free values and the outside -/

@[simp] theorem State.useFree_regs (s : State) : s.useFree.regs = s.regs := rfl
@[simp] theorem State.useFree_mem (s : State) : s.useFree.mem = s.mem := rfl
@[simp] theorem State.useFree_free (s : State) : s.useFree.free = s.free + 1 := rfl
@[simp] theorem State.emit_regs (s : State) (o : Out) : (s.emit o).regs = s.regs := rfl
@[simp] theorem State.emit_mem (s : State) (o : Out) : (s.emit o).mem = s.mem := rfl
@[simp] theorem State.emit_out (s : State) (o : Out) : (s.emit o).out = s.out ++ [o] := rfl
@[simp] theorem State.ended_pending (s t : State) : (s.ended t).pending = s.pending := rfl
@[simp] theorem State.ended_ns (s t : State) : (s.ended t).ns = s.ns := rfl

/-! ## A condition -/

@[simp] theorem State.cond_true (s : State) (f : State → State) : s.cond true f = f s := rfl
@[simp] theorem State.cond_false (s : State) (f : State → State) : s.cond false f = s := rfl

end Sys2Proof.Machine
end

