-- ==== Sys2Proof/Laws/Table.lean ====
section
/-! SUPPORT. Laws of sparse tables: a read after a write, and that every operation keeps the canonical form. -/

namespace Sys2Proof.Tbl

variable {α : Type}

theorem get_del_same (d : Nat → α) (t : List (Nat × α)) (k : Nat) : get d (del t k) k = d k := by
  induction t with
  | nil => rfl
  | cons e t ih =>
    obtain ⟨a, v⟩ := e
    simp only [del, List.filter_cons] at ih ⊢
    by_cases h : a = k
    · simp [h, ih]
    · simp [h, get, ih, Ne.symm h]

theorem get_del_other (d : Nat → α) (t : List (Nat × α)) (k j : Nat) (h : j ≠ k) : get d (del t k) j = get d t j := by
  induction t with
  | nil => rfl
  | cons e t ih =>
    obtain ⟨a, v⟩ := e
    simp only [del, List.filter_cons] at ih ⊢
    by_cases ha : a = k
    · simp [ha, ih, get, h]
    · simp [ha, get, ih]

theorem get_ins_same (d : Nat → α) (t : List (Nat × α)) (k : Nat) (v : α) (h : ∀ e ∈ t, e.1 ≠ k) :
    get d (ins k v t) k = v := by
  induction t with
  | nil => simp [ins, get]
  | cons e t ih =>
    obtain ⟨a, w⟩ := e
    have ha : a ≠ k := h (a, w) (by simp)
    by_cases hk : k < a
    · simp [ins, hk, get]
    · simp [ins, hk, get, Ne.symm ha, ih (fun e he => h e (by simp [he]))]

theorem get_ins_other (d : Nat → α) (t : List (Nat × α)) (k j : Nat) (v : α) (h : j ≠ k) :
    get d (ins k v t) j = get d t j := by
  induction t with
  | nil => simp [ins, get, h]
  | cons e t ih =>
    obtain ⟨a, w⟩ := e
    by_cases hk : k < a
    · simp [ins, hk, get, h]
    · simp [ins, hk, get, ih]

theorem ne_of_mem_del (t : List (Nat × α)) (k : Nat) : ∀ e ∈ del t k, e.1 ≠ k := by
  intro e he
  simpa using (List.mem_filter.mp he).2

/-- Keys that `clear` names read as unlisted ones do; the others read as before. -/
theorem get_clear (d : Nat → α) (p : Nat → Bool) (t : List (Nat × α)) (j : Nat) :
    get d (clear p t) j = if p j then d j else get d t j := by
  induction t with
  | nil => simp [clear, get]
  | cons e t ih =>
    obtain ⟨a, v⟩ := e
    simp only [clear, List.filter_cons] at ih ⊢
    by_cases ha : p a
    · by_cases hj : j = a
      · subst hj; simp [ha, ih]
      · simp [ha, ih, get, hj]
    · by_cases hj : j = a
      · subst hj; simp [ha, get]
      · simp [ha, get, hj, ih]

section
variable [DecidableEq α]

/-- A key reads as what was written to it. -/
@[simp] theorem get_set_same (d : Nat → α) (t : List (Nat × α)) (k : Nat) (v : α) : get d (set d t k v) k = v := by
  unfold set
  split
  · next h => rw [get_del_same, h]
  · exact get_ins_same d _ k v (ne_of_mem_del t k)

/-- Every other key reads as before. -/
theorem get_set_other (d : Nat → α) (t : List (Nat × α)) (k j : Nat) (v : α) (h : j ≠ k) :
    get d (set d t k v) j = get d t j := by
  unfold set
  split
  · exact get_del_other d t k j h
  · rw [get_ins_other d _ k j v h, get_del_other d t k j h]

theorem get_set (d : Nat → α) (t : List (Nat × α)) (k j : Nat) (v : α) :
    get d (set d t k v) j = if j = k then v else get d t j := by
  split
  · next h => rw [h, get_set_same]
  · next h => exact get_set_other d t k j v h

/-- Consecutive keys read as the values written to them. -/
theorem get_setAll (d : Nat → α) (vs : List α) (t : List (Nat × α)) (k j : Nat) :
    get d (setAll d t k vs) j =
      if h : k ≤ j ∧ j - k < vs.length then vs[j - k]'h.2 else get d t j := by
  induction vs generalizing t k with
  | nil => simp [setAll]
  | cons v vs ih =>
    rw [setAll, ih, get_set]
    by_cases hj : j = k
    · subst hj; simp
    · by_cases h : k + 1 ≤ j ∧ j - (k + 1) < vs.length
      · have h' : k ≤ j ∧ j - k < (v :: vs).length := by simp; omega
        rw [dif_pos h, dif_pos h']
        have e : j - k = (j - (k + 1)) + 1 := by omega
        simp [e]
      · have h' : ¬ (k ≤ j ∧ j - k < (v :: vs).length) := by simp; omega
        rw [dif_neg h, dif_neg h', if_neg hj]

end

/-! ## The canonical form -/

theorem wf_nil (d : Nat → α) : Wf d [] := by simp [Wf]

theorem wf_filter (d : Nat → α) (p : Nat × α → Bool) {t : List (Nat × α)} (h : Wf d t) : Wf d (t.filter p) :=
  ⟨h.1.filter _, fun e he => h.2 e (List.mem_of_mem_filter he)⟩

theorem wf_del (d : Nat → α) {t : List (Nat × α)} (k : Nat) (h : Wf d t) : Wf d (del t k) := wf_filter d _ h

theorem wf_clear (d : Nat → α) (p : Nat → Bool) {t : List (Nat × α)} (h : Wf d t) : Wf d (clear p t) := wf_filter d _ h

theorem mem_ins {e : Nat × α} {k : Nat} {v : α} {t : List (Nat × α)} : e ∈ ins k v t ↔ e = (k, v) ∨ e ∈ t := by
  induction t with
  | nil => simp [ins]
  | cons a t ih =>
    obtain ⟨a, w⟩ := a
    by_cases h : k < a
    · simp [ins, h]
    · simp only [ins, h, if_false, List.mem_cons, ih]
      constructor
      · rintro (h | h | h) <;> simp [h]
      · rintro (h | h | h) <;> simp [h]

theorem wf_ins (d : Nat → α) {t : List (Nat × α)} (k : Nat) (v : α) (hv : v ≠ d k) (hk : ∀ e ∈ t, e.1 ≠ k) (h : Wf d t) :
    Wf d (ins k v t) := by
  refine ⟨?_, fun e he => ?_⟩
  · induction t with
    | nil => simp [ins]
    | cons a t ih =>
      obtain ⟨a, w⟩ := a
      have ha : a ≠ k := hk (a, w) (by simp)
      have hp := List.pairwise_cons.mp h.1
      by_cases hlt : k < a
      · simp only [ins, hlt, if_true]
        refine List.pairwise_cons.mpr ⟨fun e he => ?_, h.1⟩
        rcases List.mem_cons.mp he with rfl | he
        · exact hlt
        · exact Nat.lt_trans hlt (hp.1 e he)
      · simp only [ins, hlt, if_false]
        refine List.pairwise_cons.mpr ⟨fun e he => ?_, ih (fun e he => hk e (by simp [he])) ⟨hp.2, fun e he => h.2 e (by simp [he])⟩⟩
        rcases mem_ins.mp he with rfl | he
        · exact Nat.lt_of_le_of_ne (Nat.le_of_not_lt hlt) ha
        · exact hp.1 e he
  · rcases mem_ins.mp he with rfl | he
    · exact hv
    · exact h.2 e he

/-- A write keeps the canonical form. -/
theorem wf_set [DecidableEq α] (d : Nat → α) {t : List (Nat × α)} (k : Nat) (v : α) (h : Wf d t) : Wf d (set d t k v) := by
  unfold set
  split
  · exact wf_del d k h
  · next hv => exact wf_ins d k v hv (ne_of_mem_del t k) (wf_del d k h)

theorem wf_setAll [DecidableEq α] (d : Nat → α) (vs : List α) {t : List (Nat × α)} (k : Nat) (h : Wf d t) :
    Wf d (setAll d t k vs) := by
  induction vs generalizing t k with
  | nil => exact h
  | cons v vs ih => exact ih (k + 1) (wf_set d k v h)

end Sys2Proof.Tbl
end

