-- ==== Sys2Proof/Laws/Regs.lean ====
section
/-! SUPPORT. Laws of registers and fields: a read after a write, and that every write keeps the canonical form. -/

namespace Sys2Proof.Machine

/-! ## Bits of a number -/

/-- Bits `hi` to `lo` of a number below `2 ^ 32` split it in three. -/
theorem bits_split (v hi lo : Nat) (hl : lo ≤ hi) :
    v = v / 2 ^ (hi + 1) * 2 ^ (hi + 1) + bitsOf v hi lo * 2 ^ lo + v % 2 ^ lo := by
  have e : 2 ^ (hi + 1) = 2 ^ lo * 2 ^ (hi + 1 - lo) := by rw [← Nat.pow_add]; congr 1; omega
  have h1 := Nat.div_add_mod v (2 ^ lo)
  have h2 := Nat.div_add_mod (v / 2 ^ lo) (2 ^ (hi + 1 - lo))
  have h3 : v / 2 ^ (hi + 1) = v / 2 ^ lo / 2 ^ (hi + 1 - lo) := by rw [e, Nat.div_div_eq_div_mul]
  unfold bitsOf
  rw [h3, e]
  generalize hq : v / 2 ^ lo / 2 ^ (hi + 1 - lo) = q at *
  generalize hr : v / 2 ^ lo % 2 ^ (hi + 1 - lo) = r at *
  generalize hd : v / 2 ^ lo = d at *
  generalize hB : 2 ^ (hi + 1 - lo) = B at *
  generalize hA : 2 ^ lo = A at *
  generalize v % A = m at *
  calc v = A * d + m := h1.symm
    _ = A * (B * q + r) + m := by rw [h2]
    _ = q * (A * B) + r * A + m := by ring

/-- A number below `2 ^ lo`, `x` from bit `lo` on and `q` from bit `hi + 1` on, read by bits. -/
theorem bitsOf_parts (q x m hi lo : Nat) (hl : lo ≤ hi) (hx : x < 2 ^ (hi + 1 - lo)) (hm : m < 2 ^ lo) :
    bitsOf (q * 2 ^ (hi + 1) + x * 2 ^ lo + m) hi lo = x := by
  have e : 2 ^ (hi + 1) = 2 ^ lo * 2 ^ (hi + 1 - lo) := by rw [← Nat.pow_add]; congr 1; omega
  unfold bitsOf
  have h : q * 2 ^ (hi + 1) + x * 2 ^ lo + m = 2 ^ lo * (2 ^ (hi + 1 - lo) * q + x) + m := by rw [e]; ring
  rw [h, Nat.mul_add_div (Nat.two_pow_pos lo), Nat.div_eq_of_lt hm, Nat.add_zero, Nat.mul_add_mod, Nat.mod_eq_of_lt hx]

/-- The number that `fieldPut` makes. -/
theorem fieldPut_toNat (w : W32) (hi lo v : Nat) (hl : lo ≤ hi) (hh : hi < 32) :
    (fieldPut w hi lo v).toNat = w.toNat / 2 ^ (hi + 1) * 2 ^ (hi + 1) + v % 2 ^ (hi + 1 - lo) * 2 ^ lo + w.toNat % 2 ^ lo := by
  have hs := bits_split w.toNat hi lo hl
  have e : 2 ^ (hi + 1) = 2 ^ (hi + 1 - lo) * 2 ^ lo := by rw [← Nat.pow_add]; congr 1; omega
  have hb : w.toNat < 2 ^ 32 := w.isLt
  have hp : 2 ^ 32 = 2 ^ (31 - hi) * 2 ^ (hi + 1) := by rw [← Nat.pow_add]; congr 1; omega
  have hq : w.toNat / 2 ^ (hi + 1) < 2 ^ (31 - hi) := by
    rw [Nat.div_lt_iff_lt_mul (Nat.two_pow_pos _), ← hp]; exact hb
  have hv : v % 2 ^ (hi + 1 - lo) < 2 ^ (hi + 1 - lo) := Nat.mod_lt _ (Nat.two_pow_pos _)
  have hm : w.toNat % 2 ^ lo < 2 ^ lo := Nat.mod_lt _ (Nat.two_pow_pos _)
  have hvm : v % 2 ^ (hi + 1 - lo) * 2 ^ lo + w.toNat % 2 ^ lo < 2 ^ (hi + 1) := by
    rw [e]
    calc v % 2 ^ (hi + 1 - lo) * 2 ^ lo + w.toNat % 2 ^ lo < v % 2 ^ (hi + 1 - lo) * 2 ^ lo + 2 ^ lo := by omega
      _ = (v % 2 ^ (hi + 1 - lo) + 1) * 2 ^ lo := by ring
      _ ≤ 2 ^ (hi + 1 - lo) * 2 ^ lo := Nat.mul_le_mul_right _ hv
  have hlt : w.toNat / 2 ^ (hi + 1) * 2 ^ (hi + 1) + v % 2 ^ (hi + 1 - lo) * 2 ^ lo + w.toNat % 2 ^ lo < 2 ^ 32 := by
    rw [hp, Nat.add_assoc]
    calc w.toNat / 2 ^ (hi + 1) * 2 ^ (hi + 1) + (v % 2 ^ (hi + 1 - lo) * 2 ^ lo + w.toNat % 2 ^ lo)
        < w.toNat / 2 ^ (hi + 1) * 2 ^ (hi + 1) + 2 ^ (hi + 1) := by omega
      _ = (w.toNat / 2 ^ (hi + 1) + 1) * 2 ^ (hi + 1) := by ring
      _ ≤ 2 ^ (31 - hi) * 2 ^ (hi + 1) := Nat.mul_le_mul_right _ hq
  have h : w.toNat - fieldGet w hi lo * 2 ^ lo + v % 2 ^ (hi + 1 - lo) * 2 ^ lo =
      w.toNat / 2 ^ (hi + 1) * 2 ^ (hi + 1) + v % 2 ^ (hi + 1 - lo) * 2 ^ lo + w.toNat % 2 ^ lo := by
    unfold fieldGet
    omega
  unfold fieldPut
  rw [h, BitVec.toNat_ofNat, Nat.mod_eq_of_lt hlt]

/-- A field reads as what was put into it. -/
theorem fieldGet_fieldPut (w : W32) (hi lo v : Nat) (hl : lo ≤ hi) (hh : hi < 32) :
    fieldGet (fieldPut w hi lo v) hi lo = v % 2 ^ (hi + 1 - lo) := by
  unfold fieldGet
  rw [fieldPut_toNat w hi lo v hl hh]
  exact bitsOf_parts _ _ _ _ _ hl (Nat.mod_lt _ (Nat.two_pow_pos _)) (Nat.mod_lt _ (Nat.two_pow_pos _))

/-- A field above the one written reads as before. -/
theorem fieldGet_fieldPut_above (w : W32) (hi lo v h l : Nat) (hl : lo ≤ hi) (hh : hi < 32) (hd : hi < l) :
    fieldGet (fieldPut w hi lo v) h l = fieldGet w h l := by
  unfold fieldGet
  rw [fieldPut_toNat w hi lo v hl hh]
  have e : 2 ^ l = 2 ^ (hi + 1) * 2 ^ (l - (hi + 1)) := by rw [← Nat.pow_add]; congr 1; omega
  have e2 : 2 ^ (hi + 1) = 2 ^ (hi + 1 - lo) * 2 ^ lo := by rw [← Nat.pow_add]; congr 1; omega
  have hv : v % 2 ^ (hi + 1 - lo) < 2 ^ (hi + 1 - lo) := Nat.mod_lt _ (Nat.two_pow_pos _)
  have hm : w.toNat % 2 ^ lo < 2 ^ lo := Nat.mod_lt _ (Nat.two_pow_pos _)
  have hvm : v % 2 ^ (hi + 1 - lo) * 2 ^ lo + w.toNat % 2 ^ lo < 2 ^ (hi + 1) := by
    rw [e2]
    calc v % 2 ^ (hi + 1 - lo) * 2 ^ lo + w.toNat % 2 ^ lo < v % 2 ^ (hi + 1 - lo) * 2 ^ lo + 2 ^ lo := by omega
      _ = (v % 2 ^ (hi + 1 - lo) + 1) * 2 ^ lo := by ring
      _ ≤ 2 ^ (hi + 1 - lo) * 2 ^ lo := Nat.mul_le_mul_right _ hv
  unfold bitsOf
  congr 1
  rw [e, ← Nat.div_div_eq_div_mul, ← Nat.div_div_eq_div_mul]
  congr 1
  rw [Nat.add_assoc, Nat.mul_comm, Nat.mul_add_div (Nat.two_pow_pos _), Nat.div_eq_of_lt hvm, Nat.add_zero]

/-- A field below the one written reads as before. -/
theorem fieldGet_fieldPut_below (w : W32) (hi lo v h l : Nat) (hl : lo ≤ hi) (hh : hi < 32) (hd : h < lo) (hhl : l ≤ h) :
    fieldGet (fieldPut w hi lo v) h l = fieldGet w h l := by
  unfold fieldGet bitsOf
  rw [fieldPut_toNat w hi lo v hl hh]
  have e : 2 ^ lo = 2 ^ l * 2 ^ (h + 1 - l) * 2 ^ (lo - (h + 1)) := by rw [← Nat.pow_add, ← Nat.pow_add]; congr 1; omega
  have e2 : 2 ^ (hi + 1) = 2 ^ (hi + 1 - lo) * 2 ^ lo := by rw [← Nat.pow_add]; congr 1; omega
  have hk : ∀ n : Nat, n / 2 ^ l % 2 ^ (h + 1 - l) = n % 2 ^ lo / 2 ^ l % 2 ^ (h + 1 - l) := by
    intro n
    have hd1 := Nat.div_add_mod n (2 ^ lo)
    have : n / 2 ^ l = 2 ^ (h + 1 - l) * (2 ^ (lo - (h + 1)) * (n / 2 ^ lo)) + n % 2 ^ lo / 2 ^ l := by
      conv_lhs => rw [← hd1]
      rw [show 2 ^ lo * (n / 2 ^ lo) = 2 ^ l * (2 ^ (h + 1 - l) * (2 ^ (lo - (h + 1)) * (n / 2 ^ lo))) by
        generalize n / 2 ^ lo = q
        rw [e]
        ring]
      rw [Nat.mul_add_div (Nat.two_pow_pos _)]
    rw [this, Nat.mul_add_mod]
  rw [hk, hk w.toNat]
  congr 2
  rw [e2, show w.toNat / (2 ^ (hi + 1 - lo) * 2 ^ lo) * (2 ^ (hi + 1 - lo) * 2 ^ lo) + v % 2 ^ (hi + 1 - lo) * 2 ^ lo + w.toNat % 2 ^ lo
    = 2 ^ lo * (w.toNat / (2 ^ (hi + 1 - lo) * 2 ^ lo) * 2 ^ (hi + 1 - lo) + v % 2 ^ (hi + 1 - lo)) + w.toNat % 2 ^ lo by ring]
  rw [Nat.mul_add_mod, Nat.mod_mod]

/-! ## Registers -/

@[simp] theorem State.rd_wr_same (s : State) (a : Nat) (v : W32) : (s.wr a v).rd a = v := Tbl.get_set_same _ _ _ _

theorem State.rd_wr_other (s : State) (a b : Nat) (v : W32) (h : b ≠ a) : (s.wr a v).rd b = s.rd b :=
  Tbl.get_set_other _ _ _ _ _ h

/-- A field reads as what it was set to. -/
theorem State.get_set_same (s : State) (f : Fld) (v : Nat) (hl : f.lo ≤ f.hi) (hh : f.hi < 32) :
    (s.set f v).get f = v % 2 ^ (f.hi + 1 - f.lo) := by
  unfold State.get State.set
  rw [State.rd_wr_same]
  exact fieldGet_fieldPut _ _ _ _ hl hh

/-- A field of another register reads as before. -/
theorem State.get_set_other (s : State) (f g : Fld) (v : Nat) (h : g.addr ≠ f.addr) : (s.set f v).get g = s.get g := by
  unfold State.get State.set
  rw [State.rd_wr_other _ _ _ _ h]

/-- A field of the same register that shares no bit with the one set reads as before. -/
theorem State.get_set_apart (s : State) (f g : Fld) (v : Nat) (hl : f.lo ≤ f.hi) (hh : f.hi < 32) (gl : g.lo ≤ g.hi)
    (h : g.hi < f.lo ∨ f.hi < g.lo) : (s.set f v).get g = s.get g := by
  by_cases ha : g.addr = f.addr
  · unfold State.get State.set
    rw [ha, State.rd_wr_same]
    rcases h with h | h
    · exact fieldGet_fieldPut_below _ _ _ _ _ _ hl hh h gl
    · exact fieldGet_fieldPut_above _ _ _ _ _ _ hl hh h
  · exact s.get_set_other f g v ha

/-! ## The canonical form -/

theorem State.wr_canonical {s : State} (a : Nat) (v : W32) (h : s.Canonical) : (s.wr a v).Canonical :=
  ⟨Tbl.wf_set _ _ _ h.1, h.2⟩

theorem State.set_canonical {s : State} (f : Fld) (v : Nat) (h : s.Canonical) : (s.set f v).Canonical :=
  s.wr_canonical _ _ h

theorem State.resetRange_canonical {s : State} (lo hi : Nat) (h : s.Canonical) : (s.resetRange lo hi).Canonical :=
  ⟨Tbl.wf_clear resetWord (fun a => lo ≤ a && a < hi) h.1, h.2⟩

end Sys2Proof.Machine
end

