-- ==== Sys2Proof/Laws/Memory.lean ====
section
/-! SUPPORT. Laws of memory: a read after a write, and that every access keeps the canonical form. -/

namespace Sys2Proof.Machine

/-! ## Bytes -/

/-- Outside the boot ROM a byte reads as it was stored, and every byte outside the stored range as before. -/
theorem State.byte_store (s : State) (a : Nat) (bs : List Byte) (b : Nat) :
    (s.store a bs).byte b =
      if h : romSize ≤ b ∧ a ≤ b ∧ b - a < bs.length then bs[b - a]'h.2.2 else s.byte b := by
  unfold State.byte State.store
  rw [Tbl.get_setAll]
  by_cases hr : b < romSize
  · have : ¬ (romSize ≤ b ∧ a ≤ b ∧ b - a < bs.length) := by omega
    simp [hr, this]
  · by_cases h : a ≤ b ∧ b - a < bs.length
    · have h' : romSize ≤ b ∧ a ≤ b ∧ b - a < bs.length := ⟨by omega, h⟩
      simp [hr, h, h']
    · have h' : ¬ (romSize ≤ b ∧ a ≤ b ∧ b - a < bs.length) := by omega
      rw [if_neg hr, if_neg hr, dif_neg h, dif_neg h']

theorem State.store_wf {s : State} (a : Nat) (bs : List Byte) (h : Memory.wf s.mem) : Memory.wf (s.store a bs).mem :=
  Tbl.wf_setAll _ bs a h

/-! ## What the checks of an access leave -/

@[simp] theorem State.cond_mem (s : State) (b : Bool) (f : State → State) (h : ∀ s, (f s).mem = s.mem) :
    (s.cond b f).mem = s.mem := by
  cases b <;> simp [State.cond, h]

@[simp] theorem State.raise_mem (s : State) (f : Fld) : (s.raise f).mem = s.mem := rfl
@[simp] theorem State.drop_mem (s : State) (f : Fld) : (s.drop f).mem = s.mem := rfl
@[simp] theorem State.inc_mem (s : State) (f : Fld) : (s.inc f).mem = s.mem := rfl
@[simp] theorem State.put_mem (s : State) (f : Fld) (b : Bool) : (s.put f b).mem = s.mem := rfl

@[simp] theorem State.detectWith_mem (s : State) (inj : Bool) (code unit detail : Nat) :
    (s.detectWith inj code unit detail).mem = s.mem := by
  unfold State.detectWith
  dsimp only
  split <;> rfl

@[simp] theorem State.injSpend_mem (s : State) (d unit : Nat) : (s.injSpend d unit).mem = s.mem := by
  unfold State.injSpend
  split <;> rfl

@[simp] theorem State.recordRefusalWith_mem (s : State) (inj : Bool) (master a size : Nat) (write : Bool) (reason : Nat) :
    (s.recordRefusalWith inj master a size write reason).mem = s.mem := by
  unfold State.recordRefusalWith
  dsimp only
  split
  · rfl
  · rw [State.detectWith_mem, State.raise_mem, State.setWord_mem, State.setWord_mem, State.setWord_mem, State.inc_mem]

@[simp] theorem State.tagError_mem (s : State) (inj : Bool) (page : Nat) : (s.tagError inj page).mem = s.mem := by
  unfold State.tagError
  dsimp only
  split
  · rfl
  · rw [State.detectWith_mem, State.inc_mem]

@[simp] theorem State.tagPoint_mem (s : State) (a : Nat) : (s.tagPoint a).mem = s.mem := by
  unfold State.tagPoint
  split
  · exact (State.tagError_mem _ _ _).trans (State.injSpend_mem _ _ _)
  · rfl

@[simp] theorem State.wakeHbm_mem (s : State) (a : Nat) : (s.wakeHbm a).mem = s.mem := by
  unfold State.wakeHbm
  split
  · rfl
  · dsimp only
    split <;> rfl

@[simp] theorem State.checked_mem (s : State) (master a size : Nat) (write : Bool) :
    (s.checked master a size write).2.mem = s.mem := by
  unfold State.checked
  extract_lets inj t
  have ht : t.mem = s.mem := (State.tagPoint_mem _ _).trans (State.injSpend_mem _ _ _)
  split
  · exact (State.recordRefusalWith_mem _ _ _ _ _ _ _).trans ht
  · split
    · exact (State.recordRefusalWith_mem _ _ _ _ _ _ _).trans ht
    · exact (State.wakeHbm_mem _ _).trans ht

/-! ## Accesses keep the canonical form -/

@[simp] theorem State.correct_mem (s : State) (inj : Bool) (a : Nat) : (s.correct inj a).mem = s.mem := by
  unfold State.correct
  dsimp only
  rw [State.detectWith_mem, State.raise_mem, State.setWord_mem, State.setWord_mem, State.inc_mem]

@[simp] theorem State.uncorrectable_mem (s : State) (inj : Bool) (a : Nat) : (s.uncorrectable inj a).mem = s.mem := by
  unfold State.uncorrectable
  dsimp only
  rw [State.detectWith_mem, State.raise_mem, State.setWord_mem, State.setWord_mem, State.inc_mem]

theorem foldl_mem {α : Type} (f : State → α → State) (h : ∀ s x, (f s x).mem = s.mem) (l : List α) (s : State) :
    (l.foldl f s).mem = s.mem := by
  induction l generalizing s with
  | nil => rfl
  | cons x l ih => rw [List.foldl_cons, ih, h]

@[simp] theorem State.scanCodes_mem (s : State) (a n : Nat) (ue ce : Bool) : (s.scanCodes a n ue ce).2.mem = s.mem := by
  unfold State.scanCodes
  split
  · exact State.uncorrectable_mem _ _ _
  · split
    · exact State.uncorrectable_mem _ _ _
    · dsimp only
      rw [State.cond_mem _ _ _ (fun s => s.correct_mem _ _), foldl_mem _ (fun s w => s.correct_mem _ _)]

@[simp] theorem State.readCodes_mem (s : State) (a n : Nat) : (s.readCodes a n).2.mem = s.mem := by
  unfold State.readCodes
  split
  · rfl
  · exact (State.scanCodes_mem _ _ _ _ _).trans ((State.injSpend_mem _ _ _).trans (State.injSpend_mem _ _ _))

theorem foldl_pair {β α : Type} (P : State → Prop) (f : β × State → α → β × State) (h : ∀ p x, P p.2 → P (f p x).2)
    (l : List α) (p : β × State) (hp : P p.2) : P (l.foldl f p).2 := by
  induction l generalizing p with
  | nil => exact hp
  | cons x l ih => exact ih _ (h p x hp)

/-- The read-modify-write of a partial write changes no byte of its own. -/
@[simp] theorem State.mergeCodes_mem (s : State) (a n : Nat) : (s.mergeCodes a n).2.mem = s.mem := by
  unfold State.mergeCodes
  refine foldl_pair (fun t => t.mem = s.mem) _ (fun p x hp => ?_) _ _ rfl
  exact (p.2.scanCodes_mem _ _ _ _).trans hp

@[simp] theorem State.fetched_mem (s : State) (a n : Nat) : (s.fetched a n).2.mem = s.mem := by
  unfold State.fetched
  split <;> rfl

/-- A read changes no byte of memory. -/
@[simp] theorem State.readOne_mem (s : State) (master a n : Nat) : (s.readOne master a n).2.mem = s.mem := by
  have hc := s.checked_mem master a n false
  unfold State.readOne
  split
  · next h => rw [h] at hc; exact hc
  · next t h =>
    rw [h] at hc
    have hr := t.readCodes_mem a n
    dsimp only
    split
    · exact hr.trans hc
    · exact ((State.fetched_mem _ _ _).trans hr).trans hc

/-- A write stores its bytes, or none where it is refused. -/
theorem State.writeOne_mem (s : State) (master a : Nat) (bs : List Byte) :
    (s.writeOne master a bs).2.mem =
      if (s.writeOne master a bs).1.refused then s.mem else (s.store a bs).mem := by
  unfold State.writeOne
  have hc := s.checked_mem master a bs.length true
  split
  · next h => rw [h] at hc; simpa using hc
  · next t h =>
    rw [h] at hc
    have hu : (if bs.isEmpty then (false, t) else t.mergeCodes a bs.length).2.mem = s.mem := by
      split
      · exact hc
      · exact (t.mergeCodes_mem _ _).trans hc
    simp only [Bool.false_eq_true, if_false]
    show Tbl.setAll _ (if bs.isEmpty then (false, t) else t.mergeCodes a bs.length).2.mem a bs = Tbl.setAll _ s.mem a bs
    rw [hu]

theorem State.writeOne_wf {s : State} (master a : Nat) (bs : List Byte) (h : Memory.wf s.mem) :
    Memory.wf (s.writeOne master a bs).2.mem := by
  rw [s.writeOne_mem]
  split
  · exact h
  · exact s.store_wf a bs h

/-- A transfer of any length keeps the canonical form. -/
theorem State.dmaWrite_wf {s : State} (master a : Nat) (bs : List Byte) (h : Memory.wf s.mem) :
    Memory.wf (s.dmaWrite master a bs).2.mem := by
  unfold State.dmaWrite
  refine foldl_pair (fun s => Memory.wf s.mem) _ (fun p x hp => ?_) _ _ h
  obtain ⟨x0, t⟩ := p
  obtain ⟨b, k⟩ := x
  simp only
  split
  · exact hp
  · exact State.writeOne_wf _ _ _ hp

/-- A transfer that reads changes no byte. -/
theorem State.dmaRead_mem (s : State) (master a n : Nat) : (s.dmaRead master a n).2.mem = s.mem := by
  unfold State.dmaRead
  refine foldl_pair (fun t => t.mem = s.mem) _ (fun p x hp => ?_) _ _ rfl
  obtain ⟨x0, t⟩ := p
  obtain ⟨b, k⟩ := x
  simp only
  split
  · exact hp
  · exact (t.readOne_mem _ _ _).trans hp

/-- An access of a master, whole or in pieces, keeps the canonical form. -/
theorem State.masterWrite_wf {s : State} (master a : Nat) (bs : List Byte) (h : Memory.wf s.mem) :
    Memory.wf (s.masterWrite master a bs).2.mem := by
  unfold State.masterWrite
  split
  · exact State.writeOne_wf _ _ _ h
  · exact State.dmaWrite_wf _ _ _ h

@[simp] theorem State.masterRead_mem (s : State) (master a n : Nat) : (s.masterRead master a n).2.mem = s.mem := by
  unfold State.masterRead
  split
  · exact s.readOne_mem _ _ _
  · exact s.dmaRead_mem _ _ _

end Sys2Proof.Machine
end

