-- ==== Sys2Proof/Laws/Commands.lean ====
section
/-! SUPPORT. What the forms of the commands do: an event, a permitted write and a read, and that every command ends in the next
state. -/

namespace Sys2Proof.Machine

/-- A request is a write by the same master. -/
@[simp] theorem asking_master (w : Wr) (f : Fld) (v : Nat) : (asking w f v).master = w.master := rfl

/-- A permitted write reaches its effect. -/
theorem State.onWrite_permits {s : State} {w : Wr} {r : RegAt} (v : Wr) (act : State → State) (hv : v.master = w.master)
    (h : s.permits w r = true) : s.onWrite true r.addr v act = act (s.accepted w.master r.addr) := by
  simp only [State.permits, Bool.and_eq_true, Bool.not_eq_true'] at h
  obtain ⟨⟨⟨hr, hc⟩, -⟩, -⟩ := h
  have hn : s.inReset.isSome = false := by
    cases hs : s.inReset <;> simp_all
  unfold State.onWrite State.busWrite State.accepted
  rw [if_pos rfl, hn, hv]
  rcases hk : s.checked w.master r.addr 4 true with ⟨b, t⟩
  rw [hk] at hc
  cases hc
  rfl

/-- A command whose meaning is a write of a register serves that write. -/
theorem State.serves {s : State} {c : Instr} {v w : Wr} {r : RegAt} {a : Nat} {ok : Bool} {act : State → State}
    (hc : exec c s = s.ends (s.onWrite ok a v act)) (hok : ok = true) (ha : a = r.addr) (hv : v.master = w.master) :
    s.Serves c w r act := by
  intro h
  subst hok ha
  rw [hc, State.onWrite_permits v act hv h]
  rfl

/-- The same for a request of a field. -/
theorem State.serves_asking {s : State} {c : Instr} {v : Wr} {f : Fld} {x : Nat} {r : RegAt} {a : Nat} {ok : Bool}
    {act : State → State} (hc : exec c s = s.ends (s.onWrite ok a v act)) (hok : ok = true) (ha : a = r.addr) :
    s.Serves c (asking v f x) r act :=
  State.serves hc hok ha (asking_master v f x).symm

/-- A command whose meaning is an event takes it while the part runs. -/
theorem State.takes {s : State} {c : Instr} {ok : Bool} {act : State → State}
    (hc : exec c s = s.ends (s.event ok act)) (hok : ok = true) : s.Takes c act := by
  intro h
  rw [hc]
  unfold State.event
  rw [hok, h]
  rfl

/-- The addresses of control space. -/
theorem spaceOf_cspace {a : Nat} (h1 : 0x40000000 ≤ a) (h2 : a < 0x50000000) : spaceOf a = .cspace := by
  unfold spaceOf romSize sramBase awnBase cspaceBase
  rw [if_neg (by omega), if_neg (by omega), if_neg (by omega), if_pos (by omega)]

/-- A read that the checker lets through answers the register's value. -/
theorem State.softRead_word {s : State} {master a : Nat} (hr : s.inReset = none) (hs : spaceOf a = .cspace) (h4 : a % 4 = 0)
    (hc : (s.checked master a 4 false).1 = false) :
    ∃ v t, (s.checked master a 4 false).2.readWord master a = (v, t) ∧
      s.softRead master a 4 = { t with resp := some ⟨bytesLE 4 v.toNat, false⟩ } := by
  rcases hk : s.checked master a 4 false with ⟨b, u⟩
  rw [hk] at hc
  cases hc
  rcases hw : u.readWord master a with ⟨v, t⟩
  refine ⟨v, t, rfl, ?_⟩
  have h1 : a / 4 * 4 = a := by omega
  have h2 : wordsOf a 4 = 1 := by unfold wordsOf; omega
  have h3 : (u.readWords master a 1) = (bytesLE 4 v.toNat, t) := by
    unfold State.readWords State.readWords
    rw [hw]
    rfl
  unfold State.softRead
  rw [hr, hk]
  simp only [hs, ne_eq, not_true, Option.isSome_none, Bool.false_eq_true, or_self, if_false, h1, h2, h3, h4]
  rfl

/-- A command whose meaning is a read answers it. -/
theorem State.reads {s : State} {c : Instr} {master a : Nat} {ok : Bool} (hc : exec c s = s.ends (s.onRead ok master a))
    (hok : ok = true) (hs : spaceOf a = .cspace) (h4 : a % 4 = 0) : s.Reads c master a := by
  intro hr hk
  obtain ⟨v, t, hv, ht⟩ := State.softRead_word hr hs h4 hk
  refine ⟨v, t, hv, ?_⟩
  rw [hc, hok]
  show Host.Outcome.next (s.ended (s.softRead master a 4)) = _
  rw [ht]

/-- An event in reset has no effect. -/
theorem State.event_inReset (s : State) (ok : Bool) (act : State → State) (h : s.inReset.isSome = true) :
    s.event ok act = s := by
  unfold State.event
  have : s.inReset.isNone = false := by cases hs : s.inReset <;> simp_all
  rw [this, Bool.and_false]
  rfl

/-- Every command ends in the next state that its own effect makes. -/
theorem exec_ends (c : Instr) (s : State) : ∃ u, exec c s = .next (s.ended u) := by
  cases c <;> exact ⟨_, rfl⟩

end Sys2Proof.Machine
end

