-- ==== Sys2Proof/Tests/Slice0.lean ====
section
/-! SUPPORT. Tests: what the well-formedness checks refuse, single commands on small states against the spec, and a witness for
every statement that has hypotheses. -/

set_option Elab.async false

namespace Sys2Proof.Tests

open Sys2Proof.Machine

/-! ## Well-formedness -/

def frame0 : LinkFrame := ⟨false, 0, 0, 0, 0, []⟩
def sink0 : SinkFrame := ⟨16, 2, 0, true, 0, 0, [[], []]⟩
def access0 : Access := ⟨0, 0x1000000000, 4, false, [], ⟨[], [], false⟩⟩

/-- One term for each check, ill formed by that check alone. -/
theorem test_ill_formed_terms_are_refused :
    (([.headLatch 32, .ethTxSlot 8, .frameClose 512, .decDrainDone 128, .decWatchdog 16, .shadowBindDone 0 8,
   .spRomLoadDone 64, .mstReallocDone 16, .encDrainDone 64, .encWatchdog 8, .holdoverExpiry 8, .holdoffExpiry 31,
   .claim 12 0, .cveBlockDone 8, .cdrLock 96, .tchScanStart 4, .ccWfi 8, .faultInjectArm 96 ⟨0, 0⟩, .gpioEdge 32 true] ++
  [.i2cTransaction 2 ⟨0, 0⟩, .tjPeakRead 128, .pairLoRead 0 (2 ^ 40), .registerWrite 0 0x40000000 3 0,
   .blockLock .wall 8, .calDone 0x40D80004 true 1, .aonDissent 3, .ethPacketRx 0 ⟨List.replicate 9217 0, true⟩,
   .rxWordRead 0 0 (2 ^ 40), .srcAuxDone 0 4 [], .i2cDone 0 5 [], .shellHealthEval 0x40D80000 16,
   .srcEdidDone 0 (List.replicate 513 0)] ++
  [.video { frame0 with vc := 16 }, .video { frame0 with tag := 4096 }, .video { frame0 with flags := 256 },
   .video { frame0 with payload := List.replicate 1041 0 }, .snkFrameClose 0 { sink0 with height := 3 },
   .memAccess { access0 with size := 0 }, .memAccess { access0 with write := true },
   .memAccess { access0 with addr := 2 ^ 40 }, .lutData1Access 0 (.read 128), .lutData1Access 0 (.write ⟨128, 0⟩)] : List Instr)).all (fun c => !c.wf) = true := by decide +kernel

theorem test_well_formed_terms_pass :
    ([.headLatch 31, .ethPacketRx 7 ⟨[], true⟩, .claim 11 0, .video frame0, .snkFrameClose 7 sink0, .memAccess access0,
      .registerWrite 8 0x40000000 4 0, .shellHealthEval 0x40D80000 15, .gpioEdge 31 true] : List Instr).all (·.wf) = true := by
  decide +kernel

/-! ## Commands on small states -/

/-- What a command makes of a state, under a test. -/
def after (s : State) (c : Instr) (p : State → Bool) : Bool :=
  match exec c s with
  | .next t => p t
  | _ => false

/-- A state with register fields set. -/
def withFields (s : State) (l : List (Fld × Nat)) : State := l.foldl (fun s e => s.set e.1 e.2) s

/-- A state with registers set. -/
def withWords (s : State) (l : List (Nat × Nat)) : State := l.foldl (fun s e => s.setWord e.1 e.2) s

/-- A part that runs with no plan in force. -/
def bare : State := { State.powerOn with inReset := none }

def key (n : Nat) : Wr := ⟨0, BitVec.ofNat 32 (0xA5000000 + n)⟩

/-- R796, R601 of the reset column: the source of a reset by PORn, and LOADED 0 (R118). -/
theorem test_reset_registers :
    State.reset.get F.CLKRST_CAUSE_SOURCE = 1 ∧ State.reset.flag F.PLAN_STATUS_LOADED = false ∧
    State.reset.word R.FLT_WR_CNT = 0 ∧ State.reset.get F.CLKRST_WDOG_CFG_TIMEOUT = 1000 := by decide +kernel

/-- R13: a write of an absent unit's register is ignored, a read answers zero. -/
theorem test_absent_unit :
    after bare (.registerWrite 0 (R.HEAD_CTRL 5) 4 0x1#32) (fun t => t.rd (R.HEAD_CTRL 5) == 0) = true ∧
    after bare (.tolMinRead 5 0) (fun t => t.resp == some ⟨[0, 0, 0, 0], false⟩) = true := by decide +kernel

/-- R25: the low half waits for the high half. -/
theorem test_pair_low_is_held :
    after bare (.registerWrite 0 (R.TB_STEP_LO 0) 4 7#32) (fun t => t.rd (R.TB_STEP_LO 0) == 0) = true := by decide +kernel

theorem test_pair_high_updates_both :
    after { bare with loHeld := [(R.TB_STEP_LO 0, 7#32)] } (.pairHiWrite 0 (R.TB_STEP_HI 0) 9#32)
      (fun t => t.rd (R.TB_STEP_LO 0) == 7 && t.rd (R.TB_STEP_HI 0) == 9) = true := by decide +kernel

/-- R598: SET_NS above 999,999,999 acts as that; a step of -1 ns from zero wraps the seconds. -/
theorem test_set_time :
    after (withWords bare [(R.TB_SET_SEC_LO 0, 2), (R.TB_SET_NS 0, 1073741823)]) (.set 0 (key 1))
      (fun t => t.tbNs 0 == 2999999999 && t.word (R.TB_STEPS 0) == 1) = true := by decide +kernel

theorem test_step_back_wraps :
    after (withWords bare [(R.TB_STEP_LO 0, 0xFFFFFFFF), (R.TB_STEP_HI 0, 0xFFFFFFFF)]) (.stepTb 0 (key 2))
      (fun t => t.tbNs 0 == 2 ^ 48 * 1000000000 - 1) = true := by decide +kernel

/-- R599: a LOCKED time base is not set. -/
theorem test_locked_time_base_is_not_set :
    after (withFields bare [(F.TB_STAT_LOCKED 0, 1)]) (.set 0 (key 1))
      (fun t => t.tbNs 0 == 0 && t.flag (F.TB_EVT_REFUSED_EV 0) && t.due.length == 1) = true := by decide +kernel

/-- R592, R593: a TS clock on an empty queue. -/
theorem test_clock :
    (match step bare with | .next t => t.tbNs 0 == 2 && t.tbNs 7 == 2 | _ => false) = true := by decide +kernel

/-- R633: of two claimable sources of one priority the lower number, before one of lower priority. -/
def claiming : State :=
  let s := withFields bare [(F.IRQ_CFG_PRIORITY 5, 3), (F.IRQ_CFG_PRIORITY 6, 9), (F.IRQ_CFG_PRIORITY 7, 9)]
  [5, 6, 7].foldl (fun s i => s.setSrc i { s.src i with offered := some 11 }) s

theorem test_claim :
    after claiming (.claim 11 0) (fun t => t.resp == some ⟨[6, 0, 9, 0x80], false⟩ && (t.tgt 11).stack == [(6, 9)]) = true := by
  decide +kernel

theorem test_claim_of_the_debug_master_claims_nothing :
    after claiming (.claim 11 9) (fun t => t.resp == some ⟨[6, 0, 9, 0x80], false⟩ && (t.tgt 11).stack == []) = true := by
  decide +kernel

/-- The example of chapter 15: COMPLETE 267 while 20 is on top. -/
theorem test_stack_fault :
    after (bare.setTgt 2 { bare.tgt 2 with stack := [(20, 9), (267, 4)] }) (.complete 2 ⟨2, 267⟩)
      (fun t => (t.tgt 2).frozen && t.word (R.TGT_FAULT_INFO 2) == 2 ^ 31 + 20 * 2 ^ 16 + 267) = true := by decide +kernel

/-- R803, R804: the layout of an entry in slot 255, over an unread one. -/
def due0 : Due :=
  { code := 0x38, unit := 7, detail := 0xABCD, injected := true, ns := 5000, time := 0x123456789ABC, aonTime := true,
    locked := true }

theorem test_ledger_entry :
    after { withWords bare [(R.FLT_WR_CNT, 0xFFFFFFFF), (R.FLT_RD_IDX, 0xFFFFFEFF)] with due := [due0] } .ledgerWrite
      (fun t => t.rd (R.FLT_ENTRY 1020) == 0x56789ABC && t.rd (R.FLT_ENTRY 1021) == 0x38071234 &&
        t.rd (R.FLT_ENTRY 1022) == 0xFFFF0007 && t.rd (R.FLT_ENTRY 1023) == 0xABCD && t.rd R.FLT_WR_CNT == 0 &&
        t.rd R.FLT_LOST == 1 && t.rd R.FLT_RD_IDX == 0xFFFFFF00) = true := by decide +kernel

/-- R806: a second detection 999 ns after the entry of its pair. -/
def repeated : State := { bare with due := [due0], lastEntry := [(0x38 * 65536 + 7, 4002)] }

theorem test_ledger_suppression :
    after repeated .ledgerWrite (fun t => t.rd R.FLT_SUPPRESSED == 1 && t.rd R.FLT_WR_CNT == 0) = true := by decide +kernel

/-- R829: a falling edge of a pin whose trigger is 0b11. -/
theorem test_gpio_fall :
    after (withWords bare [(R.MISC_GPIO_TRIG 1, 0xC0000000), (R.MISC_GPIO_IN, 0x80000000)]) (.gpioEdge 31 false)
      (fun t => t.word R.MISC_GPIO_IN == 0 && (t.src 351).edge) = true := by decide +kernel

/-- R827: bits written with 1 are set, the others stay. -/
theorem test_doorbell :
    after (withWords bare [(R.SYS_DB_SET, 0x8001)]) (.dbSetWrite ⟨3, 0x4001⟩) (fun t => t.word R.SYS_DB_SET == 0xC001) = true := by
  decide +kernel

/-- R798: a kick with another KEY is ignored. -/
theorem test_kick :
    after (withFields bare [(F.CLKRST_STAT_WDOG_FIRST, 1)]) (.wdogKick (key 0)) (fun t => !t.flag F.CLKRST_STAT_WDOG_FIRST) = true ∧
    after (withFields bare [(F.CLKRST_STAT_WDOG_FIRST, 1)]) (.wdogKick ⟨0, 0x5A000000⟩)
      (fun t => t.flag F.CLKRST_STAT_WDOG_FIRST) = true := by decide +kernel

/-- R577: a master whose mask holds no colour writes nothing and reads the pattern. -/
def barred : State := withWords bare [(R.CHK_MASK 0, 0)]
def store0 : Access := { access0 with addr := hbmBase, write := true, data := [1, 2, 3, 4] }

theorem test_refused_write :
    after barred (.memAccess store0) (fun t => t.mem == [] && t.resp == some ⟨[], true⟩) = true := by decide +kernel

theorem test_refused_read :
    after barred (.memAccess { store0 with write := false })
      (fun t => t.resp == some ⟨[0xDE, 0xC0, 0xAD, 0xDE], true⟩ && t.word (R.CHK_VIOL_CNT 0) == 1) = true := by decide +kernel

/-- R577, R579: a write that straddles two pages is refused whole where the mask lacks the colour of one; the record is that of
R588. -/
theorem test_straddling_write :
    after (withWords { bare with tags := [(0x40000, 2), (0x40001, 5)] } [(R.CHK_MASK 3, 0x00040006)])
      (.memAccess { store0 with master := 3, addr := hbmBase + 0x40000FF8, data := List.replicate 16 1 })
      (fun t => t.mem == [] && t.resp == some ⟨[], true⟩ && t.word (R.CHK_FIRST_INFO 3) == 0x125C0010 &&
        t.word (R.CHK_VIOL_CNT 3) == 1) = true := by decide +kernel

/-- A write across a boundary of 256 bytes stores all its bytes. -/
theorem test_write_across_pieces :
    after bare (.memAccess { store0 with addr := hbmBase + 254 })
      (fun t => t.mem == [(hbmBase + 254, 1), (hbmBase + 255, 2), (hbmBase + 256, 3), (hbmBase + 257, 4)]) = true := by
  decide +kernel

/-- R354: RUN of a head that no plan names starts nothing. -/
theorem test_head_without_a_plan :
    after (withFields bare [(F.HEAD_CTRL_RUN 0, 1), (F.HEAD_STAT_PLL_LOCK 0, 1)]) (.headStart 0)
      (fun t => !t.flag (F.HEAD_STAT_RUNNING 0)) = true := by decide +kernel

/-- R764: a command of a RETIRED part. -/
def retired : State :=
  { bare with otp := { bare.otp with lcWords := List.replicate 9 0xFFFFFFFF }, sec := { bare.sec with cmd := some (0x10, 0) } }

theorem test_retired_part :
    after retired (.mailboxCommandEnd none) (fun t => t.get F.SEC_MB_STAT_CODE == 2 && t.flag F.SEC_MB_STAT_FAIL) = true := by
  decide +kernel

/-- R781: a WARM reset does not cut short a POWER-ON reset. -/
theorem test_warm_reset_within_power_on : exec .warmReset State.powerOn = .next (State.powerOn.ended State.powerOn) := rfl

/-- R32: bits 127 to 116 of a stamp are its SOURCE_ID, so the last stored byte holds the upper 8 of them. -/
theorem test_stamp_bytes :
    (Stamp.bytes ⟨0xABC, 5, 0, 0, 0, false, false, false, false, 0x11223344⟩).getLast? = some 0xAB ∧
    (Stamp.bytes ⟨0xABC, 5, 0, 0, 0, false, false, false, false, 0x11223344⟩).head? = some 0x44 := by decide +kernel

/-! ## Witnesses of the completion statements -/

/-- A plan that names the first and the last unit of every kind, pipes with eight stalls and write-back. -/
def demoRes : List ResRec :=
  [⟨0x02, 0, 0⟩, ⟨0x02, 15, 0⟩, ⟨0x03, 0, 0⟩, ⟨0x03, 7, 0⟩, ⟨0x04, 0, 24⟩, ⟨0x04, 31, 24⟩, ⟨0x05, 0, 0⟩, ⟨0x05, 31, 0⟩,
   ⟨0x06, 0, 0⟩, ⟨0x06, 63, 0⟩, ⟨0x07, 0, 0⟩, ⟨0x07, 15, 0⟩, ⟨0x08, 0, 0⟩, ⟨0x08, 7, 0⟩, ⟨0x09, 0, 0⟩, ⟨0x09, 7, 0⟩,
   ⟨0x0A, 0, 6⟩, ⟨0x0A, 95, 6⟩] ++
  [⟨0x0B, 0, 0⟩, ⟨0x0B, 7, 0⟩, ⟨0x0C, 0, 0⟩, ⟨0x0C, 7, 0⟩, ⟨0x0D, 0, 0⟩, ⟨0x0D, 3, 0⟩, ⟨0x0E, 0, 0⟩]

def demoPlan : Plan :=
  { planId := 1, planSeq := 1, flags := 0, hash := [], res := demoRes, fab := [], masks := [], ranges := [], classes := [],
    awn := [], irq := [], twin := {}, locks := [] }

/-- A part that runs under that plan. -/
def demo : State := { State.powerOn with inReset := none, plan := some demoPlan }

/-- A write of zeros by the control core 0. -/
def w0 : Wr := ⟨0, 0⟩

theorem witness_runs : demo.inReset = none := rfl

theorem witness_Live :
    (
    [(asking w0 (F.FRESH_ATTEST_CTRL_REQ 0) 1, G.FRESH_ATTEST_CTRL 0),
     (asking w0 (F.FRESH_ATTEST_CTRL_REQ 31) 1, G.FRESH_ATTEST_CTRL 31)] : List (Wr × RegAt)).all (fun e => demo.permits e.1 e.2) = true ∧
    ((demo.checked 0 0x40000000 4 true).1 || (demo.checked 8 0x4FFFFFFC 4 true).1) = false ∧
    spaceOf 0x40000000 = .cspace ∧ spaceOf 0x4FFFFFFC = .cspace := by
  decide +kernel

theorem witness_Plan :
    (
    [(asking w0 F.PLAN_CTRL_OP 1, G.PLAN_CTRL), (asking w0 F.PLAN_CTRL_OP 2, G.PLAN_CTRL),
     (asking w0 F.PLAN_CTRL_OP 3, G.PLAN_CTRL), (asking w0 F.PLAN_CTRL_OP 4, G.PLAN_CTRL),
     (asking w0 F.PLAN_CTRL_OP 5, G.PLAN_CTRL), (asking w0 F.PLAN_CTRL_OP 6, G.PLAN_CTRL)] : List (Wr × RegAt)).all (fun e => demo.permits e.1 e.2) = true := by
  decide +kernel

theorem witness_Ingress :
    (
    [(asking w0 (F.INGR_CTRL_ENABLE 0) 1, G.INGR_CTRL 0), (asking w0 (F.INGR_CTRL_ENABLE 511) 1, G.INGR_CTRL 511),
     (asking w0 (F.INGR_CTRL_ENABLE 0) 0, G.INGR_CTRL 0), (asking w0 (F.INGR_CTRL_ENABLE 511) 0, G.INGR_CTRL 511),
     (w0, G.INGR_RD_IDX 0), (w0, G.INGR_RD_IDX 511)] : List (Wr × RegAt)).all (fun e => demo.permits e.1 e.2) = true := by
  decide +kernel

theorem witness_DecodeArray :
    (
    [(asking w0 (F.DEC_CTRL_ENABLE 0) 1, G.DEC_CTRL 0), (asking w0 (F.DEC_CTRL_ENABLE 127) 1, G.DEC_CTRL 127),
     (asking w0 (F.DEC_CTRL_ENABLE 0) 0, G.DEC_CTRL 0), (asking w0 (F.DEC_CTRL_ENABLE 127) 0, G.DEC_CTRL 127),
     (w0, G.DEC_CMD_WR_IDX 0), (w0, G.DEC_CMD_WR_IDX 127), (asking w0 (F.DEC_KEYREQ_REQ 0) 1, G.DEC_KEYREQ 0),
     (asking w0 (F.DEC_KEYREQ_REQ 127) 1, G.DEC_KEYREQ 127), (w0, G.DEC_OUT_RD_IDX 0), (w0, G.DEC_OUT_RD_IDX 127)] : List (Wr × RegAt)).all (fun e => demo.permits e.1 e.2) = true ∧
    demo.cut .decode 0 = false := by
  decide +kernel

theorem witness_Stalls :
    (
    [(w0, G.CSTALL_BASE_HI 0 0), (w0, G.CSTALL_BASE_HI 31 7), (w0, G.CSTALL_CTRL 0 0), (w0, G.CSTALL_CTRL 31 7),
     (w0, G.CSTALL_SRC 0 0), (w0, G.CSTALL_SRC 31 7), (asking w0 (F.COMP_WB_CTRL_EN 0) 1, G.COMP_WB_CTRL 0),
     (asking w0 (F.COMP_WB_CTRL_EN 31) 1, G.COMP_WB_CTRL 31), (asking w0 F.AWNG_BUNDLE_CTRL_OP 1, G.AWNG_BUNDLE_CTRL)] : List (Wr × RegAt)).all (fun e => demo.permits e.1 e.2) = true ∧
    (demo.answers .pipe 0 0 && demo.answers .pipe 31 0) = true := by
  decide +kernel

theorem witness_Pool :
    (
    [(w0, G.SP_CTRL 0), (w0, G.SP_CTRL 63), (w0, G.SP_COEF_DATA 0), (w0, G.SP_COEF_DATA 63),
     (asking w0 (F.SP_COEF_CMD_LOAD 0) 1, G.SP_COEF_CMD 0), (asking w0 (F.SP_COEF_CMD_LOAD 63) 1, G.SP_COEF_CMD 63),
     (w0, G.HEAD_LUT_DATA1 0), (w0, G.HEAD_LUT_DATA1 31)] : List (Wr × RegAt)).all (fun e => demo.permits e.1 e.2) = true ∧
    (demo.answers .scaler 0 0 && demo.answers .scaler 63 0) = true ∧
    ([(R.SP_COEF_DATA 0), (R.SP_COEF_DATA 63), (R.HEAD_LUT_DATA1 0), (R.HEAD_LUT_DATA1 31)] : List Nat).all (fun a => !(demo.checked 0 a 4 false).1 && spaceOf a == .cspace) = true := by
  decide +kernel

theorem witness_Heads :
    (
    [(w0, G.HEAD_PIXCLK 0), (w0, G.HEAD_PIXCLK 31), (asking w0 (F.HEAD_CTRL_RUN 0) 1, G.HEAD_CTRL 0),
     (asking w0 (F.HEAD_CTRL_RUN 31) 1, G.HEAD_CTRL 31), (asking w0 (F.HEAD_CTRL_RUN 0) 0, G.HEAD_CTRL 0),
     (asking w0 (F.HEAD_CTRL_RUN 31) 0, G.HEAD_CTRL 31), (w0, G.HEAD_COMMIT 0), (w0, G.HEAD_COMMIT 31),
     (asking w0 (F.HEAD_CTRL_FAULT_CLR 0) 1, G.HEAD_CTRL 0), (asking w0 (F.HEAD_CTRL_FAULT_CLR 31) 1, G.HEAD_CTRL 31)] : List (Wr × RegAt)).all (fun e => demo.permits e.1 e.2) = true ∧
    (demo.answers .head 0 0 && demo.answers .head 31 0) = true ∧
    ([(R.HEAD_TOL_MIN 0), (R.HEAD_TOL_MIN 31)] : List Nat).all (fun a => !(demo.checked 0 a 4 false).1 && spaceOf a == .cspace) = true := by
  decide +kernel

theorem witness_Ports :
    (
    [(asking w0 (F.SRC_CTRL_RETRAIN 0) 1, G.SRC_CTRL 0), (asking w0 (F.SRC_CTRL_RETRAIN 15) 1, G.SRC_CTRL 15),
     (asking w0 (F.SRC_AUX_CMD_GO 0) 1, G.SRC_AUX_CMD 0), (asking w0 (F.SRC_AUX_CMD_GO 15) 1, G.SRC_AUX_CMD 15),
     (asking w0 (F.SRC_PANEL_CTRL_PWR_ON 0) 1, G.SRC_PANEL_CTRL 0),
     (asking w0 (F.SRC_PANEL_CTRL_PWR_ON 15) 1, G.SRC_PANEL_CTRL 15),
     (asking w0 (F.SRC_PANEL_CTRL_PWR_ON 0) 0, G.SRC_PANEL_CTRL 0),
     (asking w0 (F.SRC_PANEL_CTRL_PWR_ON 15) 0, G.SRC_PANEL_CTRL 15), (w0, G.SNK_CTRL 0), (w0, G.SNK_CTRL 7),
     (asking w0 (F.SNK_HPD_PULSE_REQ 0) 1, G.SNK_HPD_PULSE 0), (asking w0 (F.SNK_HPD_PULSE_REQ 7) 1, G.SNK_HPD_PULSE 7)] : List (Wr × RegAt)).all (fun e => demo.permits e.1 e.2) = true := by
  decide +kernel

theorem witness_EncodeArray :
    (
    [(asking w0 (F.ENC_CTRL_ENABLE 0) 1, G.ENC_CTRL 0), (asking w0 (F.ENC_CTRL_ENABLE 63) 1, G.ENC_CTRL 63),
     (asking w0 (F.ENC_CTRL_ENABLE 0) 0, G.ENC_CTRL 0), (asking w0 (F.ENC_CTRL_ENABLE 63) 0, G.ENC_CTRL 63),
     (asking w0 (F.ENC_KEYREQ_REQ 0) 1, G.ENC_KEYREQ 0), (asking w0 (F.ENC_KEYREQ_REQ 63) 1, G.ENC_KEYREQ 63),
     (w0, G.ENC_OUT_RD_IDX 0), (w0, G.ENC_OUT_RD_IDX 63)] : List (Wr × RegAt)).all (fun e => demo.permits e.1 e.2) = true ∧
    demo.cut .encode 0 = false := by
  decide +kernel

theorem witness_WallLink :
    (
    [(asking w0 F.WLK_CTRL_REKEY 1, G.WLK_CTRL), (asking w0 F.WLK_CTRL_EN 1, G.WLK_CTRL),
     (asking w0 F.WLK_CTRL_EN 0, G.WLK_CTRL)] : List (Wr × RegAt)).all (fun e => demo.permits e.1 e.2) = true ∧
    3 ≤ ({ demo with regs := [(R.WLK_STAT, 3#32)] } : State).get (linkStateF .wall) := by
  decide +kernel

theorem witness_Pairing :
    (
    [(asking w0 F.TWIN_CTRL_OP 1, G.TWIN_CTRL), (asking w0 F.TWIN_CTRL_OP 2, G.TWIN_CTRL),
     (asking w0 F.TWIN_CTRL_OP 3, G.TWIN_CTRL)] : List (Wr × RegAt)).all (fun e => demo.permits e.1 e.2) = true := by
  decide +kernel

theorem witness_Memc :
    (
    [(w0, G.TAG_RC_CTRL)] : List (Wr × RegAt)).all (fun e => demo.permits e.1 e.2) = true ∧
    spaceOf hbmBase ≠ .cspace := by
  decide +kernel

theorem witness_TimeBases :
    (
    [(asking w0 (F.TB_CTRL_OP 0) 1, G.TB_CTRL 0), (asking w0 (F.TB_CTRL_OP 7) 1, G.TB_CTRL 7),
     (asking w0 (F.TB_CTRL_OP 0) 2, G.TB_CTRL 0), (asking w0 (F.TB_CTRL_OP 7) 2, G.TB_CTRL 7),
     (asking w0 (F.TB_CTRL_OP 0) 3, G.TB_CTRL 0), (asking w0 (F.TB_CTRL_OP 7) 3, G.TB_CTRL 7),
     (asking w0 (F.TB_CTRL_OP 0) 4, G.TB_CTRL 0), (asking w0 (F.TB_CTRL_OP 7) 4, G.TB_CTRL 7), (w0, G.TB_RATE_HI 0),
     (w0, G.TB_RATE_HI 7), (w0, G.TB_OFFSET_IN 0), (w0, G.TB_OFFSET_IN 7), (asking w0 (F.TB_SERVO_EN 0) 1, G.TB_SERVO 0),
     (asking w0 (F.TB_SERVO_EN 7) 1, G.TB_SERVO 7), (w0, if true then G.TPORT_TXTS_POP 0 else G.TPORT_RXTS_POP 0),
     (w0, if false then G.TPORT_TXTS_POP 0 else G.TPORT_RXTS_POP 0),
     (w0, if true then G.TPORT_TXTS_POP 7 else G.TPORT_RXTS_POP 7),
     (w0, if false then G.TPORT_TXTS_POP 7 else G.TPORT_RXTS_POP 7)] : List (Wr × RegAt)).all (fun e => demo.permits e.1 e.2) = true ∧
    ([(R.TB_NOW_NS 0), (R.TB_NOW_NS 7)] : List Nat).all (fun a => !(demo.checked 0 a 4 false).1 && spaceOf a == .cspace) = true := by
  decide +kernel

theorem witness_Interrupts :
    (
    [(w0, G.IRQ_SWI_SET), (w0, G.TGT_COMPLETE 0), (w0, G.TGT_COMPLETE 11), (w0, G.TGT_STACK_RESET 0),
     (w0, G.TGT_STACK_RESET 11)] : List (Wr × RegAt)).all (fun e => demo.permits e.1 e.2) = true ∧
    ([(R.TGT_CLAIM 0), (R.TGT_CLAIM 11)] : List Nat).all (fun a => !(demo.checked 0 a 4 false).1 && spaceOf a == .cspace) = true := by
  decide +kernel

theorem witness_CheckValues :
    (
    [(asking w0 (F.CVE_CTRL_OP 0) 1, G.CVE_CTRL 0), (asking w0 (F.CVE_CTRL_OP 7) 1, G.CVE_CTRL 7),
     (asking w0 (F.CVE_CTRL_OP 0) 2, G.CVE_CTRL 0), (asking w0 (F.CVE_CTRL_OP 7) 2, G.CVE_CTRL 7)] : List (Wr × RegAt)).all (fun e => demo.permits e.1 e.2) = true := by
  decide +kernel

theorem witness_Lanes :
    (
    [(w0, G.LANE_CTRL 0), (w0, G.LANE_CTRL 95), (asking w0 (F.LANE_CTRL_SLIP 0) 1, G.LANE_CTRL 0),
     (asking w0 (F.LANE_CTRL_SLIP 95) 1, G.LANE_CTRL 95), (asking w0 (F.LANE_RAW_CFG_CHK_EN 0) 1, G.LANE_RAW_CFG 0),
     (asking w0 (F.LANE_RAW_CFG_CHK_EN 95) 1, G.LANE_RAW_CFG 95)] : List (Wr × RegAt)).all (fun e => demo.permits e.1 e.2) = true ∧
    (((demo.rxWord 0 0).checked 0 (R.LANE_RX_WORD_LO 0) 4 false).1 ||
      ((demo.rxWord 95 0).checked 0 (R.LANE_RX_WORD_LO 95) 4 false).1) = false := by
  decide +kernel

theorem witness_AudioPorts :
    (
    [(asking w0 (F.SAP_CTRL_RUN 0) 1, G.SAP_CTRL 0), (asking w0 (F.SAP_CTRL_RUN 7) 1, G.SAP_CTRL 7),
     (asking w0 (F.SAP_CTRL_RUN 0) 0, G.SAP_CTRL 0), (asking w0 (F.SAP_CTRL_RUN 7) 0, G.SAP_CTRL 7), (w0, G.SAP_CTRL 0),
     (w0, G.SAP_CTRL 7), (w0, G.SAP_SLOT_MASK 0), (w0, G.SAP_SLOT_MASK 7), (w0, G.AUDG_PLL_CFG), (w0, G.AUDG_PLL_ADJ)] : List (Wr × RegAt)).all (fun e => demo.permits e.1 e.2) = true ∧
    (demo.answers .sap 0 0 && demo.answers .sap 7 0) = true := by
  decide +kernel

theorem witness_TouchSense :
    (
    [(asking w0 (F.TCH_CTRL_RUN 0) 1, G.TCH_CTRL 0), (asking w0 (F.TCH_CTRL_RUN 3) 1, G.TCH_CTRL 3),
     (asking w0 (F.TCH_CTRL_RUN 0) 0, G.TCH_CTRL 0), (asking w0 (F.TCH_CTRL_RUN 3) 0, G.TCH_CTRL 3),
     (w0, if true then G.TCH_CH_EN_HI 0 else G.TCH_CH_EN_LO 0),
     (w0, if false then G.TCH_CH_EN_HI 0 else G.TCH_CH_EN_LO 0),
     (w0, if true then G.TCH_CH_EN_HI 3 else G.TCH_CH_EN_LO 3),
     (w0, if false then G.TCH_CH_EN_HI 3 else G.TCH_CH_EN_LO 3)] : List (Wr × RegAt)).all (fun e => demo.permits e.1 e.2) = true := by
  decide +kernel

theorem witness_Thermal :
    (
    [(asking w0 F.THERM_CTRL_OP 1, G.THERM_CTRL)] : List (Wr × RegAt)).all (fun e => demo.permits e.1 e.2) = true ∧
    ([R.THERM_TJ_PEAK] : List Nat).all (fun a => !(demo.checked 0 a 4 false).1 && spaceOf a == .cspace) = true := by
  decide +kernel

theorem witness_Security :
    (
    [(asking w0 F.SEC_MB_CMD_OP 0x01, G.SEC_MB_CMD), (asking w0 F.SEC_MB_CMD_OP 0x02, G.SEC_MB_CMD),
     (asking w0 F.SEC_MB_CMD_OP 0x03, G.SEC_MB_CMD), (asking w0 F.SEC_MB_CMD_OP 0x04, G.SEC_MB_CMD),
     (asking w0 F.SEC_MB_CMD_OP 0x10, G.SEC_MB_CMD), (asking w0 F.SEC_MB_CMD_OP 0x11, G.SEC_MB_CMD),
     (asking w0 F.SEC_MB_CMD_OP 0x12, G.SEC_MB_CMD), (asking w0 F.SEC_MB_CMD_OP 0x13, G.SEC_MB_CMD),
     (asking w0 F.SEC_MB_CMD_OP 0x14, G.SEC_MB_CMD), (asking w0 F.SEC_MB_CMD_OP 0x15, G.SEC_MB_CMD),
     (asking w0 F.SEC_MB_CMD_OP 0x20, G.SEC_MB_CMD), (asking w0 F.SEC_MB_CMD_OP 0x21, G.SEC_MB_CMD),
     (asking w0 F.SEC_MB_CMD_OP 0x22, G.SEC_MB_CMD), (asking w0 F.SEC_MB_CMD_OP 0x23, G.SEC_MB_CMD)] : List (Wr × RegAt)).all (fun e => demo.permits e.1 e.2) = true := by
  decide +kernel

theorem witness_Resets :
    (
    [(asking w0 F.CLKRST_SWRST_OP 1, G.CLKRST_SWRST), (asking w0 F.CLKRST_BOOT_CTRL_GO 1, G.CLKRST_BOOT_CTRL),
     (w0, G.CLKRST_WDOG_KICK), (w0, G.CLKRST_WDOG_CFG), (w0, G.CC_CTRL 0), (w0, G.CC_CTRL 7), (w0, G.CC_CTRL 0),
     (w0, G.CC_CTRL 7)] : List (Wr × RegAt)).all (fun e => demo.permits e.1 e.2) = true := by
  decide +kernel

theorem witness_Faults :
    (
    [(asking w0 (F.SH_CAL_CTRL_GO (shLaneBase 0)) 1, ⟨R.SH_CAL_CTRL (shLaneBase 0), .always, 0, 0, 0xff000001⟩),
     (asking w0 (F.FLT_INJ_ARM 0) 1, G.FLT_INJ 0), (asking w0 (F.FLT_INJ_ARM 95) 1, G.FLT_INJ 95), (w0, G.SYS_DB_SET),
     (asking w0 (F.I2C_CMD_GO 0) 1, G.I2C_CMD 0), (asking w0 (F.I2C_CMD_GO 1) 1, G.I2C_CMD 1)] : List (Wr × RegAt)).all (fun e => demo.permits e.1 e.2) = true := by
  decide +kernel

/-! ## Witnesses of the other statements -/

theorem witness_EmptyQueueLetsAClockPass : bare.pending = [] := rfl
theorem witness_QueueIsServedInOrder : 2 ≤ ({ bare with pending := [.srEntry, .srExit] } : State).pending.length := by decide
theorem witness_StepKeepsSafe : State.powerOn.inReset.isSome = true ∧ State.powerOn.flag F.TWIN_STAT_ACT = false ∧
    State.powerOn.ns % 2 = 0 := by decide +kernel
theorem witness_QuietEndsSpare : demo.unpred = none ∧ demo.role = 0 ∧ demo.twin.copy = none ∧ demo.get F.THERM_STATUS_DISPLAY ≠ 1 ∧
    demo.laneList = [0, 95] := by decide +kernel
theorem witness_StampAndDescriptorRoundTrip :
    Stamp.ofBytes (Stamp.bytes ⟨4095, 15, 2 ^ 48 - 1, 2 ^ 24 - 1, 15, true, true, true, true, 2 ^ 32 - 1⟩) =
      ⟨4095, 15, 2 ^ 48 - 1, 2 ^ 24 - 1, 15, true, true, true, true, 2 ^ 32 - 1⟩ := by decide +kernel
theorem witness_PairChangesWithItsHighHalf :
    bare.plan = none ∧ bare.permits ⟨0, 0xFFFFFFFF⟩ (G.TB_SET_SEC_LO 0) = true ∧
    bare.permits ⟨0, 0xFFFFFFFF⟩ (G.TB_SET_SEC_LO 7) = true ∧ bare.permits ⟨0, 0xFFFF⟩ (G.TB_SET_SEC_HI 7) = true ∧
    ((({ bare with loHeld := [(R.TB_SET_SEC_LO 7, 5#32)] } : State).accepted 0 (R.TB_SET_SEC_HI 7)).loHeld.find?
      (fun e => e.1 == R.TB_SET_SEC_LO 7)) = some (R.TB_SET_SEC_LO 7, 5#32) := by decide +kernel
theorem witness_AccessChangesItsBytesOnly :
    spaceOf store0.addr ≠ .cspace ∧ store0.write = true ∧ bare.memc.recolour = none ∧
    (bare.memAccess store0).resp = some ⟨[], false⟩ := by decide +kernel
theorem witness_RefusedAccessHasNoEffectOnMemory :
    store0.data.length ≤ 256 ∧ barred.injArmed 0x33 0 = false ∧ barred.injArmed 0x32 0 = false ∧
    (barred.refusal 0 (barred.accessAddr store0) 4 true).isSome = true ∧
    (barred.refusal 0 (barred.accessAddr store0) 4 false).isSome = true := by decide +kernel
theorem witness_VoteOfThreeChannels :
    (({ shown := 1 } : ChanStall).shown ≠ ({ shown := 2 } : ChanStall).shown) ∧
    (({ shown := 3 } : ChanStall).shown ≠ ({ shown := 2 } : ChanStall).shown) := by decide
def loading : State := withFields demo [(F.PLAN_STATUS_BUSY, 1)]
theorem witness_PlanRequestWhileBusyIsRefused :
    ([1, 2, 3, 4, 5] : List Nat).all (fun op =>
      loading.permits (asking (key 0) F.PLAN_CTRL_OP op) G.PLAN_CTRL &&
      bitsOf (asking (key 0) F.PLAN_CTRL_OP op).data.toNat 31 24 == 0xA5) = true ∧
    (loading.accepted 0 R.PLAN_CTRL).flag F.PLAN_STATUS_BUSY = true := by decide +kernel
def streaming : State := withFields demo [(F.INGR_CTRL_ENABLE 0, 1), (F.INGR_CTRL_ENABLE 511, 1)]
theorem witness_StreamDisableDiscardsItsFrames :
    ([0, 511] : List Nat).all (fun i =>
      streaming.permits (asking w0 (F.INGR_CTRL_ENABLE i) 0) (G.INGR_CTRL i) &&
      (streaming.accepted 0 (R.INGR_CTRL i)).flag (F.INGR_CTRL_ENABLE i) &&
      (streaming.accepted 0 (R.INGR_CTRL i)).word (R.INGR_CTRL i) % 2 ^ 31 == 0) = true := by decide +kernel
def drawing : State := withFields demo [(F.AWN_STAT_CH_OK 31, 7), (F.HEAD_STAT_RUNNING 31, 1), (F.AWN_STAT_CH_OK 0, 3)]
theorem witness_AgreedPixelHasNoFurtherEffect :
    drawing.awnOk 31 = [0, 1, 2] ∧ (drawing.awnOk 0).length = 2 ∧ drawing.hasPipe 31 = true ∧
    drawing.flag (F.HEAD_STAT_RUNNING 31) = true ∧ drawing.flag (F.HEAD_STAT_SLATE 31) = false ∧
    (drawing.awn 31).dissents = [] := by decide +kernel
def selecting : State := withFields demo [(F.SP_STAT_PEND 63, 1)]
theorem witness_BankSelectWhilePendingIsIgnored :
    selecting.permits ⟨0, 1⟩ (G.SP_CTRL 63) = true ∧
    (selecting.accepted 0 (R.SP_CTRL 63)).flag (F.SP_STAT_PEND 63) = true ∧
    ((State.reset.accepted 0 (R.SP_CTRL 0)).sp 0).load.isSome = true := by decide +kernel

/-- Head 31 with RUN 1, PLL_LOCK 1 and 1920 × 1080 at 148.5 MHz in force. -/
def ready : State :=
  let s := withFields demo [(F.HEAD_CTRL_RUN 31, 1), (F.HEAD_STAT_PLL_LOCK 31, 1), (F.HEAD_PIXCLK_KHZ 31, 148500),
    (F.HEAD_TIMING_H_H_ACTIVE 31, 1920), (F.HEAD_TIMING_H_H_TOTAL 31, 2200), (F.HEAD_TIMING_HSYNC_H_FP 31, 88),
    (F.HEAD_TIMING_HSYNC_H_SYNC 31, 44), (F.HEAD_TIMING_V_V_ACTIVE 31, 1080), (F.HEAD_TIMING_V_V_TOTAL 31, 1125),
    (F.HEAD_TIMING_VSYNC_V_FP 31, 4), (F.HEAD_TIMING_VSYNC_V_SYNC 31, 5)]
  { s with inForce := s.regs.filter (fun e =>
      [F.HEAD_TIMING_H_H_ACTIVE 31, F.HEAD_TIMING_HSYNC_H_FP 31, F.HEAD_TIMING_V_V_ACTIVE 31, F.HEAD_TIMING_VSYNC_V_FP 31].any
        (·.addr == e.1)) }
theorem witness_HeadStartsOnlyUnderItsConditions :
    ready.flag (F.HEAD_CTRL_RUN 31) = true ∧ ready.flag (F.HEAD_STAT_PLL_LOCK 31) = true ∧
    ready.flag (F.HEAD_STAT_RUNNING 31) = false ∧ ready.answers .head 31 0 = true ∧ ready.named 0x05 31 = true ∧
    ready.timingMeets 31 = true ∧ ready.applying = none ∧ ready.flag (F.HEAD_CTRL_RUN 0) = false := by decide +kernel
theorem witness_BadFrameIsDroppedAndCounted : 3 ≤ (withFields demo [(F.WLK_STAT_STATE, 3)]).get (linkStateF .wall) := by
  decide +kernel
theorem witness_SwitchOfALonePartIsRefused :
    ([1, 2, 3] : List Nat).all (fun op =>
      demo.permits (asking (key 0) F.TWIN_CTRL_OP op) G.TWIN_CTRL &&
      bitsOf (asking (key 0) F.TWIN_CTRL_OP op).data.toNat 31 24 == 0xA5) = true ∧
    (demo.accepted 0 R.TWIN_CTRL).paired = false := by decide +kernel
def idling : State := { withFields demo [(F.MEMC_SR_CTRL_EN, 1), (F.MEMC_STATUS_INIT_DONE, 1)] with ns := 1000000000 }
theorem witness_SelfRefreshIsEnteredOnlyWhenIdle :
    idling.flag F.MEMC_SR_CTRL_EN = true ∧ idling.flag F.MEMC_STATUS_INIT_DONE = true ∧
    idling.flag F.MEMC_STATUS_SELF_REFRESH = false ∧ idling.flag F.MEMC_STATUS_EXITING = false ∧
    idling.memc.recolour = none ∧ idling.memc.lastReqNs + max 1 (idling.get F.MEMC_SR_CTRL_IDLE) * 1000 ≤ idling.ns ∧
    4 + max 2 (idling.get F.MEMC_SR_CTRL_MARGIN) ≤ idling.minTol ∧ demo.flag F.MEMC_SR_CTRL_EN = false := by decide +kernel
def lockedTb : State := withFields demo [(F.TB_STAT_LOCKED 7, 1)]
theorem witness_TimeBaseIsSetSteppedAndLocked :
    ([1, 2, 3, 4] : List Nat).all (fun op =>
      bitsOf (asking (key 0) (F.TB_CTRL_OP 7) op).data.toNat 31 24 == 0xA5 &&
      demo.permits (asking (key 0) (F.TB_CTRL_OP 7) op) (G.TB_CTRL 7) &&
      lockedTb.permits (asking (key 0) (F.TB_CTRL_OP 7) op) (G.TB_CTRL 7)) = true ∧
    (demo.accepted 0 (R.TB_CTRL 7)).injArmed 0x38 7 = false ∧ (demo.accepted 0 (R.TB_CTRL 7)).tbLocked 7 = false ∧
    (lockedTb.accepted 0 (R.TB_CTRL 7)).injArmed 0x38 7 = false ∧
    (lockedTb.accepted 0 (R.TB_CTRL 7)).tbLocked 7 = true := by decide +kernel
theorem witness_NowIsLatchedByTheReadOfItsNanoseconds :
    (demo.checked 0 (R.TB_NOW_NS 7) 4 false).1 = false ∧
    (demo.checked 0 (R.TB_NOW_NS 7) 4 false).2.answers .timeBase 7 0 = true := by decide +kernel
theorem witness_ClaimTakesTheHighestPriority :
    (claiming.checked 0 (R.TGT_CLAIM 11) 4 false).1 = false ∧
    (claiming.checked 0 (R.TGT_CLAIM 11) 4 false).2.claimable 11 6 = true ∧
    (claiming.checked 0 (R.TGT_CLAIM 11) 4 false).2.irqPrio 6 < 16 ∧
    ((claiming.checked 0 (R.TGT_CLAIM 11) 4 false).2.irqSrc.map (·.1)) = [5, 6, 7] := by decide +kernel
theorem witness_ClaimTakesTheHighestPriority_order :
    ([5, 6, 7] : List Nat).all (fun j =>
      (claiming.checked 0 (R.TGT_CLAIM 11) 4 false).2.irqPrio j < 9 ||
      ((claiming.checked 0 (R.TGT_CLAIM 11) 4 false).2.irqPrio j == 9 && 6 ≤ j)) = true ∧
    (∀ i, (bare.checked 0 (R.TGT_CLAIM 0) 4 false).2.claimable 0 i = false) := by
  refine ⟨by decide +kernel, fun i => ?_⟩
  have h : (bare.checked 0 (R.TGT_CLAIM 0) 4 false).2.irqSrc = [] := by decide +kernel
  unfold State.claimable State.src
  rw [h]
  rfl
def stacked : State := demo.setTgt 11 { demo.tgt 11 with stack := [(20, 9), (7, 1)] }
theorem witness_CompletionPopsOrFaults :
    stacked.permits ⟨0, 20⟩ (G.TGT_COMPLETE 11) = true ∧ stacked.permits ⟨0, 495⟩ (G.TGT_COMPLETE 11) = true ∧
    (stacked.accepted 0 (R.TGT_COMPLETE 11)).injArmed 0x3A 11 = false ∧
    ((stacked.accepted 0 (R.TGT_COMPLETE 11)).tgt 11).stack = [(20, 9), (7, 1)] ∧
    ((stacked.accepted 0 (R.TGT_COMPLETE 11)).tgt 11).frozen = false := by decide +kernel
theorem witness_StackResetEmptiesAndThaws :
    stacked.permits (key 1) (G.TGT_STACK_RESET 11) = true ∧ bitsOf (key 1).data.toNat 31 24 = 0xA5 ∧
    bitOf (key 1).data.toNat 0 = true ∧ stacked.permits ⟨0, 0x5A000001⟩ (G.TGT_STACK_RESET 0) = true := by decide +kernel
def checking : State := withFields demo [(F.CVE_STAT_BUSY 7, 1)]
theorem witness_AbortEndsARunningJob :
    checking.permits (asking (key 0) (F.CVE_CTRL_OP 7) 2) (G.CVE_CTRL 7) = true ∧
    bitsOf (asking (key 0) (F.CVE_CTRL_OP 7) 2).data.toNat 31 24 = 0xA5 ∧
    (checking.accepted 0 (R.CVE_CTRL 7)).flag (F.CVE_STAT_BUSY 7) = true ∧
    (demo.accepted 0 (R.CVE_CTRL 7)).flag (F.CVE_STAT_BUSY 7) = false := by decide +kernel
def slipping : State := withFields demo [(F.LANE_STAT_STATE 95, 3), (F.LANE_STAT_SLIP_PEND 95, 1), (F.LANE_STAT_STATE 0, 3)]
theorem witness_SlipMovesTheWordBoundary :
    slipping.unitPresent .lane 95 0 = true ∧ slipping.get (F.LANE_STAT_STATE 95) ≠ 0 ∧
    slipping.flag (F.LANE_STAT_SLIP_PEND 95) = true ∧ slipping.unitPresent .lane 0 0 = true ∧
    slipping.get (F.LANE_STAT_STATE 0) ≠ 0 ∧ slipping.flag (F.LANE_STAT_SLIP_PEND 0) = false := by decide +kernel
theorem witness_FrameRateIsMeasuredOverASecond :
    demo.answers .sap 7 0 = true ∧ (demo.sap 7).fsNs + 1000000000 ≤ idling.ns ∧ demo.ns < (demo.sap 7).fsNs + 1000000000 := by
  decide +kernel
def scanning : State :=
  withWords (withFields demo [(F.TCH_STAT_RUNNING 3, 1), (F.TCH_CTRL_RUN 3, 1)]) [(R.TCH_CH_EN_LO 3, 5)]
theorem witness_ScanTakesItsSettings :
    scanning.unitPresent .touch 3 0 = true ∧ scanning.flag (F.TCH_STAT_RUNNING 3) = true ∧
    scanning.flag (F.TCH_CTRL_RUN 3) = true ∧ (scanning.tch 3).scan = none ∧
    scanning.tchPast 3 (scanning.get (F.TCH_SCAN_PERIOD 3)) = true ∧
    (List.range 64).all (fun c => bitOf (scanning.tchEn 3) c || !scanning.flag (F.TCHC_STAT_TOUCHED 3 c)) = true := by
  decide +kernel
theorem witness_PowerSamplesGather : bare.inReset = none ∧ State.powerOn.inReset = some .powerOn := ⟨rfl, rfl⟩
theorem witness_RetiredPartAnswersStatusOnly :
    retired.lifecycle = 3 ∧ secOps.contains 0x10 = true ∧ retired.sec.cmd = some (0x10, 0) ∧
    retired.opFlash 0x10 = false ∧ retired.opFlash 0x20 = true ∧
    ({ retired with qspi := { retired.qspi with owner := some .security } } : State).holdsFlash .security = true := by
  decide +kernel
theorem witness_ResetLeavesWhatItsClassKeeps :
    (∀ r, bare.inReset = some r → r.rank ≤ ResetClass.warm.rank) ∧
    State.powerOn.inReset = some .powerOn ∧ ResetClass.warm.rank < ResetClass.powerOn.rank := by
  exact ⟨(fun _ h => nomatch h), rfl, by decide⟩
theorem witness_KickRestartsTheWatchdog :
    demo.permits (key 0) G.CLKRST_WDOG_KICK = true ∧ bitsOf (key 0).data.toNat 31 24 = 0xA5 ∧
    demo.permits ⟨0, 0x5A000000⟩ G.CLKRST_WDOG_KICK = true := by decide +kernel
theorem witness_LedgerEntryGoesIntoItsSlot :
    nextDue ({ bare with due := [due0] } : State).due = some (due0, []) ∧
    ({ bare with due := [due0] } : State).suppressed due0 = false := by decide +kernel
theorem witness_RepeatedDetectionsAreSuppressed :
    nextDue repeated.due = some (due0, []) ∧ due0.code ∉ switchClass ∧ due0.code ≠ 0x50 ∧
    Tbl.get (fun _ => 0) repeated.lastEntry (due0.code * 65536 + due0.unit % 65536) = 4002 ∧
    due0.ns + 1 - 4002 ≤ 1000000 ∧ 0x35 ∈ switchClass := by decide +kernel
theorem witness_GpioEdgeReachesItsSource :
    bitOf (bare.word R.MISC_GPIO_IN) 31 ≠ true ∧ bitOf (bare.word R.MISC_GPIO_QEN) 31 = false ∧
    bitOf (bare.word R.MISC_GPIO_IN) 0 = false := by decide +kernel
theorem witness_DoorbellsAreSetByOnes : demo.permits ⟨8, 0xFFFF⟩ G.SYS_DB_SET = true := by decide +kernel

end Sys2Proof.Tests
end

section
/-! SUPPORT. The end of a command (chapter 95): what the twin controller, the lanes and the pins in reset may touch after a quiet
effect. -/

namespace Sys2Proof.Machine

/-- Registers that the end of a quiet command may write: STAT and EVT of TWIN (R521, R523) and STAT of the lanes (R667). -/
def endWritten (a : Nat) : Prop :=
  a = R.TWIN_STAT ∨ a = R.TWIN_EVT ∨ ∃ l < 96, a = R.LANE_STAT l

/-- `t` is `u` but for the twin controller's record, the lanes' records and the registers of `endWritten`. -/
def State.Follows (u t : State) : Prop :=
  t = { u with regs := t.regs, twin := t.twin, lanes := t.lanes } ∧ ∀ a, ¬ endWritten a → t.rd a = u.rd a

theorem endWritten_twinStat : endWritten R.TWIN_STAT := .inl rfl

theorem endWritten_twinEvt : endWritten R.TWIN_EVT := .inr (.inl rfl)

theorem endWritten_laneStat {l : Nat} (h : l < 96) : endWritten (R.LANE_STAT l) := .inr (.inr ⟨l, h, rfl⟩)

theorem not_endWritten_thermStatus : ¬ endWritten R.THERM_STATUS := by
  rintro (h | h | ⟨l, hl, h⟩)
  · exact absurd h (by decide)
  · exact absurd h (by decide)
  · unfold R.THERM_STATUS R.LANE_STAT at h
    omega

namespace State.Follows

theorem refl (u : State) : u.Follows u := ⟨rfl, fun _ _ => rfl⟩

theorem trans {u t v : State} (h : u.Follows t) (h' : t.Follows v) : u.Follows v := by
  obtain ⟨ht, hr⟩ := h
  obtain ⟨hv, hr'⟩ := h'
  refine ⟨?_, fun a ha => (hr' a ha).trans (hr a ha)⟩
  rw [ht] at hv
  exact hv

theorem set {u t : State} (h : u.Follows t) (f : Fld) (v : Nat) (hf : endWritten f.addr) : u.Follows (t.set f v) :=
  h.trans ⟨rfl, fun a ha => t.rd_wr_other _ a _ fun e => ha (e ▸ hf)⟩

theorem onTwin {u t : State} (h : u.Follows t) (f : TwinRec → TwinRec) : u.Follows (t.onTwin f) :=
  h.trans ⟨rfl, fun _ _ => rfl⟩

theorem setLane {u t : State} (h : u.Follows t) (l : Nat) (v : LaneRec) : u.Follows (t.setLane l v) :=
  h.trans ⟨rfl, fun _ _ => rfl⟩

theorem cond {u t : State} (h : u.Follows t) (b : Bool) {f : State → State} (hf : u.Follows (f t)) :
    u.Follows (t.cond b f) := by
  cases b
  · exact h
  · exact hf

theorem foldl {α : Type} {f : State → α → State} {l : List α} (hf : ∀ (t : State), ∀ x ∈ l, t.Follows (f t x))
    {u t : State} (h : u.Follows t) : u.Follows (l.foldl f t) := by
  induction l generalizing t with
  | nil => exact h
  | cons x l ih =>
    exact ih (fun t y hy => hf t y (List.mem_cons_of_mem _ hy)) (h.trans (hf t x List.mem_cons_self))

theorem plan_eq {u t : State} (h : u.Follows t) : t.plan = u.plan := by
  rw [h.1]

theorem laneList_eq {u t : State} (h : u.Follows t) : t.laneList = u.laneList := by
  unfold State.laneList
  rw [h.plan_eq]

theorem get_eq {u t : State} (h : u.Follows t) (f : Fld) (hf : ¬ endWritten f.addr) : t.get f = u.get f := by
  unfold State.get
  rw [h.2 f.addr hf]

end State.Follows

/-! ## The parts of the end of a command -/

theorem State.settle_of_none {u : State} (h : u.unpred = none) : u.settle = u := by
  unfold State.settle
  rw [h]

/-- A part without a role drives TWIN_ACT and changes nothing else (R521). -/
theorem State.roleWatch_follows {u : State} (h : u.role = 0) : u.Follows u.roleWatch := by
  unfold State.roleWatch
  rw [h]
  exact (State.Follows.refl u).set F.TWIN_STAT_ACT _ endWritten_twinStat

/-- A change of READY is noted in READY_EV (R523). -/
theorem State.readyWatch_follows (u : State) : u.Follows u.readyWatch :=
  (State.Follows.refl u).cond _ (((State.Follows.refl u).onTwin _).set _ _ endWritten_twinEvt)

/-- Without a role and without a copy in assembly, the twin controller writes TWIN_ACT and READY_EV alone. -/
theorem State.twinWatch_follows {u : State} (hr : u.role = 0) (hc : u.twin.copy = none) : u.Follows u.twinWatch := by
  unfold State.twinWatch
  rw [hc]
  split
  · exact .refl u
  · have h := State.roleWatch_follows hr
    exact (h.cond _ (h.onTwin _)).trans (State.readyWatch_follows _)

/-- A lane that begins to change writes its own STAT (R667). -/
theorem State.laneFollow_follows (u : State) {l : Nat} (hl : l < 96) : u.Follows (u.laneFollow l) := by
  unfold State.laneFollow
  dsimp only
  split
  · exact .refl u
  · exact ((State.Follows.refl u).set (F.LANE_STAT_STATE l) 4 (endWritten_laneStat hl)).setLane _ _

theorem State.laneWatch_follows {u : State} (hl : ∀ l ∈ u.laneList, l < 96) : u.Follows u.laneWatch := by
  unfold State.laneWatch
  split
  · exact .refl u
  · exact .foldl (fun t l hm => t.laneFollow_follows (hl l hm)) (.refl u)

/-- Without a closing bell there is nothing to cut (R743). -/
theorem State.bellWatch_of_ne {u : State} (h : u.get F.THERM_STATUS_DISPLAY ≠ 1) : u.bellWatch = u := by
  unfold State.bellWatch
  rw [beq_false_of_ne h]
  rfl

theorem State.resetWatch_follows (u : State) : u.Follows u.resetWatch :=
  (State.Follows.refl u).cond _ ((State.Follows.refl u).set _ _ endWritten_twinStat)

/-- What follows a quiet effect is `Follows` alone. -/
theorem finish_follows {u : State} (h : u.Quiet) : u.Follows (finish u) := by
  obtain ⟨hu, hr, hc, hd, hl⟩ := h
  have h1 := State.twinWatch_follows hr hc
  have h2 := h1.trans (State.laneWatch_follows fun l hm => hl l (h1.laneList_eq ▸ hm))
  have hbell : u.twinWatch.laneWatch.get F.THERM_STATUS_DISPLAY ≠ 1 :=
    h2.get_eq F.THERM_STATUS_DISPLAY not_endWritten_thermStatus ▸ hd
  unfold finish
  rw [State.settle_of_none hu, State.bellWatch_of_ne hbell]
  exact h2.trans (State.resetWatch_follows _)

end Sys2Proof.Machine

open Sys2Proof Sys2Proof.Machine

/-- Settles O7: the end of a command is `finish` of its effect, and `finish` of a quiet effect writes the twin controller, the
lanes' records and the registers of `endWritten` only. -/
theorem quietEndsSpare : Obligations.QuietEndsSpare := by
  intro s u hq
  obtain ⟨hf, hr⟩ := finish_follows hq
  have hrest : s.ended u =
      { u with regs := (finish u).regs, twin := (finish u).twin, lanes := (finish u).lanes,
               pending := s.pending, ns := s.ns } := by
    unfold State.ended
    rw [hf]
  rw [hrest]
  refine ⟨rfl, rfl, rfl, rfl, rfl, rfl, rfl, rfl, rfl, rfl, rfl, rfl, fun a hstat hevt hlane => hr a ?_⟩
  rintro (h | h | ⟨l, hl, h⟩)
  · exact hstat h
  · exact hevt h
  · exact hlane l hl h
end

section
/-! SUPPORT. Bits of masks, and what a write leaves in each bit of a field (R26). -/

namespace Sys2Proof.Machine

theorem bitOf_eq_testBit (v k : Nat) : bitOf v k = v.testBit k := by
  unfold bitOf
  rw [Nat.testBit_eq_decide_div_mod_eq]
  rfl

/-- A bit below 32 of a 32-bit merge comes from the second number where the mask has it, else from the first. -/
theorem bitOf_maskIn (x y m : Nat) {k : Nat} (hk : k < 32) :
    bitOf (maskIn x y m) k = if bitOf m k then bitOf y k else bitOf x k := by
  unfold maskIn
  simp only [bitOf_eq_testBit, BitVec.testBit_toNat, BitVec.getLsbD_or, BitVec.getLsbD_and, BitVec.getLsbD_not,
    BitVec.getLsbD_ofNat, hk, decide_true, Bool.true_and]
  cases m.testBit k <;> simp

theorem bitOf_maskBits {hi lo : Nat} (h : lo ≤ hi) (k : Nat) : bitOf (maskBits hi lo) k = decide (lo ≤ k ∧ k ≤ hi) := by
  unfold maskBits
  rw [bitOf_eq_testBit, Nat.testBit_mul_two_pow, Nat.testBit_two_pow_sub_one]
  by_cases hlo : lo ≤ k
  · have : k - lo < hi + 1 - lo ↔ k ≤ hi := by omega
    simp [hlo, this]
  · simp [hlo]

theorem bitOf_zero (k : Nat) : bitOf 0 k = false := by
  rw [bitOf_eq_testBit, Nat.zero_testBit]

theorem bitOf_allOnes {k : Nat} (hk : k < 32) : bitOf 0xFFFFFFFF k = true := by
  rw [bitOf_eq_testBit, show (0xFFFFFFFF : Nat) = 2 ^ 32 - 1 from rfl, Nat.testBit_two_pow_sub_one]
  exact decide_eq_true hk

end Sys2Proof.Machine

open Sys2Proof Sys2Proof.Machine

/-- Settles O9: every access type merges by a mask within the field's own bits, so a bit outside keeps its value and a bit inside
is what the merge of that type makes of it. -/
theorem accessTypesActOnBits : Obligations.AccessTypesActOnBits := by
  intro a opn old v k f hk hlo _
  have hm := bitOf_maskBits hlo k
  unfold fieldAfter
  by_cases hin : f.lo ≤ k ∧ k ≤ f.hi
  · rw [decide_eq_true hin] at hm
    rw [if_pos hin]
    cases f.acc with
    | ro | rc | wo => rfl
    | rw => simp only [bitOf_maskIn _ _ _ hk, hm, if_true]
    | trim => cases trimRW a <;> simp [bitOf_maskIn _ _ _ hk, hm]
    | rwp => simp only [bitOf_maskIn _ _ _ hk, hm, if_true]
    | w1c => cases hv : bitOf v k <;> simp [bitOf_maskIn _ _ _ hk, hm, hv, bitOf_zero]
    | w1s => cases hv : bitOf v k <;> simp [bitOf_maskIn _ _ _ hk, hm, hv, bitOf_allOnes hk]
  · rw [decide_eq_false hin] at hm
    rw [if_neg hin]
    cases f.acc with
    | ro | rc | wo => rfl
    | trim => cases trimRW a <;> simp [bitOf_maskIn _ _ _ hk, hm]
    | rw | rwp | w1c | w1s => simp [bitOf_maskIn _ _ _ hk, hm, bitOf_zero]
end

section
/-! SUPPORT. Permitted writes of control space, and the writable pairs (R25). -/

namespace Sys2Proof.Tbl

theorem find?_ins_same {α : Type} {t : List (Nat × α)} {k : Nat} (v : α) (h : ∀ e ∈ t, e.1 ≠ k) :
    (ins k v t).find? (fun e => e.1 == k) = some (k, v) := by
  induction t with
  | nil => simp [ins]
  | cons e t ih =>
    have he : e.1 ≠ k := h e List.mem_cons_self
    rw [ins]
    split
    · simp
    · rw [List.find?_cons_of_neg (by simpa using he)]
      exact ih fun x hx => h x (List.mem_cons_of_mem _ hx)

theorem find?_del {α : Type} (t : List (Nat × α)) (k : Nat) : (del t k).find? (fun e => e.1 == k) = none := by
  simpa [List.find?_eq_none] using ne_of_mem_del t k

end Sys2Proof.Tbl

namespace Sys2Proof.Machine

/-! ## A permitted write -/

theorem State.permits_iff {s : State} {w : Wr} {r : RegAt} :
    s.permits w r = true ↔
      s.inReset = none ∧ (s.checked w.master r.addr 4 true).1 = false ∧
      (s.accepted w.master r.addr).gate w.master r = .passed ∧ strayBits w.data.toNat r.valid = false := by
  simp only [State.permits, Bool.and_eq_true, Bool.not_eq_true', beq_iff_eq, Option.isNone_iff_eq_none, and_assoc]

/-- A permitted write of a register in control space reaches the register itself. -/
theorem State.softWrite_permits {s : State} {w : Wr} {r : RegAt} (hs : spaceOf r.addr = .cspace) (h4 : r.addr % 4 = 0)
    (h : s.permits w r = true) :
    s.softWrite w.master r.addr 4 w.data = (s.accepted w.master r.addr).writeWord r.addr w := by
  unfold State.softWrite
  rw [if_neg (not_not.mpr hs)]
  have hw := State.onWrite_permits w
    (fun u => if 4 = 4 ∧ r.addr % 4 = 0 then u.writeWord r.addr w else u.writeNarrow r.addr w) rfl h
  rw [if_pos ⟨rfl, h4⟩] at hw
  rw [← hw]
  rfl

theorem State.writeWord_of_placeOf (s : State) {a : Nat} {pl : Place} (w : Wr) (h : placeOf a = some pl) :
    s.writeWord a w = s.writeReg a pl w := by
  unfold State.writeWord
  rw [h]

/-- A permitted write passes the gate and sets no reserved bit. -/
theorem State.guarded_permits {s : State} {w : Wr} {r : RegAt} (h : s.permits w r = true) (act : State → State) :
    (s.accepted w.master r.addr).guarded r w act = act (s.accepted w.master r.addr) := by
  obtain ⟨-, -, hgate, hstray⟩ := State.permits_iff.mp h
  unfold State.guarded
  rw [hgate, hstray]
  rfl

theorem State.injSpend_plan (s : State) (d unit : Nat) : (s.injSpend d unit).plan = s.plan := by
  unfold State.injSpend
  split <;> rfl

/-- In control space there are no tags to check and no memory to wake: the checker spends an armed injection at most. -/
theorem State.checked_cspace {s : State} {master a size : Nat} {write : Bool} (hs : spaceOf a = .cspace)
    (h : (s.checked master a size write).1 = false) : (s.checked master a size write).2 = s.injSpend 0x33 master := by
  have htag : (s.injSpend 0x33 master).tagPoint a = s.injSpend 0x33 master := by
    unfold State.tagPoint
    rw [hs]
    exact if_neg fun e => nomatch e.1
  have hwake : (s.injSpend 0x33 master).wakeHbm a = s.injSpend 0x33 master := by
    unfold State.wakeHbm
    rw [hs]
    exact if_pos fun e => nomatch e
  unfold State.checked at h ⊢
  rw [htag] at h ⊢
  cases hr : (s.injSpend 0x33 master).refusal master a size write with
  | some r => simp [hr] at h
  | none =>
    cases hi : s.injArmed 0x33 master with
    | true => simp [hr, hi] at h
    | false => simpa [hr, hi] using hwake

theorem State.accepted_plan {s : State} {w : Wr} {r : RegAt} (hs : spaceOf r.addr = .cspace) (h : s.permits w r = true) :
    (s.accepted w.master r.addr).plan = s.plan := by
  obtain ⟨-, hc, -, -⟩ := State.permits_iff.mp h
  show (s.checked w.master r.addr 4 true).2.plan = s.plan
  rw [State.checked_cspace hs hc, State.injSpend_plan]

/-! ## Reserved bits -/

/-- A number without a reserved bit has only bits of the mask. -/
theorem bitOf_of_not_strayBits {v m : Nat} (h : strayBits v m = false) {k : Nat} (hk : k < 32) (hv : bitOf v k = true) :
    bitOf m k = true := by
  have h0 : BitVec.ofNat 32 v &&& ~~~ BitVec.ofNat 32 m = 0#32 := by simpa [strayBits] using h
  have hb : (v.testBit k && !m.testBit k) = false := by
    simpa only [BitVec.getLsbD_and, BitVec.getLsbD_not, BitVec.getLsbD_ofNat, hk, decide_true, Bool.true_and,
      Nat.zero_testBit] using congrArg (fun b => b.getLsbD k) h0
  rw [bitOf_eq_testBit] at hv ⊢
  simpa [hv] using hb

/-- Where no bit above the lowest `n` is allowed, the number is below `2 ^ n`. -/
theorem lt_of_not_strayBits {v : W32} {n : Nat} (h : strayBits v.toNat (2 ^ n - 1) = false) : v.toNat < 2 ^ n := by
  refine Nat.lt_pow_two_of_testBit _ fun i hi => ?_
  by_cases h32 : i < 32
  · by_contra hv
    have hm := bitOf_of_not_strayBits h h32 ((bitOf_eq_testBit _ _).trans (by simpa using hv))
    rw [bitOf_eq_testBit, Nat.testBit_two_pow_sub_one, decide_eq_true_iff] at hm
    omega
  · exact BitVec.getLsbD_of_ge v i (Nat.not_lt.mp h32)

/-- A permitted write of a register of its lowest `n` bits is of a number below `2 ^ n`. -/
theorem State.data_lt_of_permits {s : State} {w : Wr} {r : RegAt} {n : Nat} (h : s.permits w r = true)
    (hn : r.valid = 2 ^ n - 1) : w.data.toNat < 2 ^ n := by
  obtain ⟨-, -, -, hstray⟩ := State.permits_iff.mp h
  exact lt_of_not_strayBits (hn ▸ hstray)

/-! ## The write of a read-write field with no lock in force -/

theorem State.locked_of_plan_none {s : State} (h : s.plan = none) (a : Nat) : s.locked a = (0, 0) := by
  unfold State.locked
  rw [h]

theorem State.lockHit_of_plan_none {s : State} (h : s.plan = none) (master a v : Nat) : s.lockHit master a v = s := by
  unfold State.lockHit
  rw [State.locked_of_plan_none h]
  simp [strayBits]

/-- The write of a register whose one field is read-write and begins at bit 0. -/
theorem State.plainWrite_rw (s : State) (hp : s.plan = none) (w : Wr) {a hi reset : Nat}
    (hf : fieldsAt a = [⟨hi, 0, .rw, reset⟩]) :
    s.plainWrite w a = s.setWord a (maskIn (s.word a) w.data.toNat (maskBits hi 0)) := by
  unfold State.plainWrite State.fieldWrite
  rw [hf, State.lockHit_of_plan_none hp]
  rfl

/-- The low bits of a merge over the low bits are those of the second number. -/
theorem maskIn_low (x y : Nat) {hi : Nat} (hh : hi < 32) :
    maskIn x y (maskBits hi 0) % 2 ^ (hi + 1) = y % 2 ^ (hi + 1) := by
  refine Nat.eq_of_testBit_eq fun i => ?_
  rw [Nat.testBit_mod_two_pow, Nat.testBit_mod_two_pow]
  by_cases hik : i < hi + 1
  · have h32 : i < 32 := by omega
    have hm : bitOf (maskBits hi 0) i = true := by
      rw [bitOf_maskBits (Nat.zero_le hi)]
      exact decide_eq_true ⟨Nat.zero_le i, by omega⟩
    rw [← bitOf_eq_testBit, ← bitOf_eq_testBit, bitOf_maskIn _ _ _ h32, hm, if_pos rfl]
  · simp [hik]

theorem State.word_setWord_same (s : State) (a v : Nat) : (s.setWord a v).word a = v % 2 ^ 32 := by
  unfold State.word State.setWord
  rw [State.rd_wr_same, BitVec.toNat_ofNat]

theorem State.rd_setWord_other (s : State) {a b : Nat} (v : Nat) (h : b ≠ a) : (s.setWord a v).rd b = s.rd b :=
  s.rd_wr_other a b _ h

/-! ## The held half of a pair -/

/-- A low half that has been written is held. -/
theorem State.holdLow_find (s : State) (a : Nat) (v : W32) :
    (s.holdLow a v).loHeld.find? (fun e => e.1 == a) = some (a, v) :=
  Tbl.find?_ins_same v (Tbl.ne_of_mem_del _ _)

theorem State.holdLow_spares (s : State) (a : Nat) (v : W32) : s.Spares (s.holdLow a v) [] :=
  ⟨rfl, rfl, rfl, fun _ _ => rfl⟩

/-- The part with nothing held for the pair of low half `a`. -/
def State.unhold (s : State) (a : Nat) : State :=
  { s with loHeld := Tbl.del s.loHeld a }

@[simp] theorem State.unhold_plan (s : State) (a : Nat) : (s.unhold a).plan = s.plan := rfl
@[simp] theorem State.unhold_rd (s : State) (a b : Nat) : (s.unhold a).rd b = s.rd b := rfl
@[simp] theorem State.unhold_word (s : State) (a b : Nat) : (s.unhold a).word b = s.word b := rfl

/-- A write of the high half brings the low half that is held, and nothing is held for the pair any more. -/
theorem State.highWrite_of_held {s : State} {w : Wr} {a : Nat} {v : W32}
    (h : s.loHeld.find? (fun e => e.1 == a - 4) = some (a - 4, v)) :
    s.highWrite w a =
      ((s.unhold (a - 4)).plainWrite ⟨w.master, v⟩ (a - 4)).plainWrite w a := by
  unfold State.highWrite
  rw [h]
  rfl

/-! ## The pair SET_SEC of a time base -/

/-- The region of the time bases in the TIME block (R612). -/
def tbRegion : Region := ⟨0x40f00000, 0x100, 8, 0, 0, .timeBase, timeTbRegs⟩

/-- The place of a register of time base `t`. -/
def tbPlace (t : Nat) (r : RegSpec) : Place :=
  ⟨tbRegion, t, 0, r, 0⟩

def setSecLoReg : RegSpec := ⟨0x20, 1, false, .low, .plain, [⟨31, 0, .rw, 0⟩]⟩

def setSecHiReg : RegSpec := ⟨0x24, 1, false, .high, .plain, [⟨15, 0, .rw, 0⟩]⟩

theorem placeOf_setSecLo : ∀ t < 8, placeOf (R.TB_SET_SEC_LO t) = some (tbPlace t setSecLoReg) := by decide +kernel

theorem placeOf_setSecHi : ∀ t < 8, placeOf (R.TB_SET_SEC_HI t) = some (tbPlace t setSecHiReg) := by decide +kernel

theorem spaceOf_setSec {t a : Nat} (ht : t < 8) (ha : R.TB_SET_SEC_LO t ≤ a ∧ a ≤ R.TB_SET_SEC_HI t) :
    spaceOf a = .cspace := by
  unfold R.TB_SET_SEC_LO R.TB_SET_SEC_HI at ha
  exact spaceOf_cspace (by omega) (by omega)

theorem blockOf_setSec {t a : Nat} (ht : t < 8) (ha : R.TB_SET_SEC_LO t ≤ a ∧ a ≤ R.TB_SET_SEC_HI t) :
    blockOf a = 15 := by
  unfold R.TB_SET_SEC_LO R.TB_SET_SEC_HI at ha
  unfold blockOf cspaceBase
  omega

theorem not_isShellRegion_tbRegion : isShellRegion tbRegion = false := by decide +kernel

/-- A register of a time base from SET_SEC_LO to SET_SEC_HI has no effect of its own. -/
theorem State.writeReg_setSec (s : State) {t : Nat} (ht : t < 8) (r : RegSpec) (w : Wr) {a : Nat}
    (ha : R.TB_SET_SEC_LO t ≤ a ∧ a ≤ R.TB_SET_SEC_HI t) :
    s.writeReg a (tbPlace t r) w = s.ordinary a (tbPlace t r) w := by
  unfold State.writeReg
  rw [show (tbPlace t r).region = tbRegion from rfl, not_isShellRegion_tbRegion, blockOf_setSec ht ha]
  show s.writeTime a (tbPlace t r) w = _
  have hn : (tbPlace t r).n = t := rfl
  unfold R.TB_SET_SEC_LO R.TB_SET_SEC_HI at ha
  unfold State.writeTime R.TB_CTRL R.TB_RATE_LO R.TB_RATE_HI R.TB_OFFSET_IN R.TB_SERVO R.TB_STEP_THRESH R.TPORT_PTP_CFG
    R.TPORT_TXTS_POP R.TPORT_RXTS_POP
  dsimp only
  rw [hn, if_neg (by omega), if_neg (by omega), if_neg (by omega), if_neg (by omega), if_neg (by omega), if_neg (by omega),
    if_neg (by omega), if_neg (by omega), if_neg (by omega)]

/-- A permitted write of a register of the pair takes effect under the rule of pairs. -/
theorem State.softWrite_setSec {s : State} {t a : Nat} {r : RegSpec} {w : Wr} (ht : t < 8)
    (ha : R.TB_SET_SEC_LO t ≤ a ∧ a ≤ R.TB_SET_SEC_HI t) (h4 : a % 4 = 0) (hp : placeOf a = some (tbPlace t r))
    (h : s.permits w (placeAt a (tbPlace t r)) = true) :
    s.softWrite w.master a 4 w.data = (s.accepted w.master a).typedWrite a (tbPlace t r) w := by
  calc s.softWrite w.master a 4 w.data
      = (s.accepted w.master a).writeWord a w :=
          State.softWrite_permits (r := placeAt a (tbPlace t r)) (spaceOf_setSec ht ha) h4 h
    _ = (s.accepted w.master a).ordinary a (tbPlace t r) w := by
        rw [State.writeWord_of_placeOf _ _ hp, State.writeReg_setSec _ ht _ _ ha]
    _ = (s.accepted w.master a).typedWrite a (tbPlace t r) w := State.guarded_permits h _

theorem setSecLo_lt_hi (t : Nat) : R.TB_SET_SEC_LO t < R.TB_SET_SEC_HI t := by
  unfold R.TB_SET_SEC_LO R.TB_SET_SEC_HI
  omega

theorem setSecLo_mod_four (t : Nat) : R.TB_SET_SEC_LO t % 4 = 0 := by
  unfold R.TB_SET_SEC_LO
  omega

theorem setSecHi_mod_four (t : Nat) : R.TB_SET_SEC_HI t % 4 = 0 := by
  unfold R.TB_SET_SEC_HI
  omega

theorem State.softWrite_setSecLo {s : State} {t : Nat} {w : Wr} (ht : t < 8) (h : s.permits w (G.TB_SET_SEC_LO t) = true) :
    s.softWrite w.master (R.TB_SET_SEC_LO t) 4 w.data =
      (s.accepted w.master (R.TB_SET_SEC_LO t)).holdLow (R.TB_SET_SEC_LO t) w.data :=
  State.softWrite_setSec ht ⟨le_rfl, (setSecLo_lt_hi t).le⟩ (setSecLo_mod_four t) (placeOf_setSecLo t ht) h

theorem State.softWrite_setSecHi {s : State} {t : Nat} {w : Wr} (ht : t < 8) (h : s.permits w (G.TB_SET_SEC_HI t) = true) :
    s.softWrite w.master (R.TB_SET_SEC_HI t) 4 w.data =
      (s.accepted w.master (R.TB_SET_SEC_HI t)).highWrite w (R.TB_SET_SEC_HI t) :=
  State.softWrite_setSec ht ⟨(setSecLo_lt_hi t).le, le_rfl⟩ (setSecHi_mod_four t) (placeOf_setSecHi t ht) h

theorem fieldsAt_of_placeOf {a : Nat} {pl : Place} (h : placeOf a = some pl) : fieldsAt a = pl.reg.fields := by
  unfold fieldsAt
  rw [h]

/-- The high half brings the low half that is held: what both registers are set to, with no lock in force. -/
theorem State.highWrite_setSec {s : State} {t : Nat} {w : Wr} {v : W32} (ht : t < 8) (hp : s.plan = none)
    (h : s.loHeld.find? (fun e => e.1 == R.TB_SET_SEC_LO t) = some (R.TB_SET_SEC_LO t, v)) :
    s.highWrite w (R.TB_SET_SEC_HI t) =
      ((s.unhold (R.TB_SET_SEC_LO t)).setWord (R.TB_SET_SEC_LO t)
        (maskIn (s.word (R.TB_SET_SEC_LO t)) v.toNat (maskBits 31 0))).setWord (R.TB_SET_SEC_HI t)
        (maskIn (s.word (R.TB_SET_SEC_HI t)) w.data.toNat (maskBits 15 0)) := by
  have hlo : R.TB_SET_SEC_HI t - 4 = R.TB_SET_SEC_LO t := by
    unfold R.TB_SET_SEC_LO R.TB_SET_SEC_HI
    omega
  have hother : ∀ x : Nat, ((s.unhold (R.TB_SET_SEC_LO t)).setWord (R.TB_SET_SEC_LO t) x).word (R.TB_SET_SEC_HI t) =
      s.word (R.TB_SET_SEC_HI t) := fun x =>
    congrArg BitVec.toNat (State.rd_setWord_other _ x (setSecLo_lt_hi t).ne')
  rw [State.highWrite_of_held (hlo.symm ▸ h), hlo,
    State.plainWrite_rw (s.unhold _) hp _ (fieldsAt_of_placeOf (placeOf_setSecLo t ht)), State.unhold_word,
    State.plainWrite_rw _ ((State.setWord_plan (s.unhold _) _ _).trans hp) _ (fieldsAt_of_placeOf (placeOf_setSecHi t ht)),
    hother]

/-- The write of the high half leaves the held value in the low half, its own 16 bits in the high half, nothing held, and
everything else as it was. -/
theorem State.highWrite_setSec_effect {s : State} {t : Nat} {w : Wr} {v : W32} (ht : t < 8) (hp : s.plan = none)
    (hw : w.data.toNat < 2 ^ 16)
    (h : s.loHeld.find? (fun e => e.1 == R.TB_SET_SEC_LO t) = some (R.TB_SET_SEC_LO t, v)) :
    (s.highWrite w (R.TB_SET_SEC_HI t)).rd (R.TB_SET_SEC_LO t) = v ∧
    (s.highWrite w (R.TB_SET_SEC_HI t)).word (R.TB_SET_SEC_HI t) % 65536 = w.data.toNat ∧
    (s.highWrite w (R.TB_SET_SEC_HI t)).loHeld.find? (fun e => e.1 == R.TB_SET_SEC_LO t) = none ∧
    s.Spares (s.highWrite w (R.TB_SET_SEC_HI t)) [R.TB_SET_SEC_LO t, R.TB_SET_SEC_HI t] := by
  rw [State.highWrite_setSec ht hp h]
  refine ⟨?_, ?_, Tbl.find?_del _ _, rfl, rfl, rfl, fun a ha => ?_⟩
  · rw [State.rd_setWord_other _ _ (setSecLo_lt_hi t).ne]
    refine BitVec.eq_of_toNat_eq ((State.word_setWord_same _ _ _).trans ?_)
    exact (maskIn_low _ _ (by decide)).trans (Nat.mod_eq_of_lt v.isLt)
  · rw [State.word_setWord_same, Nat.mod_mod_of_dvd _ (by decide)]
    exact (maskIn_low _ _ (by decide)).trans (Nat.mod_eq_of_lt hw)
  · simp only [List.mem_cons, List.not_mem_nil, or_false, not_or] at ha
    obtain ⟨hlo, hhi⟩ := ha
    rw [State.rd_setWord_other _ _ hhi, State.rd_setWord_other _ _ hlo]
    rfl

end Sys2Proof.Machine

open Sys2Proof Sys2Proof.Machine

/-- Settles O10: a permitted write of SET_SEC_LO is held (`softWrite_setSecLo`), and a permitted write of SET_SEC_HI sets both
registers in one effect (`softWrite_setSecHi`, `highWrite_setSec_effect`). -/
theorem pairChangesWithItsHighHalf : Obligations.PairChangesWithItsHighHalf := by
  intro s t w ht hplan
  refine ⟨fun h => ?_, fun v h hheld => ?_⟩
  · refine ⟨_, congrArg s.ends (State.softWrite_setSecLo ht h), ?_⟩
    exact ⟨State.holdLow_find _ _ _, State.holdLow_spares _ _ _⟩
  · have hs := spaceOf_setSec ht ⟨(setSecLo_lt_hi t).le, le_rfl⟩
    have hp := (State.accepted_plan (r := G.TB_SET_SEC_HI t) hs h).trans hplan
    refine ⟨_, congrArg s.ends (State.softWrite_setSecHi ht h), ?_⟩
    exact State.highWrite_setSec_effect ht hp (State.data_lt_of_permits h rfl) hheld
end

section
/-! SUPPORT. Stored bytes read back: little-endian numbers, slices of a row of bytes, the stamp (R32) and
the descriptor of a ring (R166). -/

namespace Sys2Proof

/-! ## Little-endian bytes -/

@[simp] theorem length_bytesLE (n v : Nat) : (bytesLE n v).length = n := by
  induction n generalizing v with
  | zero => rfl
  | succ n ih => rw [bytesLE, List.length_cons, ih]

/-- `n` bytes of a number spell its lowest `n` bytes. -/
@[simp] theorem natLE_bytesLE (n v : Nat) : natLE (bytesLE n v) = v % 256 ^ n := by
  induction n generalizing v with
  | zero => rw [pow_zero, Nat.mod_one]; rfl
  | succ n ih => rw [bytesLE, natLE, ih, BitVec.toNat_ofNat, pow_succ' 256 n, Nat.mod_mul]

/-! ## Slices -/

/-- A slice within the first part of a row of bytes does not see the rest. -/
theorem slice_append_left {xs : List Byte} {o n : Nat} (h : o + n ≤ xs.length) (ys : List Byte) :
    slice (xs ++ ys) o n = slice xs o n := by
  unfold slice
  rw [List.drop_append_of_le_length (by omega), List.take_append_of_le_length (by rw [List.length_drop]; omega)]

/-- A slice that begins where the first part ends and has the length of the second is the second. -/
theorem slice_append_right {xs ys : List Byte} {o n : Nat} (ho : xs.length = o) (hn : ys.length = n) :
    slice (xs ++ ys) o n = ys := by
  unfold slice
  rw [← ho, ← hn, List.drop_left, List.take_length]

theorem slice_whole (xs : List Byte) : slice xs 0 xs.length = xs := by
  unfold slice
  rw [List.drop_zero, List.take_length]

/-- A number read within the first part of a row of bytes does not see the rest. -/
theorem leAt_append_left {xs : List Byte} {o n : Nat} (h : o + n ≤ xs.length) (ys : List Byte) :
    leAt (xs ++ ys) o n = leAt xs o n :=
  congrArg natLE (slice_append_left h ys)

/-- The number stored last is read at its offset. -/
theorem leAt_append_bytesLE {xs : List Byte} {o : Nat} (ho : xs.length = o) (n v : Nat) :
    leAt (xs ++ bytesLE n v) o n = v % 256 ^ n := by
  unfold leAt
  rw [slice_append_right ho (length_bytesLE n v), natLE_bytesLE]

end Sys2Proof

namespace Sys2Proof.Machine

/-! ## The stamp -/

theorem b2n_le_one (b : Bool) : b2n b ≤ 1 := by
  cases b <;> decide

theorem b2n_beq_one (b : Bool) : (b2n b == 1) = b := by
  cases b <;> rfl

/-- A bit that a number holds in its place is read there. -/
theorem bitOf_of_b2n {v i : Nat} {b : Bool} (h : v / 2 ^ i % 2 = b2n b) : bitOf v i = b := by
  unfold bitOf
  rw [h, b2n_beq_one]

/-- A stamp with every field cut to its width (R32). -/
def Stamp.cut (t : Stamp) : Stamp :=
  { t with
    sourceId := t.sourceId % 2 ^ 12, tb := t.tb % 2 ^ 4, captureTime := t.captureTime % 2 ^ 48, seq := t.seq % 2 ^ 24,
    alive := t.alive % 2 ^ 4, signature := t.signature % 2 ^ 32 }

/-- A stamp whose fields fit their widths is its own cut. -/
theorem Stamp.cut_eq_self {t : Stamp} (hid : t.sourceId < 2 ^ 12) (htb : t.tb < 2 ^ 4) (htime : t.captureTime < 2 ^ 48)
    (hseq : t.seq < 2 ^ 24) (halive : t.alive < 2 ^ 4) (hsig : t.signature < 2 ^ 32) : t.cut = t := by
  unfold Stamp.cut
  rw [Nat.mod_eq_of_lt hid, Nat.mod_eq_of_lt htb, Nat.mod_eq_of_lt htime, Nat.mod_eq_of_lt hseq, Nat.mod_eq_of_lt halive,
    Nat.mod_eq_of_lt hsig]

theorem Stamp.bits_lt (t : Stamp) : t.bits < 256 ^ 16 := by
  have hd := b2n_le_one t.degraded
  have ho := b2n_le_one t.overrun
  have ha := b2n_le_one t.arrivalTimed
  have hc := b2n_le_one t.concealed
  unfold Stamp.bits
  omega

/-- The fields of a stamp lie side by side in its 128 bits, so each is read back cut to its width. -/
theorem Stamp.ofBits_bits (t : Stamp) : Stamp.ofBits t.bits = t.cut := by
  have hd := b2n_le_one t.degraded
  have ho := b2n_le_one t.overrun
  have ha := b2n_le_one t.arrivalTimed
  have hc := b2n_le_one t.concealed
  have hdegraded : bitOf t.bits 35 = t.degraded := bitOf_of_b2n (by unfold Stamp.bits; omega)
  have hoverrun : bitOf t.bits 34 = t.overrun := bitOf_of_b2n (by unfold Stamp.bits; omega)
  have harrival : bitOf t.bits 33 = t.arrivalTimed := bitOf_of_b2n (by unfold Stamp.bits; omega)
  have hconcealed : bitOf t.bits 32 = t.concealed := bitOf_of_b2n (by unfold Stamp.bits; omega)
  unfold Stamp.ofBits Stamp.cut
  rw [hdegraded, hoverrun, harrival, hconcealed]
  unfold bitsOf Stamp.bits
  congr 1 <;> omega

@[simp] theorem Stamp.length_bytes (t : Stamp) : t.bytes.length = 16 := length_bytesLE 16 t.bits

/-- A stored stamp reads back cut to its fields' widths. -/
theorem Stamp.ofBytes_bytes (t : Stamp) : Stamp.ofBytes t.bytes = t.cut := by
  unfold Stamp.ofBytes Stamp.bytes
  rw [natLE_bytesLE, Nat.mod_eq_of_lt t.bits_lt, Stamp.ofBits_bits]

/-! ## The descriptor -/

@[simp] theorem Desc.length_bytes (d : Desc) : d.bytes.length = 64 := by
  simp [Desc.bytes]

/-- A descriptor with its stamp and every other field cut to its width (R166). -/
def Desc.cut (d : Desc) : Desc :=
  { stamp := d.stamp.cut, dataOffset := d.dataOffset % 2 ^ 32, dataLen := d.dataLen % 2 ^ 32, rtpTs := d.rtpTs % 2 ^ 32,
    pkts := d.pkts % 2 ^ 16, lost := d.lost % 2 ^ 16, arrival := d.arrival % 2 ^ 48, flags := d.flags % 2 ^ 32,
    rtpSeq := d.rtpSeq % 2 ^ 32 }

/-- A descriptor whose fields fit their widths is its own cut. -/
theorem Desc.cut_eq_self {d : Desc} (hstamp : d.stamp.cut = d.stamp) (hoff : d.dataOffset < 2 ^ 32) (hlen : d.dataLen < 2 ^ 32)
    (hts : d.rtpTs < 2 ^ 32) (hpkts : d.pkts < 2 ^ 16) (hlost : d.lost < 2 ^ 16) (harr : d.arrival < 2 ^ 48)
    (hflags : d.flags < 2 ^ 32) (hseq : d.rtpSeq < 2 ^ 32) : d.cut = d := by
  unfold Desc.cut
  rw [hstamp, Nat.mod_eq_of_lt hoff, Nat.mod_eq_of_lt hlen, Nat.mod_eq_of_lt hts, Nat.mod_eq_of_lt hpkts,
    Nat.mod_eq_of_lt hlost, Nat.mod_eq_of_lt harr, Nat.mod_eq_of_lt hflags, Nat.mod_eq_of_lt hseq]

/-- The stamp of a stored descriptor is its first 16 bytes. -/
theorem Desc.slice_stamp (d : Desc) : slice d.bytes 0 16 = d.stamp.bytes := by
  unfold Desc.bytes
  simp only [slice_append_left, List.length_append, length_bytesLE, Stamp.length_bytes, Nat.reduceAdd, Nat.reduceLeDiff]
  exact d.stamp.length_bytes ▸ slice_whole d.stamp.bytes

/-- Every number of a stored descriptor is read at its offset: the bytes stored after it are not seen
(`leAt_append_left`), and those before it end where it begins (`leAt_append_bytesLE`). -/
theorem Desc.ofBytes_bytes (d : Desc) : Desc.ofBytes d.bytes = d.cut := by
  unfold Desc.ofBytes Desc.cut
  rw [Desc.slice_stamp, Stamp.ofBytes_bytes]
  unfold Desc.bytes
  simp [leAt_append_left, leAt_append_bytesLE, -List.append_assoc]

end Sys2Proof.Machine

open Sys2Proof Sys2Proof.Machine

/-- Settles O8: a stored record reads back cut to its fields' widths (`Stamp.ofBytes_bytes`, `Desc.ofBytes_bytes`), and a record
whose fields fit them is its own cut. -/
theorem stampAndDescriptorRoundTrip : Obligations.StampAndDescriptorRoundTrip := by
  refine ⟨fun t hid htb htime hseq halive hsig => ⟨t.length_bytes, ?_⟩,
    fun d hstamp hoff hlen hts hpkts hlost harr hflags hseq => ⟨d.length_bytes, ?_⟩⟩
  · rw [Stamp.ofBytes_bytes, Stamp.cut_eq_self hid htb htime hseq halive hsig]
  · rw [Stamp.ofBytes_bytes] at hstamp
    rw [Desc.ofBytes_bytes, Desc.cut_eq_self hstamp hoff hlen hts hpkts hlost harr hflags hseq]
end

section
/-! SUPPORT. The vote of three channels, a case for each row of R42. -/

namespace Sys2Proof.Machine

section
variable {a b c : ChanStall} (i j k : Nat)

/-- Where the first two channels agree, the third dissents unless it agrees too. -/
theorem vote_of_first_two (hab : a.shown = b.shown) :
    vote [(i, a), (j, b), (k, c)] = { winner := some a, dissent := if c.shown = a.shown then none else some k } :=
  if_pos hab

theorem vote_of_first_and_third (hab : a.shown ≠ b.shown) (hac : a.shown = c.shown) :
    vote [(i, a), (j, b), (k, c)] = { winner := some a, dissent := some j } :=
  (if_neg hab).trans (if_pos hac)

/-- Where the last two channels agree without the first, the first dissents. -/
theorem vote_of_last_two (hab : a.shown ≠ b.shown) (hbc : b.shown = c.shown) :
    vote [(i, a), (j, b), (k, c)] = { winner := some b, dissent := some i } :=
  (if_neg hab).trans ((if_neg fun hac => hab (hac.trans hbc.symm)).trans (if_pos hbc))

/-- Where no two channels agree there is no majority (VOTE_SPLIT). -/
theorem vote_of_split (hab : a.shown ≠ b.shown) (hac : a.shown ≠ c.shown) (hbc : b.shown ≠ c.shown) :
    vote [(i, a), (j, b), (k, c)] = {} :=
  (if_neg hab).trans ((if_neg hac).trans (if_neg hbc))

end

end Sys2Proof.Machine

open Sys2Proof Sys2Proof.Machine

/-- Settles O13: each clause is a row of the vote (`vote_of_first_two`, `vote_of_first_and_third`, `vote_of_last_two`,
`vote_of_split`). -/
theorem voteOfThreeChannels : Obligations.VoteOfThreeChannels := by
  intro a b c
  refine ⟨fun hab => ?_, fun hab hac => ?_, fun hab hbc => ?_, vote_of_split 0 1 2⟩
  · rw [vote_of_first_two 0 1 2 hab]
    exact ⟨a, rfl, rfl, rfl⟩
  · rw [vote_of_first_and_third 0 1 2 hab hac]
    exact ⟨a, rfl, rfl, rfl⟩
  · rw [vote_of_last_two 0 1 2 hab hbc]
    exact ⟨b, rfl, rfl, rfl⟩
end

section
/-! SUPPORT. A request to the plan loader while STATUS.BUSY is 1 (R134). -/

namespace Sys2Proof.Machine

/-- A write of one field leaves memory, the flash, the time bases and every other register. -/
theorem State.set_spares (s : State) (f : Fld) (v : Nat) : s.Spares (s.set f v) [f.addr] :=
  ⟨rfl, rfl, rfl, fun a ha => s.rd_wr_other f.addr a _ fun h => ha (List.mem_singleton.mpr h)⟩

/-- The OP that a request of PLAN.CTRL asks for is the one it carries. -/
theorem asking_planOp (w : Wr) {op : Nat} (h : op < 16) : (asking w F.PLAN_CTRL_OP op).data.toNat % 16 = op := by
  have hget := fieldGet_fieldPut w.data F.PLAN_CTRL_OP.hi F.PLAN_CTRL_OP.lo op (by decide) (by decide)
  calc (asking w F.PLAN_CTRL_OP op).data.toNat % 16
      = fieldGet (asking w F.PLAN_CTRL_OP op).data F.PLAN_CTRL_OP.hi F.PLAN_CTRL_OP.lo := by
          simp [fieldGet, bitsOf, F.PLAN_CTRL_OP]
    _ = op % 16 := hget
    _ = op := Nat.mod_eq_of_lt h

theorem State.planRequest_of_busy {s : State} (h : s.flag F.PLAN_STATUS_BUSY = true) (op : LoadOp) :
    s.planRequest op = s.set F.PLAN_STATUS_CODE 0x34 :=
  if_pos h

/-- Each load and each slot write is a request, so while the loader is busy it sets CODE alone; ABORT (OP 6) is none. -/
theorem State.writePlanCtrl_of_busy {s : State} {w : Wr} (hw : s.permits w G.PLAN_CTRL = true)
    (hkey : bitsOf w.data.toNat 31 24 = 0xA5) (hop : w.data.toNat % 16 ∈ [1, 2, 3, 4, 5])
    (hbusy : (s.accepted w.master R.PLAN_CTRL).flag F.PLAN_STATUS_BUSY = true) :
    (s.accepted w.master R.PLAN_CTRL).writePlanCtrl w =
      (s.accepted w.master R.PLAN_CTRL).set F.PLAN_STATUS_CODE 0x34 := by
  refine (State.guarded_permits hw _).trans ?_
  dsimp only
  rw [if_neg (not_not.mpr hkey)]
  simp only [List.mem_cons, List.not_mem_nil, or_false] at hop
  obtain hop | hop | hop | hop | hop := hop <;> rw [hop] <;> exact State.planRequest_of_busy hbusy _

/-- CODE shares its register with BUSY and PHASE but none of their bits. -/
theorem State.setCode_effect (s : State) (h : s.flag F.PLAN_STATUS_BUSY = true) :
    (s.set F.PLAN_STATUS_CODE 0x34).get F.PLAN_STATUS_CODE = 0x34 ∧
    (s.set F.PLAN_STATUS_CODE 0x34).flag F.PLAN_STATUS_BUSY = true ∧
    (s.set F.PLAN_STATUS_CODE 0x34).get F.PLAN_STATUS_PHASE = s.get F.PLAN_STATUS_PHASE := by
  have hbusy := s.get_set_apart F.PLAN_STATUS_CODE F.PLAN_STATUS_BUSY 0x34 (by decide) (by decide) (by decide) (by decide)
  refine ⟨s.get_set_same F.PLAN_STATUS_CODE 0x34 (by decide) (by decide), ?_,
    s.get_set_apart F.PLAN_STATUS_CODE F.PLAN_STATUS_PHASE 0x34 (by decide) (by decide) (by decide) (by decide)⟩
  unfold State.flag
  rw [hbusy]
  exact h

/-- LOAD_A, LOAD_B, LOAD_MEM, WRITE_A and WRITE_B are the write of PLAN.CTRL with their OP. -/
theorem State.planRequest_serves {s : State} {w : Wr} {op : Nat} {c : Instr}
    (h : op = 1 ∧ c = .loadA w ∨ op = 2 ∧ c = .loadB w ∨ op = 3 ∧ c = .loadMem w ∨ op = 4 ∧ c = .writeA w ∨
      op = 5 ∧ c = .writeB w) :
    op ∈ [1, 2, 3, 4, 5] ∧
    s.Serves c (asking w F.PLAN_CTRL_OP op) G.PLAN_CTRL (·.writePlanCtrl (asking w F.PLAN_CTRL_OP op)) := by
  obtain ⟨rfl, rfl⟩ | ⟨rfl, rfl⟩ | ⟨rfl, rfl⟩ | ⟨rfl, rfl⟩ | ⟨rfl, rfl⟩ := h <;>
    exact ⟨by decide, State.serves_asking rfl rfl rfl⟩

end Sys2Proof.Machine

open Sys2Proof Sys2Proof.Machine

/-- Settles O14: each of the five commands is a write of PLAN.CTRL (`planRequest_serves`), which while BUSY is 1 sets CODE alone
(`writePlanCtrl_of_busy`, `setCode_effect`). -/
theorem planRequestWhileBusyIsRefused : Obligations.PlanRequestWhileBusyIsRefused := by
  intro s w op c hc hw hkey p hbusy
  obtain ⟨hmem, hserves⟩ := State.planRequest_serves (s := s) hc
  have hlt : op < 16 := (by decide : ∀ n ∈ [1, 2, 3, 4, 5], n < 16) op hmem
  have hset := State.writePlanCtrl_of_busy hw hkey ((asking_planOp w hlt).symm ▸ hmem) hbusy
  obtain ⟨hcode, hstill, hphase⟩ := State.setCode_effect p hbusy
  exact ⟨_, (hserves hw).trans (congrArg s.ends hset), hcode, hstill, hphase,
    State.set_loader _ _ _, State.set_spares p F.PLAN_STATUS_CODE 0x34⟩
end

section
/-! SUPPORT. One-bit fields, effects written field by field, and ENABLE of an ingress entry cleared (R147). -/

namespace Sys2Proof.Machine

/-! ## One-bit fields -/

section
variable (s : State) (a b : Nat) {j k : Nat}

/-- A bit that was raised reads 1. -/
theorem State.flag_raise_bit (hk : k < 32) : (s.raise ⟨a, k, k⟩).flag ⟨a, k, k⟩ = true := by
  have hget : (s.raise ⟨a, k, k⟩).get ⟨a, k, k⟩ = 1 % 2 ^ (k + 1 - k) := s.get_set_same ⟨a, k, k⟩ 1 le_rfl hk
  unfold State.flag
  rw [hget, Nat.add_sub_cancel_left]
  rfl

/-- A bit that was dropped reads 0. -/
theorem State.flag_drop_bit (hk : k < 32) : (s.drop ⟨a, k, k⟩).flag ⟨a, k, k⟩ = false := by
  have hget : (s.drop ⟨a, k, k⟩).get ⟨a, k, k⟩ = 0 % 2 ^ (k + 1 - k) := s.get_set_same ⟨a, k, k⟩ 0 le_rfl hk
  unfold State.flag
  rw [hget, Nat.zero_mod]
  rfl

/-- A bit set leaves every bit of another number as it was, whatever their registers are. -/
theorem State.flag_set_other_bit (v : Nat) (hk : k < 32) (h : j ≠ k) :
    (s.set ⟨a, k, k⟩ v).flag ⟨b, j, j⟩ = s.flag ⟨b, j, j⟩ :=
  congrArg (· != 0) (s.get_set_apart ⟨a, k, k⟩ ⟨b, j, j⟩ v le_rfl hk le_rfl (Nat.lt_or_gt_of_ne h))

end

/-! ## Effects written field by field -/

/-- A write of one more field of a listed register touches no register but those listed. -/
theorem State.Spares.set {s t : State} {written : List Nat} (h : s.Spares t written) (f : Fld) (v : Nat)
    (hf : f.addr ∈ written) : s.Spares (t.set f v) written := by
  obtain ⟨hmem, hflash, htbs, hrd⟩ := h
  exact ⟨hmem, hflash, htbs, fun a ha => (t.rd_wr_other _ a _ fun e => ha (e ▸ hf)).trans (hrd a ha)⟩

/-! ## TIMEOUT posted to the stalls of an entry -/

/-- A fold whose every step keeps a projection of the state keeps it. -/
theorem foldl_keeps {α γ : Type} (π : State → γ) {f : State → α → State} (h : ∀ t x, π (f t x) = π t) (l : List α)
    (s : State) : π (l.foldl f s) = π s :=
  (List.foldl_hom π fun t x => (h t x).symm).symm.trans (List.foldl_fixed l)

/-- Posting TIMEOUT writes records of freshness stalls alone: what does not look at these is as it was (R174). -/
theorem State.postTimeout_keeps {γ : Type} (π : State → γ) (hπ : ∀ t x, π { t with fstalls := x } = π t) (s : State)
    (i : Nat) : π (s.postTimeout i) = π s := by
  refine foldl_keeps π (fun t n => foldl_keeps π (fun t m => ?_) _ t) _ s
  cases t.entryOf n m == some i
  · rfl
  · exact hπ t _

/-! ## ENABLE of an entry cleared -/

theorem State.entryDisable_flag (s : State) (i : Nat) (f : Fld) :
    (s.entryDisable i).flag f =
      (((s.drop (F.INGR_CTRL_ENABLE i)).drop (F.INGR_STAT_ACTIVE i)).raise (F.INGR_STAT_SILENT i)).flag f :=
  State.postTimeout_keeps (·.flag f) (fun _ _ => rfl) _ i

/-- The entry is neither enabled nor active any more. -/
theorem State.entryDisable_stops (s : State) (i : Nat) :
    (s.entryDisable i).flag (F.INGR_CTRL_ENABLE i) = false ∧ (s.entryDisable i).flag (F.INGR_STAT_ACTIVE i) = false := by
  constructor
  · calc (s.entryDisable i).flag (F.INGR_CTRL_ENABLE i)
        = ((s.drop (F.INGR_CTRL_ENABLE i)).drop (F.INGR_STAT_ACTIVE i)).flag (F.INGR_CTRL_ENABLE i) :=
          (s.entryDisable_flag i _).trans (State.flag_set_other_bit _ _ _ 1 (by decide) (by decide))
      _ = (s.drop (F.INGR_CTRL_ENABLE i)).flag (F.INGR_CTRL_ENABLE i) :=
          State.flag_set_other_bit _ _ _ 0 (by decide) (by decide)
      _ = false := s.flag_drop_bit _ (by decide)
  · calc (s.entryDisable i).flag (F.INGR_STAT_ACTIVE i)
        = ((s.drop (F.INGR_CTRL_ENABLE i)).drop (F.INGR_STAT_ACTIVE i)).flag (F.INGR_STAT_ACTIVE i) :=
          (s.entryDisable_flag i _).trans (State.flag_set_other_bit _ _ _ 1 (by decide) (by decide))
      _ = false := State.flag_drop_bit _ _ (by decide)

/-- The entry is silent, and TIMEOUT_EV does not set. -/
theorem State.entryDisable_silences (s : State) (i : Nat) :
    (s.entryDisable i).flag (F.INGR_STAT_SILENT i) = true ∧
    (s.entryDisable i).flag (F.INGR_STAT_TIMEOUT_EV i) = s.flag (F.INGR_STAT_TIMEOUT_EV i) := by
  constructor
  · exact (s.entryDisable_flag i _).trans (State.flag_raise_bit _ _ (by decide))
  · calc (s.entryDisable i).flag (F.INGR_STAT_TIMEOUT_EV i)
        = ((s.drop (F.INGR_CTRL_ENABLE i)).drop (F.INGR_STAT_ACTIVE i)).flag (F.INGR_STAT_TIMEOUT_EV i) :=
          (s.entryDisable_flag i _).trans (State.flag_set_other_bit _ _ _ 1 (by decide) (by decide))
      _ = (s.drop (F.INGR_CTRL_ENABLE i)).flag (F.INGR_STAT_TIMEOUT_EV i) :=
          State.flag_set_other_bit _ _ _ 0 (by decide) (by decide)
      _ = s.flag (F.INGR_STAT_TIMEOUT_EV i) := s.flag_set_other_bit _ _ 0 (by decide) (by decide)

/-- What the entry was assembling is discarded. -/
theorem State.entryDisable_frames (s : State) (i : Nat) : ((s.entryDisable i).stream i).frames = [] := by
  have h : (s.entryDisable i).stream i = { s.stream i with frames := [] } :=
    (State.postTimeout_keeps (·.stream i) (fun _ _ => rfl) _ i).trans (Tbl.get_set_same _ _ i _)
  rw [h]

/-- No detection falls due. -/
theorem State.entryDisable_due (s : State) (i : Nat) : (s.entryDisable i).due = s.due :=
  calc (s.entryDisable i).due
      = (((s.setStream i { s.stream i with frames := [] }).drop (F.INGR_CTRL_ENABLE i)).drop (F.INGR_STAT_ACTIVE i)).due :=
        (State.postTimeout_keeps State.due (fun _ _ => rfl) _ i).trans (State.set_due _ _ _)
    _ = (s.setStream i { s.stream i with frames := [] }).due := (State.set_due _ _ _).trans (State.set_due _ _ _)
    _ = s.due := rfl

/-- Only CTRL and STAT of the entry are written. -/
theorem State.entryDisable_spares (s : State) (i : Nat) : s.Spares (s.entryDisable i) [R.INGR_CTRL i, R.INGR_STAT i] := by
  have hstart : s.Spares (s.setStream i { s.stream i with frames := [] }) [R.INGR_CTRL i, R.INGR_STAT i] :=
    ⟨rfl, rfl, rfl, fun _ _ => rfl⟩
  have hctrl : R.INGR_CTRL i ∈ [R.INGR_CTRL i, R.INGR_STAT i] := List.mem_cons_self
  have hstat : R.INGR_STAT i ∈ [R.INGR_CTRL i, R.INGR_STAT i] := List.mem_cons_of_mem _ List.mem_cons_self
  have hset := ((hstart.set (F.INGR_CTRL_ENABLE i) 0 hctrl).set (F.INGR_STAT_ACTIVE i) 0 hstat).set
    (F.INGR_STAT_SILENT i) 1 hstat
  exact (State.postTimeout_keeps (s.Spares · _) (fun _ _ => rfl) _ i).mpr hset

/-! ## The write that clears ENABLE -/

/-- A request for ENABLE 0 carries the other bits of the write. -/
theorem asking_disable (w : Wr) (i : Nat) : (asking w (F.INGR_CTRL_ENABLE i) 0).data.toNat = w.data.toNat % 2 ^ 31 := by
  have hput := fieldPut_toNat w.data 31 31 0 le_rfl (by decide)
  have hw : w.data.toNat / 2 ^ 32 = 0 := Nat.div_eq_of_lt w.data.isLt
  rw [hw, Nat.zero_mul, Nat.zero_mod, Nat.zero_mul, Nat.zero_add] at hput
  exact hput

/-- A permitted write to an enabled entry that asks for ENABLE 0 and keeps the other bits disables the entry, without CFG_REJ
(R146, R147). -/
theorem State.writeStreamCtrl_disable {s p : State} {i : Nat} {w : Wr} (hw : s.permits w (G.INGR_CTRL i) = true)
    (hp : s.accepted w.master (R.INGR_CTRL i) = p) (hen : p.flag (F.INGR_CTRL_ENABLE i) = true)
    (hv : w.data.toNat = p.word (R.INGR_CTRL i) % 2 ^ 31) :
    (s.accepted w.master (R.INGR_CTRL i)).writeStreamCtrl i w = p.entryDisable i := by
  subst hp
  refine (State.guarded_permits hw _).trans ((if_pos hen).trans ?_)
  have hlt : w.data.toNat < 2 ^ 31 := hv ▸ Nat.mod_lt _ (by decide)
  have hbit : bitOf w.data.toNat 31 = false := by
    unfold bitOf
    rw [Nat.div_eq_of_lt hlt]
    rfl
  dsimp only [G.INGR_CTRL]
  rw [hbit, Nat.mod_eq_of_lt hlt, ← hv, bne_self_eq_false]
  rfl

end Sys2Proof.Machine

open Sys2Proof Sys2Proof.Machine

/-- Settles O15: the write disables the entry (`writeStreamCtrl_disable`), which drops ENABLE and ACTIVE, raises SILENT, discards
the frames and posts TIMEOUT to the stalls alone (`postTimeout_keeps`). -/
theorem streamDisableDiscardsItsFrames : Obligations.StreamDisableDiscardsItsFrames := by
  intro s i w hi hw p hen hv
  have hserves : s.Serves (.streamDisable i w) (asking w (F.INGR_CTRL_ENABLE i) 0) (G.INGR_CTRL i)
      (·.writeStreamCtrl i (asking w (F.INGR_CTRL_ENABLE i) 0)) :=
    State.serves_asking rfl (decide_eq_true hi) rfl
  have hp : s.accepted (asking w (F.INGR_CTRL_ENABLE i) 0).master (R.INGR_CTRL i) = p :=
    congrArg (s.accepted · _) (asking_master w _ 0)
  have heffect := State.writeStreamCtrl_disable hw hp hen ((asking_disable w i).trans hv)
  obtain ⟨henable, hactive⟩ := p.entryDisable_stops i
  obtain ⟨hsilent, hevent⟩ := p.entryDisable_silences i
  exact ⟨_, (hserves hw).trans (congrArg s.ends heffect), henable, hactive, hsilent, p.entryDisable_frames i,
    p.entryDisable_due i, hevent, p.entryDisable_spares i⟩
end

section
/-! SUPPORT. A saturating count, and a write to a scaler unit that is ignored and counted (R329). -/

namespace Sys2Proof.Machine

/-- A counter field advanced by one holds its largest value. -/
theorem State.get_inc_same (s : State) (f : Fld) (hl : f.lo ≤ f.hi) (hh : f.hi < 32) :
    (s.inc f).get f = min (s.get f + 1) (2 ^ (f.hi + 1 - f.lo) - 1) := by
  have hlt : min (s.get f + 1) (2 ^ (f.hi + 1 - f.lo) - 1) < 2 ^ (f.hi + 1 - f.lo) :=
    (min_le_right _ _).trans_lt (Nat.sub_lt (Nat.two_pow_pos _) Nat.one_pos)
  exact (s.get_set_same f _ hl hh).trans (Nat.mod_eq_of_lt hlt)

theorem State.Spares.refl (s : State) (written : List Nat) : s.Spares s written :=
  ⟨rfl, rfl, rfl, fun _ _ => rfl⟩

section
variable (s : State) (k : Nat)

theorem spStat_ne_spCoefIgn : R.SP_STAT k ≠ R.SP_COEF_IGN k := by
  unfold R.SP_STAT R.SP_COEF_IGN
  omega

/-- The count advances; IGN_EV is in another register. -/
theorem State.coefIgnored_count :
    (s.coefIgnored k).get (F.SP_COEF_IGN_CNT k) = min (s.get (F.SP_COEF_IGN_CNT k) + 1) (2 ^ 32 - 1) :=
  calc (s.coefIgnored k).get (F.SP_COEF_IGN_CNT k)
      = (s.inc (F.SP_COEF_IGN_CNT k)).get (F.SP_COEF_IGN_CNT k) :=
        State.get_set_other _ _ _ 1 (spStat_ne_spCoefIgn k).symm
    _ = min (s.get (F.SP_COEF_IGN_CNT k) + 1) (2 ^ 32 - 1) := s.get_inc_same _ (Nat.zero_le 31) (by decide : 31 < 32)

theorem State.coefIgnored_event : (s.coefIgnored k).flag (F.SP_STAT_IGN_EV k) = true :=
  State.flag_raise_bit _ _ (by decide)

/-- A field of STAT beside IGN_EV reads as before. -/
theorem State.coefIgnored_get_stat {hi lo : Nat} (hl : lo ≤ hi) (h : hi < 2 ∨ 2 < lo) :
    (s.coefIgnored k).get ⟨R.SP_STAT k, hi, lo⟩ = s.get ⟨R.SP_STAT k, hi, lo⟩ :=
  calc (s.coefIgnored k).get ⟨R.SP_STAT k, hi, lo⟩
      = (s.inc (F.SP_COEF_IGN_CNT k)).get ⟨R.SP_STAT k, hi, lo⟩ :=
        State.get_set_apart _ (F.SP_STAT_IGN_EV k) _ 1 le_rfl (by decide : 2 < 32) hl h
    _ = s.get ⟨R.SP_STAT k, hi, lo⟩ := State.get_set_other _ _ _ _ (spStat_ne_spCoefIgn k)

theorem State.coefIgnored_spCoef : (s.coefIgnored k).spCoef = s.spCoef :=
  (State.set_spCoef _ _ _).trans (State.set_spCoef _ _ _)

theorem State.coefIgnored_spUnits : (s.coefIgnored k).spUnits = s.spUnits :=
  (State.set_spUnits _ _ _).trans (State.set_spUnits _ _ _)

theorem State.coefIgnored_spares : s.Spares (s.coefIgnored k) [R.SP_STAT k, R.SP_COEF_IGN k] :=
  ((State.Spares.refl s _).set (F.SP_COEF_IGN_CNT k) _ (List.mem_cons_of_mem _ List.mem_cons_self)).set
    (F.SP_STAT_IGN_EV k) 1 List.mem_cons_self

end

/-- A permitted write of CTRL is ignored and counted while a selection is pending or a ROM load runs (R330). -/
theorem State.writeSpCtrl_ignored {s p : State} {k : Nat} {w : Wr} (hw : s.permits w (G.SP_CTRL k) = true)
    (hp : s.accepted w.master (R.SP_CTRL k) = p)
    (h : p.flag (F.SP_STAT_PEND k) = true ∨ (p.sp k).load.isSome = true) :
    p.writeSpCtrl k w = p.coefIgnored k := by
  subst hp
  exact (State.guarded_permits hw _).trans (if_pos (Bool.or_eq_true_iff.mpr h))

end Sys2Proof.Machine

open Sys2Proof Sys2Proof.Machine

/-- Settles O17: the write is ignored and counted (`writeSpCtrl_ignored`), which sets the count and IGN_EV alone
(`coefIgnored_spares`); IGN_EV shares STAT with PEND and BANK but none of their bits (`coefIgnored_get_stat`). -/
theorem bankSelectWhilePendingIsIgnored : Obligations.BankSelectWhilePendingIsIgnored := by
  intro s k w hk hw p hbusy
  have hserves : s.Serves (.spBankSelWrite k w) w (G.SP_CTRL k) (·.writeSpCtrl k w) :=
    State.serves rfl (decide_eq_true hk) rfl rfl
  have hignored : p.writeSpCtrl k w = p.coefIgnored k := State.writeSpCtrl_ignored hw rfl hbusy
  have hpend : (p.coefIgnored k).flag (F.SP_STAT_PEND k) = p.flag (F.SP_STAT_PEND k) :=
    congrArg (· != 0) (p.coefIgnored_get_stat k (by decide) (by decide))
  have hbank : (p.coefIgnored k).get (F.SP_STAT_BANK k) = p.get (F.SP_STAT_BANK k) :=
    p.coefIgnored_get_stat k (by decide) (by decide)
  exact ⟨_, (hserves hw).trans (congrArg s.ends hignored), p.coefIgnored_count k, p.coefIgnored_event k, hpend, hbank,
    p.coefIgnored_spCoef k, p.coefIgnored_spUnits k, p.coefIgnored_spares k⟩
end

section
/-! SUPPORT. The conditions under which a head starts (R352, R354). -/

namespace Sys2Proof.Machine

/-! ## The start of a head -/

/-- The record of a head holds none of the registers. -/
theorem State.setHead_spares (s : State) (n : Nat) (h : HeadRec) (written : List Nat) : s.Spares (s.setHead n h) written :=
  ⟨rfl, rfl, rfl, fun _ _ => rfl⟩

/-- Under its conditions the generator starts, with no scan and no FLP behind it. -/
theorem State.headStarts_of_ready {s : State} {n : Nat} (hpart : s.inReset = none) (hrun : s.flag (F.HEAD_CTRL_RUN n) = true)
    (hlock : s.flag (F.HEAD_STAT_PLL_LOCK n) = true) (hstopped : s.flag (F.HEAD_STAT_RUNNING n) = false)
    (hanswers : s.answers .head n 0 = true) (hnamed : s.named 0x05 n = true) (htiming : s.timingMeets n = true)
    (happly : s.applying = none) :
    s.headStarts n =
      (s.setHead n { s.head n with scan := false, flp := none }).raise (F.HEAD_STAT_RUNNING n) := by
  unfold State.headStarts
  rw [hpart, hrun, hlock, hstopped, hanswers, hnamed, htiming, happly]
  rfl

/-- The event needs RUN, the lock of the PLL, a plan that names the head, and timing within its limits (R352, R354). -/
theorem State.conditions_of_headStarts_ne {s : State} {n : Nat} (h : s.headStarts n ≠ s) :
    s.flag (F.HEAD_CTRL_RUN n) = true ∧ s.flag (F.HEAD_STAT_PLL_LOCK n) = true ∧ s.named 0x05 n = true ∧
      s.timingMeets n = true := by
  unfold State.headStarts at h
  have hguard := (ite_ne_right_iff.mp h).1
  simp only [Bool.and_eq_true] at hguard
  obtain ⟨⟨⟨⟨⟨⟨⟨hrun, hlock⟩, -⟩, -⟩, hnamed⟩, htiming⟩, -⟩, -⟩ := hguard
  exact ⟨hrun, hlock, hnamed, htiming⟩

/-- With one of these conditions missing the event has no effect. -/
theorem State.headStarts_of_unmet {s : State} {n : Nat}
    (h : s.flag (F.HEAD_CTRL_RUN n) = false ∨ s.flag (F.HEAD_STAT_PLL_LOCK n) = false ∨ s.named 0x05 n = false ∨
      s.timingMeets n = false) :
    s.headStarts n = s := by
  by_contra hne
  obtain ⟨hrun, hlock, hnamed, htiming⟩ := State.conditions_of_headStarts_ne hne
  simp [hrun, hlock, hnamed, htiming] at h

end Sys2Proof.Machine

open Sys2Proof Sys2Proof.Machine

/-- Settles O18: under all the conditions the start raises RUNNING and writes the head's record beside it (`headStarts_of_ready`,
`setHead_spares`); an effect needs each of the four that the second clause denies (`conditions_of_headStarts_ne`). -/
theorem headStartsOnlyUnderItsConditions : Obligations.HeadStartsOnlyUnderItsConditions := by
  intro s n hn hpart
  have hexec : exec (.headStart n) s = .next (s.ended (s.headStarts n)) := State.takes rfl (decide_eq_true hn) hpart
  constructor
  · intro hrun hlock hstopped hanswers hnamed htiming happly
    have hstart := State.headStarts_of_ready hpart hrun hlock hstopped hanswers hnamed htiming happly
    exact ⟨_, hexec.trans (congrArg s.ends hstart), State.flag_raise_bit _ _ (by decide),
      (s.setHead_spares n _ _).set (F.HEAD_STAT_RUNNING n) 1 List.mem_cons_self⟩
  · intro hunmet
    exact ⟨s, hexec.trans (congrArg s.ends (State.headStarts_of_unmet hunmet)), rfl⟩
end

section
/-! SUPPORT. A count that fills its register, and a link frame dropped for its CRC or its framing (R484). -/

namespace Sys2Proof.Machine

/-- A field that fills its register holds the register's number. -/
theorem State.get_whole (s : State) (a : Nat) : s.get ⟨a, 31, 0⟩ = s.word a :=
  calc s.get ⟨a, 31, 0⟩
      = s.word a % 2 ^ 32 := congrArg (· % 2 ^ 32) (Nat.div_one _)
    _ = s.word a := Nat.mod_eq_of_lt (s.rd a).isLt

/-- A counter that fills its register advances by one and stops at the largest number of 32 bits. -/
theorem State.word_inc_whole (s : State) (a : Nat) : (s.inc ⟨a, 31, 0⟩).word a = min (s.word a + 1) (2 ^ 32 - 1) :=
  calc (s.inc ⟨a, 31, 0⟩).word a
      = (s.inc ⟨a, 31, 0⟩).get ⟨a, 31, 0⟩ := (State.get_whole _ a).symm
    _ = min (s.get ⟨a, 31, 0⟩ + 1) (2 ^ 32 - 1) := s.get_inc_same ⟨a, 31, 0⟩ (Nat.zero_le 31) (by decide : 31 < 32)
    _ = min (s.word a + 1) (2 ^ 32 - 1) := by rw [s.get_whole a]

/-- A link that receives frames takes the rejection of one while the part runs (R484). -/
theorem State.wlkFrameReject_takes {s : State} {link : Link} (why : FrameFault) (h : 3 ≤ s.get (linkStateF link)) :
    s.Takes (.wlkFrameReject link why) (·.linkReject link why false) :=
  State.takes rfl (decide_eq_true h)

/-- On the wall link a frame with a bad CRC or bad framing is counted in CRC_ERR, whatever the injection (R484). -/
theorem State.linkReject_wall_malformed (s : State) {why : FrameFault} (inj : Bool) (h : why = .crc ∨ why = .framing) :
    s.linkReject .wall why inj = s.inc F.WLK_CRC_ERR_CNT :=
  if_pos h

end Sys2Proof.Machine

open Sys2Proof Sys2Proof.Machine

/-- Settles O19: the frame is counted in CRC_ERR alone (`linkReject_wall_malformed`), a count that fills its register
(`word_inc_whole`) and is the only write (`set_spares`). -/
theorem badFrameIsDroppedAndCounted : Obligations.BadFrameIsDroppedAndCounted := by
  intro s why hpart hreceives hwhy
  have hexec := State.wlkFrameReject_takes why hreceives hpart
  have hcount := s.linkReject_wall_malformed false hwhy
  exact ⟨s.inc F.WLK_CRC_ERR_CNT, hexec.trans (congrArg s.ends hcount), s.word_inc_whole R.WLK_CRC_ERR,
    State.set_links _ _ _, State.set_streams _ _ _, State.set_due _ _ _, s.set_spares F.WLK_CRC_ERR_CNT _⟩
end

section
/-! SUPPORT. The safe states: how a reset holds TWIN_ACT low, and what a TS clock leaves (R521, R593). -/

namespace Sys2Proof.Machine

/-! ## The end of a command -/

theorem State.resetWatch_inReset (s : State) : s.resetWatch.inReset = s.inReset := by
  unfold State.resetWatch
  cases s.inReset.isSome <;> rfl

/-- In every reset the end of a command holds TWIN_ACT low, whatever the command did to it. -/
theorem State.resetWatch_actLow {s : State} (h : s.inReset.isSome = true) :
    s.resetWatch.flag F.TWIN_STAT_ACT = false := by
  unfold State.resetWatch
  rw [h]
  exact s.flag_drop_bit R.TWIN_STAT (by decide)

/-- A command ends in a safe state whatever its effect is: its last act holds TWIN_ACT low, and it takes no time. -/
theorem State.ended_safe {s : State} (h : s.ns % 2 = 0) (t : State) : (s.ended t).Safe := by
  refine ⟨fun hr => State.resetWatch_actLow ?_, h⟩
  exact (congrArg Option.isSome (State.resetWatch_inReset _)).symm.trans hr

/-! ## A TS clock -/

/-- A tick writes time and the records of time bases alone: what does not look at these records sees time pass. -/
theorem State.tick_keeps {γ : Type} (π : State → γ) (hπ : ∀ t x, π { t with tbs := x } = π t) (s : State) :
    π s.tick = π { s with ns := s.ns + 2 } := by
  refine foldl_keeps π (fun t k => ?_) _ _
  unfold State.tickTb
  cases t.tbInUse k
  · rfl
  · exact hπ t _

section
variable {γ : Type} (π : State → γ) (hregs : ∀ t x, π { t with regs := x } = π t) (hfree : ∀ t x, π { t with free := x } = π t)
include hregs

/-- A write of a field writes registers alone. -/
theorem State.set_keeps (s : State) (f : Fld) (v : Nat) : π (s.set f v) = π s :=
  hregs s _

include hfree

/-- An update of the tolerance writes registers and takes a free value alone. -/
theorem State.tolUpdate_keeps (s : State) (n : Nat) : π (s.tolUpdate n) = π s :=
  calc π (s.tolUpdate n)
      = π ((s.set (F.HEAD_TOL_US n) (s.tolNow n)).set (F.HEAD_TOL_MIN_US n) _) := hfree _ _
    _ = π (s.set (F.HEAD_TOL_US n) (s.tolNow n)) := State.set_keeps π hregs _ _ _
    _ = π s := State.set_keeps π hregs _ _ _

/-- A TS clock writes time, records of time bases, registers and the count of free values alone. -/
theorem State.clock_keeps (htbs : ∀ t x, π { t with tbs := x } = π t) (s : State) :
    π s.clock = π { s with ns := s.ns + 2 } := by
  have htick := State.tick_keeps π htbs s
  unfold State.clock
  dsimp only
  split
  · refine (foldl_keeps π (fun t n => ?_) _ _).trans htick
    cases t.headLive n
    · rfl
    · exact State.tolUpdate_keeps π hregs hfree t n
  · exact htick

end

theorem State.clock_ns (s : State) : s.clock.ns = s.ns + 2 :=
  State.clock_keeps (·.ns) (fun _ _ => rfl) (fun _ _ => rfl) (fun _ _ => rfl) s

theorem State.clock_inReset (s : State) : s.clock.inReset = s.inReset :=
  State.clock_keeps (·.inReset) (fun _ _ => rfl) (fun _ _ => rfl) (fun _ _ => rfl) s

theorem State.headLive_inReset {s : State} (h : s.inReset.isSome = true) (n : Nat) : s.headLive n = false := by
  unfold State.headLive
  rw [Option.isNone_eq_false_iff.mpr h, Bool.and_false]

/-- No head runs in a reset, so a TS clock there takes no tolerance. -/
theorem State.clock_eq_tick {s : State} (h : s.inReset.isSome = true) : s.clock = s.tick := by
  have hr : s.tick.inReset.isSome = true :=
    (State.tick_keeps (·.inReset.isSome) (fun _ _ => rfl) s).trans h
  unfold State.clock
  dsimp only
  split
  · refine List.foldl_fixed' (fun n => ?_) _
    rw [State.headLive_inReset hr n, State.cond_false]
  · rfl

theorem State.clock_safe {s : State} (h : s.Safe) : s.clock.Safe := by
  obtain ⟨hact, hns⟩ := h
  constructor
  · intro hr
    rw [State.clock_inReset] at hr
    rw [State.clock_eq_tick hr]
    exact (State.tick_keeps (·.flag F.TWIN_STAT_ACT) (fun _ _ => rfl) s).trans (hact hr)
  · rw [State.clock_ns]
    omega

/-! ## A step -/

/-- A step is a TS clock, or the end of a command that takes no time. -/
theorem step_cases {s t : State} (h : step s = .next t) :
    t = s.clock ∨ ∃ rest u, t = State.ended { s with pending := rest } u := by
  unfold step at h
  split at h
  next c rest _ =>
    obtain ⟨u, hu⟩ := exec_ends c { s with pending := rest }
    exact .inr ⟨rest, u, Host.Outcome.next.inj (h.symm.trans hu)⟩
  next => exact .inl (Host.Outcome.next.inj h).symm

end Sys2Proof.Machine

open Sys2Proof Sys2Proof.Machine

/-- Settles O5: a step is a command, which ends safe (`ended_safe`), or a TS clock, which in a reset leaves every register as it
was (`clock_safe`). -/
theorem stepKeepsSafe : Obligations.StepKeepsSafe := by
  intro s t hs ht
  rcases step_cases ht with h | ⟨rest, u, h⟩
  · rw [h]
    exact State.clock_safe hs
  · rw [h]
    exact State.ended_safe (s := { s with pending := rest }) hs.2 u
end

section
/-! SUPPORT. A request to switch over on a part that is not paired (R552, R555). -/

namespace Sys2Proof.Machine

/-- OP of TWIN.CTRL has the bits of OP of PLAN.CTRL. -/
theorem asking_twinOp (w : Wr) {op : Nat} (h : op < 16) : (asking w F.TWIN_CTRL_OP op).data.toNat % 16 = op :=
  asking_planOp w h

/-- SWITCH, PLANNED and DECLARE_FAULT are the write of TWIN.CTRL with their OP. -/
theorem State.twinRequest_serves {s : State} {w : Wr} {op : Nat} {c : Instr}
    (h : op = 1 ∧ c = .twinSwitch w ∨ op = 2 ∧ c = .twinPlanned w ∨ op = 3 ∧ c = .declareFault w) :
    (1 ≤ op ∧ op ≤ 3) ∧
    s.Serves c (asking w F.TWIN_CTRL_OP op) G.TWIN_CTRL (·.writeTwinCtrl (asking w F.TWIN_CTRL_OP op)) := by
  obtain ⟨rfl, rfl⟩ | ⟨rfl, rfl⟩ | ⟨rfl, rfl⟩ := h <;>
    exact ⟨by decide, State.serves_asking rfl rfl rfl⟩

theorem State.twinCommand_of_lone {s : State} (h : s.paired = false) (op : Nat) : s.twinCommand op = s.twinRefuse 4 := by
  unfold State.twinCommand
  rw [h]
  rfl

/-- With its KEY, each OP of TWIN.CTRL is refused with 4 where no twin is paired. -/
theorem State.writeTwinCtrl_of_lone {s : State} {w : Wr} (hw : s.permits w G.TWIN_CTRL = true)
    (hkey : bitsOf w.data.toNat 31 24 = 0xA5) (hop : 1 ≤ w.data.toNat % 16 ∧ w.data.toNat % 16 ≤ 3)
    (hlone : (s.accepted w.master R.TWIN_CTRL).paired = false) :
    (s.accepted w.master R.TWIN_CTRL).writeTwinCtrl w = (s.accepted w.master R.TWIN_CTRL).twinRefuse 4 := by
  refine (State.guarded_permits hw _).trans ?_
  dsimp only
  rw [if_neg (not_not.mpr hkey), if_pos hop]
  exact State.twinCommand_of_lone hlone _

section
variable (s : State) (code : Nat)

/-- REFUSED_EV is in another register than the code. -/
theorem State.twinRefuse_code : (s.twinRefuse code).get F.TWIN_LAST_SWITCH_REFUSE = code % 256 :=
  (State.get_set_other _ F.TWIN_EVT_REFUSED_EV F.TWIN_LAST_SWITCH_REFUSE 1 (by decide)).trans
    (s.get_set_same F.TWIN_LAST_SWITCH_REFUSE code (by decide) (by decide))

theorem State.twinRefuse_event : (s.twinRefuse code).flag F.TWIN_EVT_REFUSED_EV = true :=
  State.flag_raise_bit _ _ (by decide)

/-- CAUSE shares its register with the code but none of its bits. -/
theorem State.twinRefuse_cause :
    (s.twinRefuse code).get F.TWIN_LAST_SWITCH_CAUSE = s.get F.TWIN_LAST_SWITCH_CAUSE :=
  (State.get_set_other _ F.TWIN_EVT_REFUSED_EV F.TWIN_LAST_SWITCH_CAUSE 1 (by decide)).trans
    (s.get_set_apart F.TWIN_LAST_SWITCH_REFUSE F.TWIN_LAST_SWITCH_CAUSE code (by decide) (by decide) (by decide) (by decide))

theorem State.twinRefuse_spares : s.Spares (s.twinRefuse code) [R.TWIN_LAST_SWITCH, R.TWIN_EVT] :=
  ((State.Spares.refl s _).set F.TWIN_LAST_SWITCH_REFUSE code List.mem_cons_self).set
    F.TWIN_EVT_REFUSED_EV 1 (List.mem_cons_of_mem _ List.mem_cons_self)

/-- The role is in STAT, which a refusal does not write. -/
theorem State.twinRefuse_role : (s.twinRefuse code).role = s.role := by
  obtain ⟨-, -, -, hrd⟩ := s.twinRefuse_spares code
  unfold State.role State.get
  rw [hrd F.TWIN_STAT_ROLE.addr (by decide)]

theorem State.twinRefuse_twin : (s.twinRefuse code).twin = s.twin :=
  (State.set_twin _ _ _).trans (State.set_twin _ _ _)

end

end Sys2Proof.Machine

open Sys2Proof Sys2Proof.Machine

/-- Settles O20: each of the three commands is a write of TWIN.CTRL (`twinRequest_serves`), which without a paired twin is the
refusal with 4 (`writeTwinCtrl_of_lone`); a refusal writes LAST_SWITCH.REFUSE and REFUSED_EV alone (`twinRefuse_spares`). -/
theorem switchOfALonePartIsRefused : Obligations.SwitchOfALonePartIsRefused := by
  intro s w op c hc hw hkey p hlone
  obtain ⟨hop, hserves⟩ := State.twinRequest_serves (s := s) hc
  have hrefused := State.writeTwinCtrl_of_lone hw hkey ((asking_twinOp w (by omega : op < 16)).symm ▸ hop) hlone
  exact ⟨p.twinRefuse 4, (hserves hw).trans (congrArg s.ends hrefused), p.twinRefuse_code 4, p.twinRefuse_event 4,
    p.twinRefuse_role 4, p.twinRefuse_twin 4, p.twinRefuse_cause 4, p.twinRefuse_spares 4⟩
end

section
/-! SUPPORT. The states of power-on and right after reset (R782, R783, R813). -/

namespace Sys2Proof.Machine

theorem State.powerOn_safe : State.powerOn.Safe :=
  ⟨fun _ => by decide +kernel, rfl⟩

theorem State.powerOn_canonical : State.powerOn.Canonical :=
  ⟨Tbl.wf_nil _, Tbl.wf_nil _⟩

/-- Right after reset the part runs, and no time has passed. -/
theorem State.reset_safe : State.reset.Safe :=
  ⟨(nomatch ·), rfl⟩

/-- What the end of a POWER-ON reset writes is in rising order and differs from what unlisted registers hold. -/
theorem resetRegs_wf : Tbl.Wf resetWord resetRegs := by
  decide +kernel

theorem State.reset_canonical : State.reset.Canonical :=
  ⟨resetRegs_wf, Tbl.wf_nil _⟩

/-- With REFCLK good and GPIO0 low a POWER-ON reset ends in the state right after reset (R789, R791, R813). -/
theorem State.powerOn_resetEnds : ({ State.powerOn with clk := { good := 10 } } : State).resetEnds false = State.reset := by
  decide +kernel

/-- Right after reset nothing is left to do at the end of a command. -/
theorem finish_reset : finish State.reset = State.reset := by
  decide +kernel

end Sys2Proof.Machine

open Sys2Proof Sys2Proof.Machine

/-- Settles O6: the end of the POWER-ON reset makes the state right after reset (`powerOn_resetEnds`), and the end of that command
leaves it so (`finish_reset`). -/
theorem resetIsSafe : Obligations.ResetIsSafe := by
  refine ⟨State.powerOn_safe, State.powerOn_canonical, State.reset_safe, State.reset_canonical, ?_⟩
  calc exec (.resetEnd false) { State.powerOn with clk := { good := 10 } }
      = .next { finish (({ State.powerOn with clk := { good := 10 } } : State).resetEnds false) with pending := [], ns := 0 } := rfl
    _ = .next { finish State.reset with pending := [], ns := 0 } := by rw [State.powerOn_resetEnds]
    _ = .next State.reset := by rw [finish_reset]; rfl
end

section
/-! SUPPORT. An access of memory (R577): that it is one of `softAccess`, what comes before its transfer, and which bytes the
transfer changes. -/

namespace Sys2Proof.Machine

/-! ## The command -/

/-- Outside control space, and for the host everywhere, the command is an access of memory. -/
theorem State.memAccess_takes {s : State} {x : Access} (h : x.master = 8 ∨ spaceOf x.addr ≠ .cspace) :
    s.Takes (.memAccess x) (·.softAccess x) := by
  intro hpart
  have hmem : ¬ (x.master ≠ 8 ∧ spaceOf x.addr = .cspace) := fun hc => h.elim hc.1 (· hc.2)
  have haccess : s.access x = s.softAccess x := by
    unfold State.access
    rw [hpart]
    exact if_neg hmem
  exact congrArg s.ends haccess

/-- A software write of a decoder's or an encoder's buffers only notes its UNPREDICTABLE outcome (R234, R477). -/
theorem State.softAccess_keeps {γ : Type} (π : State → γ) (hπ : ∀ t v, π { t with unpred := v } = π t) (s : State)
    (x : Access) : π (s.softAccess x) = π (s.memAccess x) := by
  unfold State.softAccess
  dsimp only
  split
  · exact (foldl_keeps π (fun t _ => hπ t _) _ _).trans (foldl_keeps π (fun t _ => hπ t _) _ _)
  · rfl

/-! ## Errors that come up in stored codes -/

@[simp] theorem State.detectWith_memc (s : State) (inj : Bool) (code unit detail : Nat) :
    (s.detectWith inj code unit detail).memc = s.memc := by
  unfold State.detectWith
  dsimp only
  split <;> rfl

theorem State.tagError_recolour (s : State) (inj : Bool) (page : Nat) :
    (s.tagError inj page).memc.recolour = s.memc.recolour := by
  unfold State.tagError
  dsimp only
  split
  · rfl
  · rw [State.detectWith_memc]
    rfl

@[simp] theorem State.upset_mem (s : State) (u : Upsets) (a : Nat) : (s.upset u a).mem = s.mem :=
  State.cond_mem _ _ _ fun t => t.tagError_mem false (hbmPage a)

theorem State.upset_recolour (s : State) (u : Upsets) (a : Nat) : (s.upset u a).memc.recolour = s.memc.recolour := by
  unfold State.upset
  dsimp only
  cases u.tag && spaceOf a == .hbm
  · rfl
  · exact State.tagError_recolour _ _ _

theorem State.recolourClash_of_idle {s : State} (h : s.memc.recolour = none) (master a n : Nat) :
    s.recolourClash master a n = false := by
  unfold State.recolourClash
  rw [h]

/-! ## The three ways of an access -/

/-- The part as the access finds it: with the errors that have come up. -/
def State.found (s : State) (x : Access) : State :=
  s.upset x.upsets (s.accessAddr x)

/-- How many bytes the access covers. -/
def spanOf (x : Access) : Nat :=
  if x.write then x.data.length else x.size

section
variable {s : State} {x : Access}

theorem State.found_clear (h : s.memc.recolour = none) (n : Nat) :
    (s.found x).recolourClash x.master (s.accessAddr x) n = false :=
  State.recolourClash_of_idle ((s.upset_recolour _ _).trans h) _ _ _

/-- An access that meets a page being recoloured stores nothing of its own (R591). -/
theorem State.memAccess_clash (h : (s.found x).recolourClash x.master (s.accessAddr x) (spanOf x) = true) :
    (s.memAccess x).mem = s.mem := by
  have hmem : (s.found x).mem = s.mem := s.upset_mem _ _
  unfold State.memAccess
  exact (congrArg State.mem (if_pos h)).trans hmem

theorem State.memAccess_write (hw : x.write = true)
    (h : (s.found x).recolourClash x.master (s.accessAddr x) (spanOf x) = false) :
    s.memAccess x =
      let p := (s.found x).masterWrite x.master (s.accessAddr x) x.data
      { p.2 with resp := some ⟨[], p.1.refused || p.1.failed⟩ } := by
  unfold State.memAccess
  exact (if_neg (Bool.eq_false_iff.mp h)).trans (if_pos hw)

theorem State.memAccess_read (hr : x.write = false)
    (h : (s.found x).recolourClash x.master (s.accessAddr x) x.size = false) :
    s.memAccess x =
      let p := (s.found x).masterRead x.master (s.accessAddr x) x.size
      { p.2 with resp := some ⟨p.1.data, p.1.refused || p.1.failed⟩ } := by
  have hspan : (if x.write then x.data.length else x.size) = x.size := if_neg (Bool.eq_false_iff.mp hr)
  unfold State.memAccess
  dsimp only
  rw [hspan]
  exact (if_neg (Bool.eq_false_iff.mp h)).trans (if_neg (Bool.eq_false_iff.mp hr))

end

/-- A read stores nothing, whether it is refused, performed or meets a page being recoloured. -/
theorem State.memAccess_read_mem {s : State} {x : Access} (hr : x.write = false) : (s.memAccess x).mem = s.mem := by
  have hspan : spanOf x = x.size := if_neg (Bool.eq_false_iff.mp hr)
  cases h : (s.found x).recolourClash x.master (s.accessAddr x) x.size with
  | true => exact State.memAccess_clash (hspan ▸ h)
  | false =>
    rw [State.memAccess_read hr h]
    exact (State.masterRead_mem _ _ _ _).trans (s.upset_mem _ _)

/-! ## Bytes that a write may change -/

/-- Of the bytes of memory, `t` differs from `s` in bytes of `bs` at `a` alone. -/
def State.Places (s t : State) (a : Nat) (bs : List Byte) : Prop :=
  ∀ j, t.byte j = s.byte j ∨ a ≤ j ∧ bs[j - a]? = some (t.byte j)

/-- Every byte of `bs` that belongs at `k` addresses from `b` on is there, `bs` lying at `a`. -/
def State.HoldsAt (t : State) (a : Nat) (bs : List Byte) (b k : Nat) : Prop :=
  ∀ j, b ≤ j → j < b + k → bs[j - a]? = some (t.byte j)

theorem State.byte_of_mem {s t : State} (h : t.mem = s.mem) (j : Nat) : t.byte j = s.byte j := by
  unfold State.byte
  rw [h]

section
variable {s t u : State} {a : Nat} {bs : List Byte}

theorem State.Places.of_mem (h : t.mem = s.mem) : s.Places t a bs :=
  fun j => .inl (State.byte_of_mem h j)

theorem State.Places.trans (h : s.Places t a bs) (h' : t.Places u a bs) : s.Places u a bs := by
  intro j
  rcases h' j with hu | hu
  · rw [hu]
    exact h j
  · exact .inr hu

/-- A byte outside those of `bs` reads as before. -/
theorem State.Places.outside (h : s.Places t a bs) {j : Nat} (hj : ¬ (a ≤ j ∧ j < a + bs.length)) : t.byte j = s.byte j := by
  rcases h j with hb | ⟨ha, hb⟩
  · exact hb
  · obtain ⟨hlt, -⟩ := List.getElem?_eq_some_iff.mp hb
    omega

/-- Bytes that are there stay there while only bytes of the same data are placed. -/
theorem State.HoldsAt.placed {b k : Nat} (hold : s.HoldsAt a bs b k) (h : s.Places t a bs) : t.HoldsAt a bs b k := by
  intro j hb hk
  rcases h j with hj | ⟨-, hj⟩
  · rw [hj]
    exact hold j hb hk
  · exact hj

/-! ## One write -/

theorem State.store_places (s : State) (a : Nat) (bs : List Byte) : s.Places (s.store a bs) a bs := by
  intro j
  rw [State.byte_store]
  split
  · next h => exact .inr ⟨h.2.1, List.getElem?_eq_getElem h.2.2⟩
  · exact .inl rfl

/-- Outside the boot ROM all bytes stored are there. -/
theorem State.store_holds (s : State) (bs : List Byte) (ha : romSize ≤ a) : (s.store a bs).HoldsAt a bs a bs.length := by
  intro j hb hk
  have hj : romSize ≤ j ∧ a ≤ j ∧ j - a < bs.length := by omega
  rw [State.byte_store, dif_pos hj]
  exact List.getElem?_eq_getElem _

/-- A write to the boot ROM is refused, whoever makes it (R578). -/
theorem State.refusal_rom (s : State) (master n : Nat) (h : a < romSize) : s.refusal master a n true = some 5 := by
  have hrom : spaceOf a = .rom := if_pos h
  unfold State.refusal
  simp [hrom]

theorem State.checked_rom (s : State) (master n : Nat) (h : a < romSize) : (s.checked master a n true).1 = true := by
  unfold State.checked
  dsimp only
  rw [State.refusal_rom _ _ _ h]

theorem State.writeOne_refused (s : State) (master a : Nat) (bs : List Byte) :
    (s.writeOne master a bs).1.refused = (s.checked master a bs.length true).1 := by
  unfold State.writeOne
  split <;> next h => rw [h]

variable (s)

theorem State.writeOne_places (master a : Nat) (bs : List Byte) : s.Places (s.writeOne master a bs).2 a bs := by
  have hmem := s.writeOne_mem master a bs
  split at hmem
  · exact .of_mem hmem
  · exact (s.store_places a bs).trans (.of_mem hmem)

theorem State.writeOne_holds {master : Nat} (h : (s.writeOne master a bs).1.refused = false) :
    (s.writeOne master a bs).2.HoldsAt a bs a bs.length := by
  have hmem := s.writeOne_mem master a bs
  rw [h, if_neg Bool.false_ne_true] at hmem
  have ha : romSize ≤ a := by
    by_contra hrom
    rw [State.writeOne_refused, State.checked_rom _ _ _ (Nat.lt_of_not_le hrom)] at h
    cases h
  exact (s.store_holds bs ha).placed (.of_mem hmem)

end

/-! ## A transfer in several writes -/

theorem getElem?_of_slice {bs : List Byte} {o n i : Nat} {v : Byte} (h : (slice bs o n)[i]? = some v) :
    bs[o + i]? = some v := by
  unfold slice at h
  rw [List.getElem?_take] at h
  split at h
  · rwa [List.getElem?_drop] at h
  · cases h

/-- A piece of the data, placed where it belongs, places bytes of the data. -/
theorem State.Places.of_slice {s t : State} {a b k : Nat} {bs : List Byte} (hb : a ≤ b)
    (h : s.Places t b (slice bs (b - a) k)) : s.Places t a bs := by
  intro j
  rcases h j with hj | ⟨hle, hj⟩
  · exact .inl hj
  · have hpos : b - a + (j - b) = j - a := by omega
    exact .inr ⟨by omega, hpos ▸ getElem?_of_slice hj⟩

theorem State.HoldsAt.of_slice {t : State} {a b k : Nat} {bs : List Byte} (hb : a ≤ b) (hk : b + k ≤ a + bs.length)
    (h : t.HoldsAt b (slice bs (b - a) k) b (slice bs (b - a) k).length) : t.HoldsAt a bs b k := by
  intro j hlo hhi
  have hlen : (slice bs (b - a) k).length = k := by
    unfold slice
    rw [List.length_take, List.length_drop]
    omega
  have hpos : b - a + (j - b) = j - a := by omega
  exact hpos ▸ getElem?_of_slice (h j hlo (hlen.symm ▸ hhi))

/-- One access of a transfer of `bs` to `a`: the step of `dmaWrite`. -/
def dmaPut (master a : Nat) (bs : List Byte) (p : Xfer × State) (q : Nat × Nat) : Xfer × State :=
  if p.1.refused then p
  else
    let r := p.2.writeOne master q.1 (slice bs (q.1 - a) q.2)
    ({ refused := r.1.refused, failed := p.1.failed || r.1.failed }, r.2)

theorem State.dmaWrite_eq (s : State) (master a : Nat) (bs : List Byte) :
    s.dmaWrite master a bs = (pieces (bs.length + 1) a bs.length).foldl (dmaPut master a bs) ({}, s) :=
  rfl

section
variable {master a : Nat} {bs : List Byte}

theorem dmaPut_of_refused {p : Xfer × State} (h : p.1.refused = true) (q : Nat × Nat) : dmaPut master a bs p q = p :=
  if_pos h

/-- A refused access ends a transfer. -/
theorem foldl_dmaPut_of_refused {p : Xfer × State} (h : p.1.refused = true) (qs : List (Nat × Nat)) :
    qs.foldl (dmaPut master a bs) p = p := by
  induction qs with
  | nil => rfl
  | cons q qs ih => rw [List.foldl_cons, dmaPut_of_refused h, ih]

theorem dmaPut_places (p : Xfer × State) {q : Nat × Nat} (hq : a ≤ q.1) : p.2.Places (dmaPut master a bs p q).2 a bs := by
  unfold dmaPut
  split
  · exact .of_mem rfl
  · exact .of_slice hq (p.2.writeOne_places master q.1 _)

theorem dmaPut_holds {p : Xfer × State} {q : Nat × Nat} (hq : a ≤ q.1 ∧ q.1 + q.2 ≤ a + bs.length)
    (h : (dmaPut master a bs p q).1.refused = false) : (dmaPut master a bs p q).2.HoldsAt a bs q.1 q.2 := by
  obtain ⟨hlo, hhi⟩ := hq
  unfold dmaPut at h ⊢
  split at h
  · next hp => exact absurd (h.symm.trans hp) Bool.false_ne_true
  · next hp =>
    rw [if_neg hp]
    exact .of_slice hlo hhi (p.2.writeOne_holds h)

theorem foldl_dmaPut_places {qs : List (Nat × Nat)} (hqs : ∀ q ∈ qs, a ≤ q.1) (p : Xfer × State) :
    p.2.Places (qs.foldl (dmaPut master a bs) p).2 a bs := by
  induction qs generalizing p with
  | nil => exact .of_mem rfl
  | cons q qs ih =>
    obtain ⟨hq, hrest⟩ := List.forall_mem_cons.mp hqs
    exact (dmaPut_places p hq).trans (ih hrest _)

/-- After a transfer that is not refused every piece of the data is there. -/
theorem foldl_dmaPut_holds {qs : List (Nat × Nat)} (hqs : ∀ q ∈ qs, a ≤ q.1 ∧ q.1 + q.2 ≤ a + bs.length)
    {p : Xfer × State} (h : (qs.foldl (dmaPut master a bs) p).1.refused = false) :
    ∀ q ∈ qs, (qs.foldl (dmaPut master a bs) p).2.HoldsAt a bs q.1 q.2 := by
  induction qs generalizing p with
  | nil => exact fun _ hq => nomatch hq
  | cons q qs ih =>
    obtain ⟨hq, hrest⟩ := List.forall_mem_cons.mp hqs
    have hfirst : (dmaPut master a bs p q).1.refused = false := by
      by_contra hr
      have hr := Bool.eq_true_of_not_eq_false hr
      rw [List.foldl_cons, foldl_dmaPut_of_refused hr, hr] at h
      cases h
    refine List.forall_mem_cons.mpr ⟨?_, ih hrest h⟩
    exact (dmaPut_holds hq hfirst).placed (foldl_dmaPut_places (fun r hr => (hrest r hr).1) _)

end

/-- Every access of a transfer lies within it. -/
theorem mem_pieces_within {fuel a n : Nat} {q : Nat × Nat} (h : q ∈ pieces fuel a n) : a ≤ q.1 ∧ q.1 + q.2 ≤ a + n := by
  induction fuel generalizing a n with
  | zero => cases h
  | succ fuel ih =>
    unfold pieces at h
    split at h
    · cases h
    · rcases List.mem_cons.mp h with rfl | h
      · dsimp only
        omega
      · have := ih h
        omega

/-- The accesses of a transfer cover all its bytes. -/
theorem exists_mem_pieces {fuel a n j : Nat} (hfuel : n < fuel) (hlo : a ≤ j) (hhi : j < a + n) :
    ∃ q ∈ pieces fuel a n, q.1 ≤ j ∧ j < q.1 + q.2 := by
  induction fuel generalizing a n with
  | zero => omega
  | succ fuel ih =>
    unfold pieces
    rw [if_neg (by omega)]
    dsimp only
    by_cases hj : j < a + min n (256 - a % 256)
    · exact ⟨_, List.mem_cons_self, hlo, hj⟩
    · obtain ⟨q, hq, hin⟩ := ih (a := a + min n (256 - a % 256)) (n := n - min n (256 - a % 256)) (by omega) (by omega)
        (by omega)
      exact ⟨q, List.mem_cons_of_mem _ hq, hin⟩

/-! ## A write of any length -/

section
variable (s : State) {master a : Nat} {bs : List Byte}

theorem State.dmaWrite_places : s.Places (s.dmaWrite master a bs).2 a bs :=
  foldl_dmaPut_places (fun _ hq => (mem_pieces_within hq).1) ({}, s)

theorem State.dmaWrite_holds (h : (s.dmaWrite master a bs).1.refused = false) :
    (s.dmaWrite master a bs).2.HoldsAt a bs a bs.length := by
  intro j hlo hhi
  obtain ⟨q, hq, hqlo, hqhi⟩ := exists_mem_pieces (Nat.lt_succ_self bs.length) hlo hhi
  exact foldl_dmaPut_holds (fun _ hr => mem_pieces_within hr) h q hq j hqlo hqhi

theorem State.masterWrite_places : s.Places (s.masterWrite master a bs).2 a bs := by
  unfold State.masterWrite
  split
  · exact s.writeOne_places master a bs
  · exact s.dmaWrite_places

theorem State.masterWrite_holds (h : (s.masterWrite master a bs).1.refused = false) :
    (s.masterWrite master a bs).2.HoldsAt a bs a bs.length := by
  unfold State.masterWrite at h ⊢
  split at h
  · next hlen =>
    rw [if_pos hlen]
    exact s.writeOne_holds h
  · next hlen =>
    rw [if_neg hlen]
    exact s.dmaWrite_holds h

end

section
variable {s : State} {x : Access}

theorem State.memAccess_places : s.Places (s.memAccess x) (s.accessAddr x) x.data := by
  cases hw : x.write with
  | false => exact .of_mem (State.memAccess_read_mem hw)
  | true =>
    cases hc : (s.found x).recolourClash x.master (s.accessAddr x) (spanOf x) with
    | true => exact .of_mem (State.memAccess_clash hc)
    | false =>
      rw [State.memAccess_write hw hc]
      exact (State.Places.of_mem (s.upset_mem _ _)).trans ((s.found x).masterWrite_places)

/-- A write answered without an error has stored all its data. -/
theorem State.memAccess_holds (hw : x.write = true) (hr : s.memc.recolour = none)
    (h : (s.memAccess x).resp = some ⟨[], false⟩) :
    (s.memAccess x).HoldsAt (s.accessAddr x) x.data (s.accessAddr x) x.data.length := by
  rw [State.memAccess_write hw (State.found_clear hr _)] at h ⊢
  obtain ⟨-, herr⟩ := Resp.mk.inj (Option.some.inj h)
  obtain ⟨hrefused, -⟩ := Bool.or_eq_false_iff.mp herr
  exact (s.found x).masterWrite_holds hrefused

end

end Sys2Proof.Machine

open Sys2Proof Sys2Proof.Machine

/-- Settles O11: the effect is `memAccess` in memory and response (`softAccess_keeps`); a read stores nothing
(`memAccess_read_mem`), a write nothing but its data (`memAccess_places`), and all of it where no access is refused
(`memAccess_holds`). -/
theorem accessChangesItsBytesOnly : Obligations.AccessChangesItsBytesOnly := by
  intro s x hpart hspace
  have hmem : (s.softAccess x).mem = (s.memAccess x).mem := State.softAccess_keeps (·.mem) (fun _ _ => rfl) s x
  have hresp : (s.softAccess x).resp = (s.memAccess x).resp := State.softAccess_keeps (·.resp) (fun _ _ => rfl) s x
  refine ⟨s.softAccess x, State.memAccess_takes hspace hpart, ?_, ?_, ?_⟩
  · intro hread
    exact hmem.trans (State.memAccess_read_mem hread)
  · intro b hb
    exact (State.byte_of_mem hmem b).trans (State.memAccess_places.outside hb)
  · intro hwrite hidle hok i hi
    have hdata := State.memAccess_holds hwrite hidle (hresp.symm.trans hok) (s.accessAddr x + i) (by omega) (by omega)
    rw [Nat.add_sub_cancel_left, ← State.byte_of_mem hmem] at hdata
    exact (List.getElem?_eq_some_iff.mp hdata).2.symm
end

section
/-! SUPPORT. An access that the checker of its master refuses (R577, R579). -/

namespace Sys2Proof.Machine

/-! ## The checker -/

theorem State.injSpend_of_unarmed {s : State} {d unit : Nat} (h : s.injArmed d unit = false) : s.injSpend d unit = s :=
  if_neg (Bool.eq_false_iff.mp h)

theorem State.tagPoint_of_unarmed {s : State} (h : s.injArmed 0x32 0 = false) (a : Nat) : s.tagPoint a = s :=
  if_neg fun hp => Bool.eq_false_iff.mp h hp.2

section
variable {s : State} {master a n : Nat}

/-- Without an injection at the checker, a refused access is recorded for its reason. -/
theorem State.checked_of_refusal {write : Bool} {reason : Nat} (hchk : s.injArmed 0x33 master = false)
    (htag : s.injArmed 0x32 0 = false) (h : s.refusal master a n write = some reason) :
    s.checked master a n write = (true, s.recordRefusal master a n write reason) := by
  unfold State.checked
  dsimp only
  rw [hchk, State.injSpend_of_unarmed hchk, State.tagPoint_of_unarmed htag, h]
  rfl

theorem State.readOne_of_checked {t : State} (h : s.checked master a n false = (true, t)) :
    s.readOne master a n = ({ data := deadBytes n, refused := true }, t) := by
  unfold State.readOne
  rw [h]

theorem State.writeOne_of_checked {t : State} {bs : List Byte} (h : s.checked master a bs.length true = (true, t)) :
    s.writeOne master a bs = ({ refused := true }, t) := by
  unfold State.writeOne
  rw [h]

end

/-! ## The record of a refusal -/

/-- A detection counts in a register of its own. -/
theorem State.detectWith_get {s : State} {code : Nat} {f : Fld} (h : f.addr ≠ R.FLT_DET_CNT code) (inj : Bool)
    (unit detail : Nat) : (s.detectWith inj code unit detail).get f = s.get f := by
  have hcount : (s.inc (F.FLT_DET_CNT_CNT code)).get f = s.get f := State.get_set_other _ _ _ _ h
  unfold State.detectWith
  dsimp only
  split <;> exact hcount

theorem State.get_setWord_other (s : State) {a : Nat} (v : Nat) {f : Fld} (h : f.addr ≠ a) :
    (s.setWord a v).get f = s.get f := by
  unfold State.get
  rw [State.rd_setWord_other _ _ h]

/-- VIOL_CNT is none of the other registers that the record of a refusal writes. -/
theorem violCnt_ne {master : Nat} (hm : master < 128) :
    R.CHK_VIOL_CNT master ≠ R.CHK_FIRST_ADDR_LO master ∧ R.CHK_VIOL_CNT master ≠ R.CHK_FIRST_ADDR_HI master ∧
    R.CHK_VIOL_CNT master ≠ R.CHK_FIRST_INFO master ∧ R.CHK_VIOL_CNT master ≠ R.CHK_VSTAT master ∧
    R.CHK_VIOL_CNT master ≠ R.FLT_DET_CNT 0x33 := by
  unfold R.CHK_VIOL_CNT R.CHK_FIRST_ADDR_LO R.CHK_FIRST_ADDR_HI R.CHK_FIRST_INFO R.CHK_VSTAT R.FLT_DET_CNT
  omega

/-- VIOL_CNT counts the refusal, whether or not it is the one that FIRST_ADDR and FIRST_INFO record (R579). -/
theorem State.recordRefusal_count (s : State) {master : Nat} (hm : master < 128) (a n : Nat) (write : Bool) (reason : Nat) :
    (s.recordRefusal master a n write reason).get (F.CHK_VIOL_CNT_CNT master) =
      min (s.get (F.CHK_VIOL_CNT_CNT master) + 1) (2 ^ 32 - 1) := by
  have hcount : (s.inc (F.CHK_VIOL_CNT_CNT master)).get (F.CHK_VIOL_CNT_CNT master) = _ :=
    s.get_inc_same (F.CHK_VIOL_CNT_CNT master) (Nat.zero_le 31) (by decide : 31 < 32)
  obtain ⟨hlo, hhi, hinfo, hvalid, hdet⟩ := violCnt_ne hm
  unfold State.recordRefusal State.recordRefusalWith
  dsimp only
  split
  · exact hcount
  · rw [State.detectWith_get hdet, State.raise, State.get_set_other _ _ _ _ hvalid, State.get_setWord_other _ _ hinfo,
      State.get_setWord_other _ _ hhi, State.get_setWord_other _ _ hlo, hcount]
    rfl

/-! ## The access -/

section
variable {s : State} {x : Access}

/-- Without an upset only the marks of corrected words may change: what does not look at the marks is as it was. -/
theorem State.found_of_no_upset {γ : Type} (π : State → γ) (h : x.upsets = ⟨[], [], false⟩)
    (hπ : ∀ ue ce, π { s with memc := { s.memc with ue := ue, ce := ce } } = π s) : π (s.found x) = π s := by
  unfold State.found
  rw [h]
  exact hπ _ _

/-- The checker refuses the access it finds for the reason that held before. -/
theorem State.found_checked (hu : x.upsets = ⟨[], [], false⟩) (hchk : s.injArmed 0x33 x.master = false)
    (htag : s.injArmed 0x32 0 = false) {n reason : Nat}
    (h : s.refusal x.master (s.accessAddr x) n x.write = some reason) :
    (s.found x).checked x.master (s.accessAddr x) n x.write =
      (true, (s.found x).recordRefusal x.master (s.accessAddr x) n x.write reason) :=
  State.checked_of_refusal
    ((State.found_of_no_upset (·.injArmed 0x33 x.master) hu fun _ _ => rfl).trans hchk)
    ((State.found_of_no_upset (·.injArmed 0x32 0) hu fun _ _ => rfl).trans htag)
    ((State.found_of_no_upset (·.refusal x.master (s.accessAddr x) n x.write) hu fun _ _ => rfl).trans h)

/-- An access that its checker refuses is answered with an error, and a read with the pattern; all else is the record. -/
theorem State.memAccess_of_checked {t : State} (hidle : s.memc.recolour = none) (hn : spanOf x ≤ 256)
    (h : (s.found x).checked x.master (s.accessAddr x) (spanOf x) x.write = (true, t)) :
    s.memAccess x = { t with resp := some ⟨if x.write then [] else deadBytes (spanOf x), true⟩ } := by
  cases hw : x.write with
  | true =>
    have hspan : spanOf x = x.data.length := if_pos hw
    rw [hw, hspan] at h
    have hone : (s.found x).masterWrite x.master (s.accessAddr x) x.data = ({ refused := true }, t) :=
      (if_pos (hspan ▸ hn)).trans (State.writeOne_of_checked h)
    rw [State.memAccess_write hw (State.found_clear hidle _), hone]
    rfl
  | false =>
    have hspan : spanOf x = x.size := if_neg (Bool.eq_false_iff.mp hw)
    rw [hw, hspan] at h
    have hone : (s.found x).masterRead x.master (s.accessAddr x) x.size =
        ({ data := deadBytes x.size, refused := true }, t) :=
      (if_pos (hspan ▸ hn)).trans (State.readOne_of_checked h)
    rw [State.memAccess_read hw (State.found_clear hidle _), hone, hspan]
    rfl

end

end Sys2Proof.Machine

open Sys2Proof Sys2Proof.Machine

/-- Settles O12: the checker refuses the access (`found_checked`), so that its answer and the record are all it leaves
(`memAccess_of_checked`); the record stores nothing and counts the refusal (`recordRefusal_count`). -/
theorem refusedAccessHasNoEffectOnMemory : Obligations.RefusedAccessHasNoEffectOnMemory := by
  intro s x hpart hspace hu hidle hm n _ hn hchk hrefused htag
  obtain ⟨reason, hreason⟩ := Option.isSome_iff_exists.mp hrefused
  have heffect := State.memAccess_of_checked hidle hn (State.found_checked hu hchk htag hreason)
  have hkeeps {γ : Type} (π : State → γ) (hπ : ∀ t v, π { t with unpred := v } = π t) :
      π (s.softAccess x) = π { (s.found x).recordRefusal x.master (s.accessAddr x) (spanOf x) x.write reason with
        resp := some ⟨if x.write then [] else deadBytes (spanOf x), true⟩ } :=
    (State.softAccess_keeps π hπ s x).trans (congrArg π heffect)
  refine ⟨s.softAccess x, State.memAccess_takes hspace hpart, ?_, hkeeps (·.resp) fun _ _ => rfl, ?_⟩
  · calc (s.softAccess x).mem
        = ((s.found x).recordRefusal x.master (s.accessAddr x) (spanOf x) x.write reason).mem :=
          hkeeps (·.mem) fun _ _ => rfl
      _ = (s.found x).mem := State.recordRefusalWith_mem _ _ _ _ _ _ _
      _ = s.mem := s.upset_mem _ _
  · calc (s.softAccess x).get (F.CHK_VIOL_CNT_CNT x.master)
        = ((s.found x).recordRefusal x.master (s.accessAddr x) (spanOf x) x.write reason).get (F.CHK_VIOL_CNT_CNT x.master) :=
          hkeeps (·.get (F.CHK_VIOL_CNT_CNT x.master)) fun _ _ => rfl
      _ = min ((s.found x).get (F.CHK_VIOL_CNT_CNT x.master) + 1) (2 ^ 32 - 1) := State.recordRefusal_count _ hm _ _ _ _
      _ = min (s.get (F.CHK_VIOL_CNT_CNT x.master) + 1) (2 ^ 32 - 1) := by
          rw [State.found_of_no_upset (·.get (F.CHK_VIOL_CNT_CNT x.master)) hu fun _ _ => rfl]
end

section
/-! SUPPORT. What a TS clock leaves as it was (R592, R593). -/

namespace Sys2Proof.Machine

/-- A TS clock leaves the commands that wait, memory, the flash, what has left the part, the response and the detections due. -/
theorem State.clock_rest (s : State) :
    s.clock.pending = s.pending ∧ s.clock.mem = s.mem ∧ s.clock.flash = s.flash ∧ s.clock.out = s.out ∧
      s.clock.resp = s.resp ∧ s.clock.due = s.due := by
  have hkeeps := State.clock_keeps (fun t => (t.pending, t.mem, t.flash, t.out, t.resp, t.due))
    (fun _ _ => rfl) (fun _ _ => rfl) (fun _ _ => rfl) s
  simpa only [Prod.mk.injEq] using hkeeps

theorem step_of_empty {s : State} (h : s.pending = []) : step s = .next s.clock := by
  unfold step
  rw [h]

end Sys2Proof.Machine

open Sys2Proof Sys2Proof.Machine

/-- Settles O2: with an empty queue the step is a TS clock (`step_of_empty`), which takes 2 ns (`clock_ns`) and leaves the rest
(`clock_rest`). -/
theorem emptyQueueLetsAClockPass : Obligations.EmptyQueueLetsAClockPass := by
  intro s hempty
  obtain ⟨hpending, hrest⟩ := s.clock_rest
  exact ⟨s.clock, step_of_empty hempty, s.clock_ns, hpending.trans hempty, hrest⟩
end

section
/-! SUPPORT. SET, STEP, LOCK and UNLOCK of a time base (R598 to R601). -/

namespace Sys2Proof.Machine

/-! ## The record of a time base -/

section
variable (s : State) (t : Nat) (v : TbRec)

@[simp] theorem State.tb_setTb_same : (s.setTb t v).tb t = v :=
  Tbl.get_set_same _ _ _ _

theorem State.tb_setTb_other {k : Nat} (h : k ≠ t) : (s.setTb t v).tb k = s.tb k :=
  Tbl.get_set_other _ _ _ _ _ h

end

theorem State.tb_set (s : State) (f : Fld) (v k : Nat) : (s.set f v).tb k = s.tb k := rfl

/-- An effect that leaves memory, the other time bases and every register but those listed as they were. -/
def State.SparesBeside (s : State) (t : Nat) (u : State) (written : List Nat) : Prop :=
  u.mem = s.mem ∧ (∀ k, k ≠ t → u.tb k = s.tb k) ∧ ∀ a, a ∉ written → u.rd a = s.rd a

namespace State.SparesBeside

variable {s u : State} {t : Nat} {written : List Nat}

theorem refl (s : State) (t : Nat) (written : List Nat) : s.SparesBeside t s written :=
  ⟨rfl, fun _ _ => rfl, fun _ _ => rfl⟩

theorem setTb (h : s.SparesBeside t u written) (v : TbRec) : s.SparesBeside t (u.setTb t v) written := by
  obtain ⟨hmem, htb, hrd⟩ := h
  exact ⟨hmem, fun k hk => (u.tb_setTb_other t v hk).trans (htb k hk), hrd⟩

theorem set (h : s.SparesBeside t u written) (f : Fld) (v : Nat) (hf : f.addr ∈ written) :
    s.SparesBeside t (u.set f v) written := by
  obtain ⟨hmem, htb, hrd⟩ := h
  exact ⟨hmem, htb, fun a ha => (u.rd_wr_other _ a _ fun e => ha (e ▸ hf)).trans (hrd a ha)⟩

end State.SparesBeside

/-! ## A detection -/

/-- A detection writes its own counter and no other register. -/
theorem State.Spares.detectWith {s t : State} {written : List Nat} (h : s.Spares t written) (inj : Bool)
    {code : Nat} (hc : R.FLT_DET_CNT code ∈ written) (unit detail : Nat) :
    s.Spares (t.detectWith inj code unit detail) written := by
  have hcount : s.Spares (t.inc (F.FLT_DET_CNT_CNT code)) written := h.set (F.FLT_DET_CNT_CNT code) _ hc
  unfold State.detectWith
  dsimp only
  split <;> exact hcount

section
variable (s : State) (inj : Bool) (code unit detail : Nat)

theorem State.detectWith_due :
    ∃ e : Due, (s.detectWith inj code unit detail).due = s.due ++ [e] ∧ e.code = code ∧ e.unit = unit ∧ e.detail = detail := by
  unfold State.detectWith
  dsimp only
  split <;> exact ⟨_, rfl, rfl, rfl, rfl⟩

theorem State.detectWith_rd {a : Nat} (h : a ≠ R.FLT_DET_CNT code) : (s.detectWith inj code unit detail).rd a = s.rd a := by
  obtain ⟨-, -, -, hrd⟩ := (State.Spares.refl s [R.FLT_DET_CNT code]).detectWith inj List.mem_cons_self unit detail
  exact hrd a fun hm => h (List.mem_singleton.mp hm)

end

/-! ## SET and STEP applied (R598) -/

section
variable (s : State) (t count : Nat)

theorem tbSteps_ne_tbEvt : R.TB_STEPS t ≠ R.TB_EVT t := by
  unfold R.TB_STEPS R.TB_EVT
  omega

/-- STEPS and STEP_EV are registers, so the count is that of the record. -/
theorem State.tbMove_count : ((s.tbMove t count).tb t).count = count := by
  unfold State.tbMove State.raise State.inc State.add
  rw [State.tb_set, State.tb_set, State.tb_setTb_same]

/-- STEPS counts the move; STEP_EV is in another register. -/
theorem State.tbMove_steps : (s.tbMove t count).word (R.TB_STEPS t) = min (s.word (R.TB_STEPS t) + 1) (2 ^ 32 - 1) :=
  calc (s.tbMove t count).word (R.TB_STEPS t)
      = ((s.setTb t { s.tb t with count := count }).inc (F.TB_STEPS_CNT t)).word (R.TB_STEPS t) :=
        congrArg BitVec.toNat (State.rd_wr_other _ _ _ _ (tbSteps_ne_tbEvt t))
    _ = min (s.word (R.TB_STEPS t) + 1) (2 ^ 32 - 1) := State.word_inc_whole _ _

theorem State.tbMove_event : (s.tbMove t count).flag (F.TB_EVT_STEP_EV t) = true :=
  State.flag_raise_bit _ _ (by decide)

theorem State.tbMove_sparesBeside : s.SparesBeside t (s.tbMove t count) [R.TB_STEPS t, R.TB_EVT t] :=
  (((State.SparesBeside.refl s t _).setTb _).set (F.TB_STEPS_CNT t) _ List.mem_cons_self).set
    (F.TB_EVT_STEP_EV t) 1 (List.mem_cons_of_mem _ List.mem_cons_self)

end

/-! ## SET and STEP refused (R599) -/

section
variable (s : State) {t : Nat} (op : Nat) (inj : Bool)

/-- The registers that a refusal writes are three. -/
theorem tbRefused_ne (ht : t < 8) :
    R.TB_STEP_REFUSED t ≠ R.TB_EVT t ∧ R.TB_STEP_REFUSED t ≠ R.FLT_DET_CNT 0x38 ∧ R.TB_EVT t ≠ R.FLT_DET_CNT 0x38 := by
  unfold R.TB_STEP_REFUSED R.TB_EVT R.FLT_DET_CNT
  omega

theorem State.tbRefuse_count (ht : t < 8) :
    (s.tbRefuse t op inj).word (R.TB_STEP_REFUSED t) = min (s.word (R.TB_STEP_REFUSED t) + 1) (2 ^ 32 - 1) := by
  obtain ⟨hevt, hdet, -⟩ := tbRefused_ne ht
  calc (s.tbRefuse t op inj).word (R.TB_STEP_REFUSED t)
      = ((s.inc (F.TB_STEP_REFUSED_CNT t)).raise (F.TB_EVT_REFUSED_EV t)).word (R.TB_STEP_REFUSED t) :=
        congrArg BitVec.toNat (State.detectWith_rd _ inj 0x38 t op hdet)
    _ = (s.inc (F.TB_STEP_REFUSED_CNT t)).word (R.TB_STEP_REFUSED t) :=
        congrArg BitVec.toNat (State.rd_wr_other _ _ _ _ hevt)
    _ = min (s.word (R.TB_STEP_REFUSED t) + 1) (2 ^ 32 - 1) := State.word_inc_whole _ _

theorem State.tbRefuse_event (ht : t < 8) : (s.tbRefuse t op inj).flag (F.TB_EVT_REFUSED_EV t) = true := by
  obtain ⟨-, -, hdet⟩ := tbRefused_ne ht
  calc (s.tbRefuse t op inj).flag (F.TB_EVT_REFUSED_EV t)
      = ((s.inc (F.TB_STEP_REFUSED_CNT t)).raise (F.TB_EVT_REFUSED_EV t)).flag (F.TB_EVT_REFUSED_EV t) :=
        congrArg (· != 0) (State.detectWith_get hdet inj t op)
    _ = true := State.flag_raise_bit _ _ (by decide)

/-- One entry of detector 0x38 falls due, for the time base and the operation. -/
theorem State.tbRefuse_due :
    ∃ e : Due, (s.tbRefuse t op inj).due = s.due ++ [e] ∧ e.code = 0x38 ∧ e.unit = t ∧ e.detail = op :=
  State.detectWith_due _ inj 0x38 t op

theorem State.tbRefuse_spares :
    s.Spares (s.tbRefuse t op inj) [R.TB_STEP_REFUSED t, R.TB_EVT t, R.FLT_DET_CNT 0x38] :=
  (((State.Spares.refl s _).set (F.TB_STEP_REFUSED_CNT t) _ List.mem_cons_self).set (F.TB_EVT_REFUSED_EV t) 1
    (List.mem_cons_of_mem _ List.mem_cons_self)).detectWith inj
      (List.mem_cons_of_mem _ (List.mem_cons_of_mem _ List.mem_cons_self)) t op

end

/-! ## A request of SET or STEP -/

section
variable {s : State} {t : Nat} (op count : Nat)

/-- Without an injection LOCKED alone decides what becomes of the request. -/
theorem State.tbAsk_of_unarmed (hinj : s.injArmed 0x38 t = false) :
    s.tbAsk t op count = if s.tbLocked t then s.tbRefuse t op false else s.tbMove t count := by
  unfold State.tbAsk
  dsimp only
  rw [State.injSpend_of_unarmed hinj, hinj, Bool.or_false]

end

/-- The count that SET (OP 1) or STEP (OP 2) asks for (R598). -/
def State.tbAsked (s : State) (t op : Nat) : Nat :=
  if op = 1 then
    ((s.word (R.TB_SET_SEC_LO t) + s.word (R.TB_SET_SEC_HI t) % 65536 * 2 ^ 32) * 1000000000 +
      min 999999999 (s.get (F.TB_SET_NS_NS t))) * tbUnit
  else tbStepped (s.tb t).count (signed 64 (s.pair (R.TB_STEP_LO t) (R.TB_STEP_HI t)))

theorem State.tbAsked_set (s : State) (t : Nat) :
    s.tbAsked t 1 = ((s.word (R.TB_SET_SEC_LO t) + s.word (R.TB_SET_SEC_HI t) % 65536 * 2 ^ 32) * 1000000000 +
      min 999999999 (s.get (F.TB_SET_NS_NS t))) * tbUnit :=
  if_pos rfl

theorem State.tbAsked_step (s : State) (t : Nat) :
    s.tbAsked t 2 = tbStepped (s.tb t).count (signed 64 (s.pair (R.TB_STEP_LO t) (R.TB_STEP_HI t))) :=
  if_neg (by decide)

/-- A stepped count is the exact sum, reduced to one turn of the seconds. -/
theorem natCast_tbStepped (count : Nat) (ns : Int) :
    (tbStepped count ns : Int) = ((count : Int) + ns * (2 ^ 48 : Nat)) % (2 ^ 48 * 1000000000 * 2 ^ 48 : Nat) :=
  Int.toNat_of_nonneg (Int.emod_nonneg _ (by decide))

/-! ## LOCKED (R600, R601) -/

section
variable (s : State) (t : Nat) (on : Bool)

/-- A one-bit field reads as the truth value it was put to. -/
theorem State.flag_put_bit (a : Nat) {k : Nat} (hk : k < 32) : (s.put ⟨a, k, k⟩ on).flag ⟨a, k, k⟩ = on := by
  cases on with
  | true => exact s.flag_raise_bit a hk
  | false => exact s.flag_drop_bit a hk

/-- LOCKED changes together with LOCK_EV. -/
def State.tbLockEdge : State :=
  (s.put (F.TB_STAT_LOCKED t) on).raise (F.TB_EVT_LOCK_EV t)

theorem State.tbPutLocked_of_eq {s : State} {t : Nat} {on : Bool} (h : s.tbLocked t = on) : s.tbPutLocked t on = s :=
  if_pos (beq_iff_eq.mpr h)

/-- A change of LOCKED writes LOCKED and LOCK_EV, and a lock its date in the record. -/
theorem State.tbPutLocked_of_ne {s : State} {t : Nat} {on : Bool} (h : s.tbLocked t ≠ on) :
    s.tbPutLocked t on = (s.tbLockEdge t on).cond on fun u => u.setTb t { u.tb t with lockSince := u.tb48 t } :=
  if_neg (h <| beq_iff_eq.mp ·)

/-- Dating a lock writes the record alone. -/
theorem State.tbPutLocked_flag {s : State} {t : Nat} {on : Bool} (h : s.tbLocked t ≠ on) (f : Fld) :
    (s.tbPutLocked t on).flag f = (s.tbLockEdge t on).flag f := by
  rw [State.tbPutLocked_of_ne h]
  cases on <;> rfl

theorem tbStat_ne_tbEvt : R.TB_STAT t ≠ R.TB_EVT t := by
  unfold R.TB_STAT R.TB_EVT
  omega

theorem State.tbPutLocked_locked : (s.tbPutLocked t on).tbLocked t = on := by
  by_cases h : s.tbLocked t = on
  · rw [State.tbPutLocked_of_eq h, h]
  · calc (s.tbPutLocked t on).tbLocked t
        = (s.tbLockEdge t on).flag (F.TB_STAT_LOCKED t) := State.tbPutLocked_flag h _
      _ = (s.put (F.TB_STAT_LOCKED t) on).flag (F.TB_STAT_LOCKED t) :=
          congrArg (· != 0) (State.get_set_other _ _ _ 1 (tbStat_ne_tbEvt t))
      _ = on := s.flag_put_bit on _ (by decide)

theorem State.tbPutLocked_event (h : (s.tbPutLocked t on).tbLocked t ≠ s.tbLocked t) :
    (s.tbPutLocked t on).flag (F.TB_EVT_LOCK_EV t) = true := by
  rw [State.tbPutLocked_locked] at h
  exact (State.tbPutLocked_flag h.symm _).trans (State.flag_raise_bit _ _ (by decide))

theorem State.tbPutLocked_count : ((s.tbPutLocked t on).tb t).count = (s.tb t).count := by
  by_cases h : s.tbLocked t = on
  · rw [State.tbPutLocked_of_eq h]
  · rw [State.tbPutLocked_of_ne h]
    cases on with
    | true =>
      rw [State.cond_true, State.tb_setTb_same]
      rfl
    | false => rfl

theorem State.tbPutLocked_sparesBeside : s.SparesBeside t (s.tbPutLocked t on) [R.TB_STAT t, R.TB_EVT t] := by
  by_cases h : s.tbLocked t = on
  · rw [State.tbPutLocked_of_eq h]
    exact .refl s t _
  · have hedge : s.SparesBeside t (s.tbLockEdge t on) [R.TB_STAT t, R.TB_EVT t] :=
      ((State.SparesBeside.refl s t _).set (F.TB_STAT_LOCKED t) _ List.mem_cons_self).set
        (F.TB_EVT_LOCK_EV t) 1 (List.mem_cons_of_mem _ List.mem_cons_self)
    rw [State.tbPutLocked_of_ne h]
    cases on with
    | true => exact hedge.setTb _
    | false => exact hedge

end

/-! ## A write of TB.CTRL -/

/-- OP of TB.CTRL has the bits of OP of PLAN.CTRL. -/
theorem asking_tbOp (w : Wr) (t : Nat) {op : Nat} (h : op < 16) : (asking w (F.TB_CTRL_OP t) op).data.toNat % 16 = op :=
  asking_planOp w h

section
variable {s p : State} {t op : Nat} {w : Wr}

/-- SET and STEP are the write of TB.CTRL with their OP. -/
theorem State.tbMoves_serve (ht : t < 8) (hop : op = 1 ∨ op = 2) :
    s.Serves (if op = 1 then .set t w else .stepTb t w) (asking w (F.TB_CTRL_OP t) op) (G.TB_CTRL t)
      (·.writeTbCtrl t (asking w (F.TB_CTRL_OP t) op)) := by
  obtain rfl | rfl := hop <;> exact State.serves_asking rfl (decide_eq_true ht) rfl

/-- LOCK and UNLOCK are the write of TB.CTRL with their OP. -/
theorem State.tbLocks_serve (ht : t < 8) (hop : op = 3 ∨ op = 4) :
    s.Serves (if op = 3 then .lock t w else .unlock t w) (asking w (F.TB_CTRL_OP t) op) (G.TB_CTRL t)
      (·.writeTbCtrl t (asking w (F.TB_CTRL_OP t) op)) := by
  obtain rfl | rfl := hop <;> exact State.serves_asking rfl (decide_eq_true ht) rfl

section
variable (hw : s.permits w (G.TB_CTRL t) = true) (hp : s.accepted w.master (R.TB_CTRL t) = p)
  (hkey : bitsOf w.data.toNat 31 24 = 0xA5) (hval : w.data.toNat % 16 = op)
include hw hp hkey hval

/-- With its KEY, OP 1 or 2 asks for a count. -/
theorem State.writeTbCtrl_move (hop : op = 1 ∨ op = 2) : p.writeTbCtrl t w = p.tbAsk t op (p.tbAsked t op) := by
  subst hp
  refine (State.guarded_permits hw _).trans ?_
  dsimp only [G.TB_CTRL]
  rw [if_neg (not_not.mpr hkey), hval]
  obtain rfl | rfl := hop
  · rw [State.tbAsked_set]
    rfl
  · rw [State.tbAsked_step]
    rfl

/-- With its KEY, OP 3 or 4 puts LOCKED. -/
theorem State.writeTbCtrl_lock (hop : op = 3 ∨ op = 4) : p.writeTbCtrl t w = p.tbPutLocked t (decide (op = 3)) := by
  subst hp
  refine (State.guarded_permits hw _).trans ?_
  dsimp only
  rw [if_neg (not_not.mpr hkey), hval]
  obtain rfl | rfl := hop <;> rfl

end

section
variable (ht : t < 8) (hp : s.accepted w.master (R.TB_CTRL t) = p)
  (hkey : bitsOf (asking w (F.TB_CTRL_OP t) op).data.toNat 31 24 = 0xA5)
  (hw : s.permits (asking w (F.TB_CTRL_OP t) op) (G.TB_CTRL t) = true)
include ht hp hkey hw

/-- SET (OP 1) and STEP (OP 2) end in the move or in its refusal, as LOCKED has it. -/
theorem State.exec_tbMove (hop : op = 1 ∨ op = 2) (hinj : p.injArmed 0x38 t = false) :
    exec (if op = 1 then .set t w else .stepTb t w) s =
      s.ends (if p.tbLocked t then p.tbRefuse t op false else p.tbMove t (p.tbAsked t op)) := by
  have hval := asking_tbOp w t (by omega : op < 16)
  have hask := (State.writeTbCtrl_move hw hp hkey hval hop).trans (State.tbAsk_of_unarmed _ _ hinj)
  subst hp
  exact (State.tbMoves_serve ht hop hw).trans (congrArg s.ends hask)

/-- LOCK (OP 3) and UNLOCK (OP 4) end with LOCKED put. -/
theorem State.exec_tbLock (hop : op = 3 ∨ op = 4) :
    exec (if op = 3 then .lock t w else .unlock t w) s = s.ends (p.tbPutLocked t (decide (op = 3))) := by
  have hval := asking_tbOp w t (by omega : op < 16)
  have hput := State.writeTbCtrl_lock hw hp hkey hval hop
  subst hp
  exact (State.tbLocks_serve ht hop hw).trans (congrArg s.ends hput)

end

end

end Sys2Proof.Machine

open Sys2Proof Sys2Proof.Machine

/-- Settles O22: SET and STEP end in the move or in its refusal (`exec_tbMove`), LOCK and UNLOCK with LOCKED put
(`exec_tbLock`); what each leaves is said by the lemmas of `tbMove`, `tbRefuse` and `tbPutLocked`. -/
theorem timeBaseIsSetSteppedAndLocked : Obligations.TimeBaseIsSetSteppedAndLocked := by
  intro s t w ht op hkey hw p hinj
  refine ⟨fun hop hfree => ?_, fun hop hlocked => ?_, fun hop => ?_⟩
  · have hexec := State.exec_tbMove ht rfl hkey hw hop hinj
    rw [if_neg (Bool.eq_false_iff.mp hfree)] at hexec
    refine ⟨_, hexec, ?_, p.tbMove_steps t _, p.tbMove_event t _, p.tbMove_sparesBeside t _⟩
    rw [State.tbMove_count]
    obtain rfl | rfl := hop
    · rw [State.tbAsked_set, if_pos rfl]
      rfl
    · rw [State.tbAsked_step, if_neg (by decide)]
      exact natCast_tbStepped _ _
  · have hexec := State.exec_tbMove ht rfl hkey hw hop hinj
    rw [if_pos hlocked] at hexec
    exact ⟨_, hexec, p.tbRefuse_count op false ht, p.tbRefuse_event op false ht, p.tbRefuse_due op false,
      p.tbRefuse_spares op false⟩
  · exact ⟨_, State.exec_tbLock ht rfl hkey hw hop, p.tbPutLocked_locked t _, p.tbPutLocked_count t _, p.tbPutLocked_event t _,
      p.tbPutLocked_sparesBeside t _⟩
end

section
/-! SUPPORT. The read of the nanoseconds of a time base, which latches the rest of the same count (R597). -/

namespace Sys2Proof.Machine

def nowNsReg : RegSpec := ⟨0x10, 1, false, .single, .plain, [⟨29, 0, .ro, 0⟩]⟩

theorem placeOf_nowNs : ∀ t < 8, placeOf (R.TB_NOW_NS t) = some (tbPlace t nowNsReg) := by decide +kernel

theorem spaceOf_nowNs {t : Nat} (ht : t < 8) : spaceOf (R.TB_NOW_NS t) = .cspace := by
  unfold R.TB_NOW_NS
  exact spaceOf_cspace (by omega) (by omega)

theorem nowNs_mod_four (t : Nat) : R.TB_NOW_NS t % 4 = 0 := by
  unfold R.TB_NOW_NS
  omega

/-- A register that is no half of a pair is read alone. -/
theorem State.readPair_of_single (s : State) (master a : Nat) {pl : Place} (h : pl.reg.half = .single) :
    s.readPair master a pl = s.readAct master a pl := by
  unfold State.readPair
  dsimp only
  rw [h]
  split <;> rfl

/-- No register with another effect of its read lies at NOW_NS. -/
theorem State.readAct_nowNs (s : State) (master : Nat) {t : Nat} (ht : t < 8) (r : RegSpec) :
    s.readAct master (R.TB_NOW_NS t) (tbPlace t r) = s.readNow t := by
  have hn : (tbPlace t r).n = t := rfl
  unfold State.readAct
  dsimp only
  rw [hn, if_pos rfl]
  unfold R.TB_NOW_NS R.HEAD_TOL_MIN R.HEAD_LUT_DATA0 R.HEAD_LUT_DATA1 R.SP_COEF_DATA
  rw [if_neg (by omega), if_neg (by omega), if_neg (by omega), if_neg (by omega)]

theorem State.readWord_nowNs {s : State} {t : Nat} (master : Nat) (ht : t < 8) (h : s.answers .timeBase t 0 = true) :
    s.readWord master (R.TB_NOW_NS t) = s.readNow t := by
  unfold State.readWord
  rw [placeOf_nowNs t ht]
  exact (if_pos h).trans ((s.readPair_of_single master _ rfl).trans (s.readAct_nowNs master ht _))

section
variable (s : State) (t : Nat)

/-- The nanoseconds are below 10^9 and so fit the register. -/
theorem State.readNow_value : (s.readNow t).1.toNat = (s.tb t).count / 2 ^ 48 % 1000000000 := by
  have hlt : s.tbNs t % 1000000000 < 2 ^ 32 := (Nat.mod_lt _ (by decide)).trans (by decide)
  exact Nat.mod_eq_of_lt hlt

/-- The read latches the count and leaves it as it was. -/
theorem State.readNow_tb : (s.readNow t).2.tb t = { s.tb t with latched := (s.tb t).count } :=
  s.tb_setTb_same t _

theorem State.readNow_rest : (s.readNow t).2.mem = s.mem ∧ (s.readNow t).2.regs = s.regs := ⟨rfl, rfl⟩

/-- NOW_SEC_LO, NOW_SEC_HI and NOW_FRAC are the seconds and the fraction of the latched count. -/
theorem State.nowLatched_parts :
    s.nowLatched t 0 = (s.tb t).latched / 2 ^ 48 / 1000000000 % 2 ^ 32 ∧
    s.nowLatched t 1 = (s.tb t).latched / 2 ^ 48 / 1000000000 / 2 ^ 32 % 65536 ∧
    s.nowLatched t 2 = (s.tb t).latched / 2 ^ 32 % 65536 :=
  ⟨rfl, rfl, rfl⟩

end

end Sys2Proof.Machine

open Sys2Proof Sys2Proof.Machine

/-- Settles O23: the read is `readNow` (`readWord_nowNs`), which answers the nanoseconds (`readNow_value`) and latches the count
they come from (`readNow_tb`), whose parts the other NOW registers return (`nowLatched_parts`). -/
theorem nowIsLatchedByTheReadOfItsNanoseconds : Obligations.NowIsLatchedByTheReadOfItsNanoseconds := by
  intro s t master ht hpart hcheck p hanswers
  have hreads : s.Reads (.nowNsRead t master) master (R.TB_NOW_NS t) :=
    State.reads rfl (decide_eq_true ht) (spaceOf_nowNs ht) (nowNs_mod_four t)
  obtain ⟨v, u, hread, hexec⟩ := hreads hpart hcheck
  have hvalue := p.readNow_value t
  have htb := p.readNow_tb t
  have hrest := p.readNow_rest t
  rw [← State.readWord_nowNs master ht hanswers, hread] at hvalue htb hrest
  have hlatched := u.nowLatched_parts t
  rw [htb] at hlatched
  obtain ⟨hlo, hhi, hfrac⟩ := hlatched
  have hcount : (u.tb t).count = (p.tb t).count := by rw [htb]
  exact ⟨_, hexec, congrArg (fun n => some (Resp.mk (bytesLE 4 n) false)) hvalue, hcount, hlo, hhi, hfrac, hrest⟩
end

section
/-! SUPPORT. The records of the interrupt controller, and what driving the line of a target may touch (R632, R787). -/

namespace Sys2Proof.Machine

/-! ## The records -/

section
variable (s : State) (i : Nat) (v : IrqSrc) (k : Nat) (t : IrqTarget)

@[simp] theorem State.src_setSrc_same : (s.setSrc i v).src i = v :=
  Tbl.get_set_same _ _ _ _

theorem State.src_setSrc_other {j : Nat} (h : j ≠ i) : (s.setSrc i v).src j = s.src j :=
  Tbl.get_set_other _ _ _ _ _ h

@[simp] theorem State.tgt_setTgt_same : (s.setTgt k t).tgt k = t :=
  Tbl.get_set_same _ _ _ _

theorem State.tgt_setTgt_other {j : Nat} (h : j ≠ k) : (s.setTgt k t).tgt j = s.tgt j :=
  Tbl.get_set_other _ _ _ _ _ h

@[simp] theorem State.setTgt_mem : (s.setTgt k t).mem = s.mem := rfl
@[simp] theorem State.setTgt_due : (s.setTgt k t).due = s.due := rfl
@[simp] theorem State.setTgt_irqSrc : (s.setTgt k t).irqSrc = s.irqSrc := rfl
@[simp] theorem State.setTgt_rd (a : Nat) : (s.setTgt k t).rd a = s.rd a := rfl
@[simp] theorem State.tgt_setSrc (j : Nat) : (s.setSrc i v).tgt j = s.tgt j := rfl
@[simp] theorem State.tgt_inc (f : Fld) (j : Nat) : (s.inc f).tgt j = s.tgt j := rfl
@[simp] theorem State.tgt_setWord (a x j : Nat) : (s.setWord a x).tgt j = s.tgt j := rfl

theorem State.rd_inc_other {f : Fld} {a : Nat} (h : a ≠ f.addr) : (s.inc f).rd a = s.rd a :=
  s.rd_wr_other f.addr a _ h

end

/-! ## Driving a line -/

/-- An effect that leaves memory, the detections due, the sources, the other targets, the stack and the freeze of target `k`, and
every register but those listed. -/
structure State.SparesButLine (s : State) (k : Nat) (u : State) (written : List Nat) : Prop where
  mem : u.mem = s.mem
  due : u.due = s.due
  irqSrc : u.irqSrc = s.irqSrc
  stack : (u.tgt k).stack = (s.tgt k).stack
  frozen : (u.tgt k).frozen = (s.tgt k).frozen
  tgt : ∀ j, j ≠ k → u.tgt j = s.tgt j
  rd : ∀ a, a ∉ written → u.rd a = s.rd a

namespace State.SparesButLine

variable {s t u : State} {k : Nat} {written : List Nat}

theorem refl (s : State) (k : Nat) (written : List Nat) : s.SparesButLine k s written :=
  ⟨rfl, rfl, rfl, rfl, rfl, fun _ _ => rfl, fun _ _ => rfl⟩

theorem trans (h : s.SparesButLine k t written) (h' : t.SparesButLine k u written) : s.SparesButLine k u written where
  mem := h'.mem.trans h.mem
  due := h'.due.trans h.due
  irqSrc := h'.irqSrc.trans h.irqSrc
  stack := h'.stack.trans h.stack
  frozen := h'.frozen.trans h.frozen
  tgt j hj := (h'.tgt j hj).trans (h.tgt j hj)
  rd a ha := (h'.rd a ha).trans (h.rd a ha)

theorem wr (s : State) (k : Nat) {a : Nat} (v : W32) (h : a ∈ written) : s.SparesButLine k (s.wr a v) written :=
  ⟨rfl, rfl, rfl, rfl, rfl, fun _ _ => rfl, fun b hb => s.rd_wr_other a b v fun e => hb (e ▸ h)⟩

theorem emit (s : State) (k : Nat) (o : Out) : s.SparesButLine k (s.emit o) written :=
  ⟨rfl, rfl, rfl, rfl, rfl, fun _ _ => rfl, fun _ _ => rfl⟩

theorem cond (b : Bool) {f : State → State} (h : s.SparesButLine k (f s) written) : s.SparesButLine k (s.cond b f) written := by
  cases b
  · exact refl s k written
  · exact h

/-- A source's record is one of those left. -/
theorem src (h : s.SparesButLine k u written) (i : Nat) : u.src i = s.src i :=
  congrArg (fun srcs => Tbl.get (fun _ => ({} : IrqSrc)) srcs i) h.irqSrc

end State.SparesButLine

/-- The line of a target as it is driven. -/
def State.setLine (s : State) (k : Nat) (on : Bool) : State :=
  if on = (s.tgt k).line then s else s.setTgt k { s.tgt k with line := on }

section
variable (s : State) (k : Nat) (written : List Nat)

theorem State.setLine_sparesButLine (on : Bool) : s.SparesButLine k (s.setLine k on) written := by
  unfold State.setLine
  split
  · exact .refl s k written
  · refine ⟨rfl, rfl, rfl, ?_, ?_, fun j hj => s.tgt_setTgt_other k _ hj, fun _ _ => rfl⟩ <;> rw [State.tgt_setTgt_same]

/-- A vector is sent or waits in the PBA (R644). -/
theorem State.sendMsix_sparesButLine {written : List Nat} (v : Nat) (h : R.MSIX_PBA ∈ written) :
    s.SparesButLine k (s.sendMsix v) written := by
  unfold State.sendMsix
  split
  · exact .wr s k _ h
  · exact .emit s k _

/-- Driving a line, a vector that may be sent and a core that may run on are all that happens. -/
theorem State.driveLine_eq (again : Bool) :
    ∃ sends runs, s.driveLine k again =
      ((s.setLine k (s.bestClaim k).isSome).cond sends (·.sendMsix (k - 8))).cond runs (·.set (F.CC_STAT_STATE k) 0) :=
  ⟨_, _, rfl⟩

/-- A target with nothing to claim sends no vector and leaves its core alone. -/
theorem State.driveLine_of_none {s : State} {k : Nat} (h : s.bestClaim k = none) (again : Bool) :
    s.driveLine k again = s.setLine k false := by
  unfold State.driveLine
  dsimp only
  rw [h]
  simp only [Option.isSome_none, Bool.and_false, Bool.false_and, State.cond_false]
  rfl

/-- A line that rises may send a vector, and let a core run on that waits for it. -/
theorem State.driveLine_sparesButLine {written : List Nat} (again : Bool) (hpba : R.MSIX_PBA ∈ written)
    (hcore : R.CC_STAT k ∈ written) : s.SparesButLine k (s.driveLine k again) written := by
  obtain ⟨sends, runs, hdrive⟩ := s.driveLine_eq k again
  rw [hdrive]
  have hline := s.setLine_sparesButLine k written (s.bestClaim k).isSome
  exact (hline.trans (.cond _ (State.sendMsix_sparesButLine _ k _ hpba))).trans (.cond _ (.wr _ k _ hcore))

end

/-! ## The best claim -/

/-- A source takes the place of the best claim so far where it is claimable and of higher priority or lower number. -/
def State.betterClaim (s : State) (k : Nat) (b : Option Nat) (i : Nat) : Option Nat :=
  if !s.claimable k i then b
  else match b with
  | none => some i
  | some j => if s.irqPrio j < s.irqPrio i ∨ (s.irqPrio j = s.irqPrio i ∧ i < j) then some i else b

/-- Source `i` is claimable by target `k`, and no other that is goes before it (R633). -/
def State.IsBestClaim (s : State) (k i : Nat) : Prop :=
  s.claimable k i = true ∧
    ∀ j, s.claimable k j = true → s.irqPrio j < s.irqPrio i ∨ (s.irqPrio j = s.irqPrio i ∧ i ≤ j)

theorem State.bestClaim_eq_foldl (s : State) (k : Nat) :
    s.bestClaim k = (s.irqSrc.map (·.1)).foldl (s.betterClaim k) none := rfl

section
variable {s : State} {k i : Nat}

theorem State.bestClaim_of_none (h : ∀ i, s.claimable k i = false) : s.bestClaim k = none := by
  rw [State.bestClaim_eq_foldl]
  refine List.foldl_fixed' (fun i => ?_) _
  unfold State.betterClaim
  rw [h i]
  rfl

/-- A frozen target claims nothing (R635). -/
theorem State.bestClaim_of_frozen (h : (s.tgt k).frozen = true) : s.bestClaim k = none := by
  refine State.bestClaim_of_none fun i => ?_
  unfold State.claimable
  rw [h, Bool.not_true, Bool.and_false, Bool.false_and]

/-- What is claimable has an entry of its own: an unlisted source is offered to no target. -/
theorem State.mem_of_claimable (h : s.claimable k i = true) : i ∈ s.irqSrc.map (·.1) := by
  by_contra hmem
  have hdefault : s.src i = {} := by
    unfold State.src
    generalize s.irqSrc = t at hmem
    induction t with
    | nil => rfl
    | cons e t ih =>
      rw [List.map_cons, List.mem_cons, not_or] at hmem
      obtain ⟨hne, hrest⟩ := hmem
      exact (if_neg hne).trans (ih hrest)
  unfold State.claimable at h
  rw [hdefault] at h
  exact absurd h (by simp)

/-- What the fold holds is claimable. -/
theorem State.betterClaim_claimable {b : Option Nat} (hb : ∀ j ∈ b, s.claimable k j = true) (i : Nat) :
    ∀ j ∈ s.betterClaim k b i, s.claimable k j = true := by
  unfold State.betterClaim
  cases hi : s.claimable k i with
  | false => exact hb
  | true =>
    have hsome : ∀ j ∈ some i, s.claimable k j = true := fun j hj => Option.mem_some_iff.mp hj ▸ hi
    cases b with
    | none => exact hsome
    | some j =>
      simp only [Bool.not_true, Bool.false_eq_true, if_false]
      split
      · exact hsome
      · exact hb

/-- The best source takes the place of any other. -/
theorem State.IsBestClaim.takes (h : s.IsBestClaim k i) {b : Option Nat} (hb : ∀ j ∈ b, s.claimable k j = true) :
    s.betterClaim k b i = some i := by
  obtain ⟨hi, hbest⟩ := h
  unfold State.betterClaim
  rw [hi]
  cases b with
  | none => rfl
  | some j =>
    have hj := hbest j (hb j rfl)
    by_cases hij : i = j
    · subst hij
      simp
    · simp only [Bool.not_true, Bool.false_eq_true, if_false]
      exact if_pos (by omega)

/-- The best source gives its place to none. -/
theorem State.IsBestClaim.stays (h : s.IsBestClaim k i) (j : Nat) : s.betterClaim k (some i) j = some i := by
  obtain ⟨-, hbest⟩ := h
  unfold State.betterClaim
  cases hj : s.claimable k j with
  | false => rfl
  | true =>
    have hlast := hbest j hj
    simp only [Bool.not_true, Bool.false_eq_true, if_false]
    exact if_neg (by omega)

theorem State.IsBestClaim.bestClaim (h : s.IsBestClaim k i) : s.bestClaim k = some i := by
  obtain ⟨before, after, hlist⟩ := List.append_of_mem (State.mem_of_claimable h.1)
  have hbefore : ∀ j ∈ before.foldl (s.betterClaim k) none, s.claimable k j = true :=
    List.foldlRecOn (motive := fun b => ∀ j ∈ b, s.claimable k j = true) before _ (fun _ hj => nomatch hj)
      fun _ hb j _ => State.betterClaim_claimable hb j
  calc s.bestClaim k
      = after.foldl (s.betterClaim k) (s.betterClaim k (before.foldl (s.betterClaim k) none) i) := by
        rw [State.bestClaim_eq_foldl, hlist, List.foldl_append, List.foldl_cons]
    _ = after.foldl (s.betterClaim k) (some i) := by rw [h.takes hbefore]
    _ = some i := List.foldl_fixed' h.stays after

end

end Sys2Proof.Machine
end

section
/-! SUPPORT. The read of CLAIM, which takes the best claim of a target (R631 to R633). -/

namespace Sys2Proof.Machine

/-! ## The register -/

/-- The region of the targets in the IRQ block (R638). -/
def tgtRegion : Region := ⟨0x41002000, 0x100, 12, 0, 0, .always, irqTgtRegs⟩

def claimReg : RegSpec := ⟨0x8, 1, false, .single, .plain, [⟨31, 31, .rc, 0⟩, ⟨19, 16, .rc, 0⟩, ⟨8, 0, .rc, 0⟩]⟩

/-- The place of CLAIM of target `k`. -/
def claimPlace (k : Nat) : Place :=
  ⟨tgtRegion, k, 0, claimReg, 0⟩

theorem placeOf_claim : ∀ k < 12, placeOf (R.TGT_CLAIM k) = some (claimPlace k) := by decide +kernel

theorem spaceOf_claim {k : Nat} (hk : k < 12) : spaceOf (R.TGT_CLAIM k) = .cspace := by
  unfold R.TGT_CLAIM
  exact spaceOf_cspace (by omega) (by omega)

theorem claim_mod_four (k : Nat) : R.TGT_CLAIM k % 4 = 0 := by
  unfold R.TGT_CLAIM
  omega

/-- A unit that is always there answers: it is of no class that is cut. -/
theorem State.answers_always (s : State) (n m : Nat) : s.answers .always n m = true := by
  have hcut : s.cut .always n = false := by
    unfold State.cut
    exact Bool.or_eq_false_iff.mpr ⟨Bool.and_false _, Bool.and_false _⟩
  unfold State.answers
  rw [hcut]
  rfl

/-- No register with another effect of its read lies at CLAIM. -/
theorem State.readAct_claim (s : State) (master : Nat) {k : Nat} (hk : k < 12) :
    s.readAct master (R.TGT_CLAIM k) (claimPlace k) = s.claim k master := by
  have hn : (claimPlace k).n = k := rfl
  unfold State.readAct
  dsimp only
  rw [hn, if_pos (c := R.TGT_CLAIM k = R.TGT_CLAIM k) rfl]
  unfold R.TGT_CLAIM R.HEAD_TOL_MIN R.HEAD_LUT_DATA0 R.HEAD_LUT_DATA1 R.SP_COEF_DATA R.TB_NOW_NS
  rw [if_neg (by omega), if_neg (by omega), if_neg (by omega), if_neg (by omega), if_neg (by omega)]

theorem State.readWord_claim (s : State) {k : Nat} (master : Nat) (hk : k < 12) :
    s.readWord master (R.TGT_CLAIM k) = s.claim k master := by
  unfold State.readWord
  rw [placeOf_claim k hk]
  exact (if_pos (s.answers_always k 0)).trans ((s.readPair_of_single master _ rfl).trans (s.readAct_claim master hk))

/-! ## The claim -/

/-- Source `i` goes on the stack of target `k` and into its service (R631). -/
def State.intoService (s : State) (k i : Nat) : State :=
  let t := s.setTgt k { s.tgt k with stack := (i, s.irqPrio i) :: (s.tgt k).stack }
  t.setSrc i { t.src i with edge := false, offered := none, inService := some k }

/-- The claim of a source is counted, and the line follows (R632, R633). -/
def State.claimed (s : State) (k i : Nat) : State :=
  ((s.intoService k i).inc (F.TGT_CLAIMS_CNT k)).driveLine k true

section
variable {s : State} {k i master : Nat}

theorem State.claim_of_none (h : s.bestClaim k = none) : s.claim k master = (0, s) := by
  unfold State.claim
  rw [h]

theorem State.claim_of_some (h : s.bestClaim k = some i) (hmaster : master ≠ 9) :
    s.claim k master = (claimWord i (s.irqPrio i), s.claimed k i) := by
  unfold State.claim
  rw [h]
  exact if_neg hmaster

/-- A priority of four bits and a number of nine fit the response. -/
theorem claimWord_toNat {prio : Nat} (hi : i < 512) (hprio : prio < 16) :
    (claimWord i prio).toNat = 2 ^ 31 + prio * 2 ^ 16 + i := by
  unfold claimWord
  rw [BitVec.toNat_ofNat, Nat.mod_eq_of_lt (by omega)]

theorem tgtClaims_ne (hk : k < 12) : R.TGT_CLAIMS k ≠ R.MSIX_PBA ∧ R.TGT_CLAIMS k ≠ R.CC_STAT k := by
  unfold R.TGT_CLAIMS R.MSIX_PBA R.CC_STAT
  omega

end

section
variable (s : State) (k i : Nat)

theorem State.intoService_tgt_same :
    (s.intoService k i).tgt k = { s.tgt k with stack := (i, s.irqPrio i) :: (s.tgt k).stack } := by
  unfold State.intoService
  dsimp only
  rw [State.tgt_setSrc, State.tgt_setTgt_same]

theorem State.intoService_tgt_other {j : Nat} (h : j ≠ k) : (s.intoService k i).tgt j = s.tgt j := by
  unfold State.intoService
  dsimp only
  rw [State.tgt_setSrc, State.tgt_setTgt_other _ _ _ h]

/-- After the count, only the line is driven. -/
theorem State.claimed_line :
    ((s.intoService k i).inc (F.TGT_CLAIMS_CNT k)).SparesButLine k (s.claimed k i) [R.MSIX_PBA, R.CC_STAT k] :=
  State.driveLine_sparesButLine _ k true List.mem_cons_self (List.mem_cons_of_mem _ List.mem_cons_self)

theorem State.claimed_stack : ((s.claimed k i).tgt k).stack = (i, s.irqPrio i) :: (s.tgt k).stack :=
  (s.claimed_line k i).stack.trans (congrArg IrqTarget.stack (s.intoService_tgt_same k i))

theorem State.claimed_src :
    (s.claimed k i).src i = { s.src i with edge := false, offered := none, inService := some k } :=
  ((s.claimed_line k i).src i).trans (State.src_setSrc_same _ i _)

theorem State.claimed_src_other {j : Nat} (h : j ≠ i) : (s.claimed k i).src j = s.src j :=
  ((s.claimed_line k i).src j).trans (State.src_setSrc_other _ i _ h)

theorem State.claimed_tgt_other {j : Nat} (h : j ≠ k) : (s.claimed k i).tgt j = s.tgt j :=
  ((s.claimed_line k i).tgt j h).trans (s.intoService_tgt_other k i h)

theorem State.claimed_mem : (s.claimed k i).mem = s.mem :=
  (s.claimed_line k i).mem

theorem State.claimed_count (hk : k < 12) :
    (s.claimed k i).word (R.TGT_CLAIMS k) = min (s.word (R.TGT_CLAIMS k) + 1) (2 ^ 32 - 1) := by
  obtain ⟨hpba, hcore⟩ := tgtClaims_ne hk
  calc (s.claimed k i).word (R.TGT_CLAIMS k)
      = ((s.intoService k i).inc (F.TGT_CLAIMS_CNT k)).word (R.TGT_CLAIMS k) :=
        congrArg BitVec.toNat ((s.claimed_line k i).rd _ (by simp [hpba, hcore]))
    _ = min ((s.intoService k i).word (R.TGT_CLAIMS k) + 1) (2 ^ 32 - 1) := State.word_inc_whole _ _
    _ = min (s.word (R.TGT_CLAIMS k) + 1) (2 ^ 32 - 1) := rfl

theorem State.claimed_rd {a : Nat} (h : a ∉ [R.TGT_CLAIMS k, R.MSIX_PBA, R.CC_STAT k]) : (s.claimed k i).rd a = s.rd a := by
  rw [List.mem_cons, not_or] at h
  obtain ⟨hcount, hline⟩ := h
  exact ((s.claimed_line k i).rd a hline).trans (State.rd_wr_other _ _ _ _ hcount)

end

/-- The command ends with what the claim of the accepting part answers. -/
theorem State.exec_claim {s : State} {k master : Nat} (hk : k < 12) (hpart : s.inReset = none)
    (hcheck : (s.checked master (R.TGT_CLAIM k) 4 false).1 = false) {v : W32} {t : State}
    (hclaim : (s.checked master (R.TGT_CLAIM k) 4 false).2.claim k master = (v, t)) :
    exec (.claim k master) s = .next (s.ended { t with resp := some ⟨bytesLE 4 v.toNat, false⟩ }) := by
  have hreads : s.Reads (.claim k master) master (R.TGT_CLAIM k) :=
    State.reads rfl (decide_eq_true hk) (spaceOf_claim hk) (claim_mod_four k)
  obtain ⟨v', t', hread, hexec⟩ := hreads hpart hcheck
  rw [State.readWord_claim _ master hk, hclaim] at hread
  cases hread
  exact hexec

end Sys2Proof.Machine

open Sys2Proof Sys2Proof.Machine

/-- Settles O24: the read is `claim` (`exec_claim`), which answers zero without a best claim (`bestClaim_of_none`) and else takes
the source that goes before all others that are claimable (`IsBestClaim.bestClaim`); the lemmas of `claimed` say what that
leaves. -/
theorem claimTakesTheHighestPriority : Obligations.ClaimTakesTheHighestPriority := by
  intro s k master hk hmaster hpart hcheck p
  refine ⟨fun hnone => ?_, fun i hi hprio hclaimable hbest => ?_⟩
  · have hexec := State.exec_claim hk hpart hcheck (State.claim_of_none (State.bestClaim_of_none hnone))
    exact ⟨_, hexec, rfl, rfl, rfl, rfl, rfl, rfl, fun _ _ => rfl⟩
  · have hsome : p.bestClaim k = some i := State.IsBestClaim.bestClaim ⟨hclaimable, hbest⟩
    have hexec := State.exec_claim hk hpart hcheck (State.claim_of_some hsome (by omega))
    rw [claimWord_toNat hi hprio] at hexec
    have hsrc := p.claimed_src k i
    exact ⟨_, hexec, rfl, p.claimed_stack k i, congrArg IrqSrc.inService hsrc, congrArg IrqSrc.offered hsrc,
      p.claimed_count k i hk, p.claimed_mem k i, fun j hj => p.claimed_src_other k i hj,
      fun j hj => p.claimed_tgt_other k i hj, fun a ha => p.claimed_rd k i ha⟩
end

section
/-! SUPPORT. A write of COMPLETE, and the stack fault (R634, R635). -/

namespace Sys2Proof.Machine

/-! ## The completion of the top entry -/

/-- The top entry of target `k`, of source `i`, is popped to `rest`, and the source leaves service. -/
def State.popped (s : State) (k i : Nat) (rest : List (Nat × Nat)) : State :=
  (s.setTgt k { s.tgt k with stack := rest }).setSrc i { s.src i with inService := none }

section
variable (s : State) (k i : Nat) (rest : List (Nat × Nat))

theorem State.popped_tgt_same : (s.popped k i rest).tgt k = { s.tgt k with stack := rest } := by
  unfold State.popped
  rw [State.tgt_setSrc, State.tgt_setTgt_same]

theorem State.popped_tgt_other {j : Nat} (h : j ≠ k) : (s.popped k i rest).tgt j = s.tgt j := by
  unfold State.popped
  rw [State.tgt_setSrc, State.tgt_setTgt_other _ _ _ h]

theorem State.popped_src_same : (s.popped k i rest).src i = { s.src i with inService := none } :=
  State.src_setSrc_same _ _ _

theorem State.popped_src_other {j : Nat} (h : j ≠ i) : (s.popped k i rest).src j = s.src j :=
  State.src_setSrc_other _ _ _ h

theorem State.popped_mem_rd : (s.popped k i rest).mem = s.mem ∧ ∀ a, (s.popped k i rest).rd a = s.rd a :=
  ⟨rfl, fun _ => rfl⟩

/-- After that only the line is driven. -/
theorem State.popped_line :
    (s.popped k i rest).SparesButLine k ((s.popped k i rest).driveLine k true) [R.MSIX_PBA, R.CC_STAT k] :=
  State.driveLine_sparesButLine _ k true List.mem_cons_self (List.mem_cons_of_mem _ List.mem_cons_self)

end

/-! ## The stack fault -/

/-- The number of the top entry's source as FAULT_INFO has it: all ones for none (R643). -/
def State.topNumber (s : State) (k : Nat) : Nat :=
  ((s.tgt k).stack.head?.map (·.1)).getD 0x1FF

/-- FAULT_INFO and FAULTS are written and target `k` is frozen. -/
def State.faultRecorded (s : State) (k i : Nat) : State :=
  ((s.setWord (R.TGT_FAULT_INFO k) (2 ^ 31 + s.topNumber k * 2 ^ 16 + i % 512)).inc (F.TGT_FAULTS_CNT k)).setTgt k
    { s.tgt k with frozen := true }

/-- The record of the fault, with its detection. -/
def State.faultDetected (s : State) (inj : Bool) (k i : Nat) : State :=
  (s.faultRecorded k i).detectWith inj 0x3A k ((s.faultRecorded k i).word (R.TGT_FAULT_INFO k))

theorem State.stackFault_eq (s : State) (inj : Bool) (k i : Nat) :
    s.stackFault inj k i =
      ((s.faultDetected inj k i).cond (!(s.tgt k).frozen) (·.sendMsix 4)).driveLine k false := by
  have htop : (match (s.tgt k).stack with | (j, _) :: _ => j | [] => 0x1FF) = s.topNumber k := by
    unfold State.topNumber
    cases (s.tgt k).stack <;> rfl
  unfold State.faultDetected State.faultRecorded
  rw [← htop]
  rfl

/-- A detection writes no record of the interrupt controller. -/
theorem State.detectWith_irq (s : State) (inj : Bool) (code unit detail : Nat) :
    (s.detectWith inj code unit detail).irqSrc = s.irqSrc ∧ (s.detectWith inj code unit detail).irqTgt = s.irqTgt := by
  unfold State.detectWith
  dsimp only
  split <;> exact ⟨rfl, rfl⟩

theorem State.detectWith_tgt (s : State) (inj : Bool) (code unit detail j : Nat) :
    (s.detectWith inj code unit detail).tgt j = s.tgt j :=
  congrArg (fun tgts => Tbl.get (fun _ => ({} : IrqTarget)) tgts j) (s.detectWith_irq inj code unit detail).2

/-- The registers that a stack fault writes are apart. -/
theorem faultRegs_ne {k : Nat} (hk : k < 12) :
    R.TGT_FAULT_INFO k ≠ R.TGT_FAULTS k ∧ R.TGT_FAULT_INFO k ≠ R.FLT_DET_CNT 0x3A ∧ R.TGT_FAULT_INFO k ≠ R.MSIX_PBA ∧
    R.TGT_FAULTS k ≠ R.FLT_DET_CNT 0x3A ∧ R.TGT_FAULTS k ≠ R.MSIX_PBA := by
  unfold R.TGT_FAULT_INFO R.TGT_FAULTS R.FLT_DET_CNT R.MSIX_PBA
  omega

section
variable (s : State) (inj : Bool) (k i : Nat)

theorem State.faultDetected_tgt_same : (s.faultDetected inj k i).tgt k = { s.tgt k with frozen := true } := by
  unfold State.faultDetected State.faultRecorded
  rw [State.detectWith_tgt, State.tgt_setTgt_same]

theorem State.faultDetected_tgt_other {j : Nat} (h : j ≠ k) : (s.faultDetected inj k i).tgt j = s.tgt j := by
  unfold State.faultDetected State.faultRecorded
  rw [State.detectWith_tgt, State.tgt_setTgt_other _ _ _ h, State.tgt_inc, State.tgt_setWord]

/-- The record is of registers and of the target alone. -/
theorem State.faultRecorded_rest :
    (s.faultRecorded k i).mem = s.mem ∧ (s.faultRecorded k i).due = s.due ∧ (s.faultRecorded k i).irqSrc = s.irqSrc := by
  unfold State.faultRecorded State.inc State.add
  refine ⟨?_, ?_, ?_⟩
  · rw [State.setTgt_mem, State.set_mem, State.setWord_mem]
  · rw [State.setTgt_due, State.set_due, State.setWord_due]
  · rw [State.setTgt_irqSrc, State.set_irqSrc, State.setWord_irqSrc]

theorem State.faultDetected_irqSrc : (s.faultDetected inj k i).irqSrc = s.irqSrc := by
  obtain ⟨-, -, hsrc⟩ := s.faultRecorded_rest k i
  unfold State.faultDetected
  rw [(State.detectWith_irq _ _ _ _ _).1, hsrc]

theorem State.faultDetected_mem : (s.faultDetected inj k i).mem = s.mem := by
  obtain ⟨hmem, -, -⟩ := s.faultRecorded_rest k i
  unfold State.faultDetected
  rw [State.detectWith_mem, hmem]

theorem State.faultDetected_due : ∃ e : Due, (s.faultDetected inj k i).due = s.due ++ [e] ∧ e.code = 0x3A ∧ e.unit = k := by
  obtain ⟨-, hrecord, -⟩ := s.faultRecorded_rest k i
  obtain ⟨e, hdue, hcode, hunit, -⟩ :=
    State.detectWith_due (s.faultRecorded k i) inj 0x3A k ((s.faultRecorded k i).word (R.TGT_FAULT_INFO k))
  exact ⟨e, hrecord ▸ hdue, hcode, hunit⟩

/-- A register of the record reads as the record has it; the detection writes its own counter. -/
theorem State.faultDetected_rd {a : Nat} (h : a ≠ R.FLT_DET_CNT 0x3A) :
    (s.faultDetected inj k i).rd a = (s.faultRecorded k i).rd a :=
  State.detectWith_rd _ _ _ _ _ h

theorem State.faultRecorded_rd {a : Nat} (hinfo : a ≠ R.TGT_FAULT_INFO k) (hcount : a ≠ R.TGT_FAULTS k) :
    (s.faultRecorded k i).rd a = s.rd a := by
  unfold State.faultRecorded
  rw [State.setTgt_rd, State.rd_inc_other _ hcount, State.rd_setWord_other _ _ hinfo]

theorem State.faultRecorded_faultInfo (hk : k < 12) :
    (s.faultRecorded k i).word (R.TGT_FAULT_INFO k) = (2 ^ 31 + s.topNumber k * 2 ^ 16 + i % 512) % 2 ^ 32 := by
  obtain ⟨hcount, -⟩ := faultRegs_ne hk
  unfold State.faultRecorded State.word
  rw [State.setTgt_rd, State.rd_inc_other _ hcount]
  exact s.word_setWord_same _ _

theorem State.faultRecorded_count (hk : k < 12) :
    (s.faultRecorded k i).word (R.TGT_FAULTS k) = min (s.word (R.TGT_FAULTS k) + 1) (2 ^ 32 - 1) := by
  obtain ⟨hcount, -⟩ := faultRegs_ne hk
  have hinc := (s.setWord (R.TGT_FAULT_INFO k) (2 ^ 31 + s.topNumber k * 2 ^ 16 + i % 512)).word_inc_whole (R.TGT_FAULTS k)
  unfold State.word at hinc ⊢
  rw [State.rd_setWord_other _ _ hcount.symm] at hinc
  unfold State.faultRecorded
  rw [State.setTgt_rd]
  exact hinc

/-- After the detection a vector may be sent, and the line of the frozen target is driven low. -/
theorem State.stackFault_line : (s.faultDetected inj k i).SparesButLine k (s.stackFault inj k i) [R.MSIX_PBA] := by
  have hsend : (s.faultDetected inj k i).SparesButLine k
      ((s.faultDetected inj k i).cond (!(s.tgt k).frozen) (·.sendMsix 4)) [R.MSIX_PBA] :=
    .cond _ (State.sendMsix_sparesButLine _ k 4 List.mem_cons_self)
  have hfrozen := hsend.frozen.trans (congrArg IrqTarget.frozen (s.faultDetected_tgt_same inj k i))
  rw [State.stackFault_eq, State.driveLine_of_none (State.bestClaim_of_frozen hfrozen)]
  exact hsend.trans (State.setLine_sparesButLine _ k _ _)

end

/-! ## The write -/

section
variable {s p : State} {k i : Nat} {w : Wr}

/-- Without an injection, the number of the top entry of a stack that is not frozen pops it. -/
theorem State.complete_of_top {prio : Nat} {rest : List (Nat × Nat)} (hinj : s.injArmed 0x3A k = false)
    (hstack : (s.tgt k).stack = (i, prio) :: rest) (hfrozen : (s.tgt k).frozen = false) :
    s.complete k i = (s.popped k i rest).driveLine k true := by
  unfold State.complete
  dsimp only
  rw [State.injSpend_of_unarmed hinj, hinj, hstack]
  dsimp only
  rw [if_neg (by simp), if_neg (Bool.eq_false_iff.mp hfrozen)]
  rfl

/-- Any other number is a stack fault. -/
theorem State.complete_of_other (hinj : s.injArmed 0x3A k = false) (hother : (s.tgt k).stack.head?.map (·.1) ≠ some i) :
    s.complete k i = s.stackFault false k i := by
  unfold State.complete
  dsimp only
  rw [State.injSpend_of_unarmed hinj, hinj]
  cases hstack : (s.tgt k).stack with
  | nil => rfl
  | cons e rest =>
    rw [hstack] at hother
    exact if_pos (.inl fun he => hother (congrArg some he.symm))

/-- A number has no bit outside all of them. -/
theorem strayBits_allOnes (v : Nat) : strayBits v 0xFFFFFFFF = false := by
  unfold strayBits
  simp

/-- A write that is permitted is so where no bit is reserved. -/
theorem State.permits_allBits {r : RegAt} (h : s.permits w r = true) : s.permits w { r with valid := 0xFFFFFFFF } = true := by
  obtain ⟨hpart, hcheck, hgate, -⟩ := State.permits_iff.mp h
  exact State.permits_iff.mpr ⟨hpart, hcheck, hgate, strayBits_allOnes _⟩

/-- COMPLETE is the write of its register. -/
theorem State.complete_serves (s : State) (w : Wr) (hk : k < 12) :
    s.Serves (.complete k w) w (G.TGT_COMPLETE k) (·.writeComplete k w) :=
  State.serves rfl (decide_eq_true hk) rfl rfl

/-- A permitted write of a source's number is its completion. -/
theorem State.exec_complete (hk : k < 12) (hi : i < 496) (hdata : w.data = BitVec.ofNat 32 i)
    (hw : s.permits w (G.TGT_COMPLETE k) = true) (hp : s.accepted w.master (R.TGT_COMPLETE k) = p) :
    exec (.complete k w) s = s.ends (p.complete k i) := by
  subst hp
  have hnumber : w.data.toNat = i := by
    rw [hdata]
    exact Nat.mod_eq_of_lt (by omega)
  refine (s.complete_serves w hk hw).trans (congrArg s.ends ?_)
  refine (State.guarded_permits (State.permits_allBits hw) _).trans ?_
  dsimp only
  rw [hnumber]
  exact if_neg (by omega)

end

end Sys2Proof.Machine

open Sys2Proof Sys2Proof.Machine

/-- Settles O25: the write is `complete` (`exec_complete`), which pops the top entry where the number is its own
(`complete_of_top`) and else is a stack fault (`complete_of_other`); after either, only the line is driven (`popped_line`,
`stackFault_line`). -/
theorem completionPopsOrFaults : Obligations.CompletionPopsOrFaults := by
  intro s k i w hk hi hdata hw p hinj
  have hexec : exec (.complete k w) s = s.ends (p.complete k i) := State.exec_complete hk hi hdata hw rfl
  refine ⟨fun prio rest hstack hfrozen => ?_, fun hother => ?_⟩
  · have hline := p.popped_line k i rest
    have htgt := p.popped_tgt_same k i rest
    obtain ⟨hmem, hrd⟩ := p.popped_mem_rd k i rest
    exact ⟨_, hexec.trans (congrArg s.ends (State.complete_of_top hinj hstack hfrozen)),
      hline.stack.trans (congrArg IrqTarget.stack htgt),
      hline.frozen.trans ((congrArg IrqTarget.frozen htgt).trans hfrozen),
      (congrArg IrqSrc.inService (hline.src i)).trans (congrArg IrqSrc.inService (p.popped_src_same k i rest)),
      hline.mem.trans hmem, fun j hj => (hline.src j).trans (p.popped_src_other k i rest hj),
      fun j hj => (hline.tgt j hj).trans (p.popped_tgt_other k i rest hj), fun a ha => (hline.rd a ha).trans (hrd a)⟩
  · have hline := p.stackFault_line false k i
    have htgt := p.faultDetected_tgt_same false k i
    obtain ⟨-, hinfoDet, hinfoPba, hcountDet, hcountPba⟩ := faultRegs_ne hk
    obtain ⟨e, hdue, hcode, hunit⟩ := p.faultDetected_due false k i
    have hword : ∀ a, a ≠ R.FLT_DET_CNT 0x3A → a ≠ R.MSIX_PBA →
        (p.stackFault false k i).word a = (p.faultRecorded k i).word a := fun a hdet hpba =>
      congrArg BitVec.toNat ((hline.rd a (by simp [hpba])).trans (p.faultDetected_rd false k i hdet))
    have hinfo : (p.stackFault false k i).word (R.TGT_FAULT_INFO k) = (2 ^ 31 + (p.topNumber k * 2 ^ 16 + i)) % 2 ^ 32 := by
      rw [hword _ hinfoDet hinfoPba, State.faultRecorded_faultInfo _ _ _ hk, Nat.mod_eq_of_lt (by omega : i < 512),
        Nat.add_assoc]
    refine ⟨_, hexec.trans (congrArg s.ends (State.complete_of_other hinj hother)),
      hline.stack.trans (by rw [htgt]), hline.frozen.trans (congrArg IrqTarget.frozen htgt),
      (hword _ hcountDet hcountPba).trans (p.faultRecorded_count k i hk), hinfo, ⟨e, hline.due.trans hdue, hcode, hunit⟩,
      hline.mem.trans (p.faultDetected_mem false k i), hline.irqSrc.trans (p.faultDetected_irqSrc false k i),
      fun j hj => (hline.tgt j hj).trans (p.faultDetected_tgt_other false k i hj), fun a ha => ?_⟩
    simp only [List.mem_cons, List.not_mem_nil, or_false, not_or] at ha
    obtain ⟨hcount, hfault, hdet, hpba⟩ := ha
    exact (hline.rd a (by simp [hpba])).trans
      ((p.faultDetected_rd false k i hdet).trans (p.faultRecorded_rd k i hfault hcount))
end

section
/-! SUPPORT. A stack reset of a target (R636). -/

namespace Sys2Proof.Machine

/-- The sources of a list leave service. -/
def State.release (s : State) (stack : List (Nat × Nat)) : State :=
  stack.foldl (fun s e => s.setSrc e.1 { s.src e.1 with inService := none }) s

section
variable (s : State)

/-- Releasing sources writes their records alone. -/
theorem State.release_keeps {γ : Type} (π : State → γ) (hπ : ∀ t x, π { t with irqSrc := x } = π t)
    (stack : List (Nat × Nat)) : π (s.release stack) = π s :=
  foldl_keeps π (fun t _ => hπ t _) stack s

/-- Sources outside the list are as they were. -/
theorem State.release_src_other {stack : List (Nat × Nat)} {i : Nat} (h : ∀ e ∈ stack, e.1 ≠ i) :
    (s.release stack).src i = s.src i := by
  induction stack generalizing s with
  | nil => rfl
  | cons e stack ih =>
    obtain ⟨hne, hrest⟩ := List.forall_mem_cons.mp h
    exact (ih (s.setSrc e.1 _) hrest).trans (s.src_setSrc_other e.1 _ hne.symm)

/-- A source in no service is in none afterwards. -/
theorem State.release_of_free {i : Nat} (h : (s.src i).inService = none) (stack : List (Nat × Nat)) :
    ((s.release stack).src i).inService = none := by
  induction stack generalizing s with
  | nil => exact h
  | cons e stack ih =>
    refine ih (s.setSrc e.1 _) ?_
    by_cases hi : i = e.1
    · rw [hi, State.src_setSrc_same]
    · rw [State.src_setSrc_other _ _ _ hi, h]

/-- A source of the list is in no service. -/
theorem State.release_src {stack : List (Nat × Nat)} {e : Nat × Nat} (h : e ∈ stack) :
    ((s.release stack).src e.1).inService = none := by
  induction stack generalizing s with
  | nil => exact absurd h List.not_mem_nil
  | cons d stack ih =>
    obtain rfl | hrest := List.mem_cons.mp h
    · refine State.release_of_free (s.setSrc e.1 _) ?_ stack
      rw [State.src_setSrc_same]
    · exact ih (s.setSrc d.1 _) hrest

end

/-- The stack of target `k` is emptied and thawed, its sources leave service, and FAULT_INFO is cleared (R636, R643). -/
def State.emptied (s : State) (k : Nat) : State :=
  let t := s.release (s.tgt k).stack
  (t.setTgt k { t.tgt k with stack := [], frozen := false }).setWord (R.TGT_FAULT_INFO k) 0

section
variable (s : State) (k : Nat)

theorem State.emptied_tgt_same : (s.emptied k).tgt k = { s.tgt k with stack := [], frozen := false } := by
  have hrelease : (s.release (s.tgt k).stack).tgt k = s.tgt k := s.release_keeps (·.tgt k) (fun _ _ => rfl) _
  unfold State.emptied
  dsimp only
  rw [hrelease, State.tgt_setWord, State.tgt_setTgt_same]

theorem State.emptied_tgt_other {j : Nat} (h : j ≠ k) : (s.emptied k).tgt j = s.tgt j := by
  have hrelease : (s.release (s.tgt k).stack).tgt j = s.tgt j := s.release_keeps (·.tgt j) (fun _ _ => rfl) _
  unfold State.emptied
  dsimp only
  rw [State.tgt_setWord, State.tgt_setTgt_other _ _ _ h, hrelease]

theorem State.emptied_src (i : Nat) : (s.emptied k).src i = (s.release (s.tgt k).stack).src i := rfl

theorem State.emptied_mem : (s.emptied k).mem = s.mem :=
  s.release_keeps State.mem (fun _ _ => rfl) _

theorem State.emptied_faultInfo : (s.emptied k).rd (R.TGT_FAULT_INFO k) = 0 :=
  State.rd_wr_same _ _ _

theorem State.emptied_rd {a : Nat} (h : a ≠ R.TGT_FAULT_INFO k) : (s.emptied k).rd a = s.rd a :=
  (State.rd_setWord_other _ 0 h).trans (s.release_keeps (·.rd a) (fun _ _ => rfl) _)

/-- After that only the line is driven. -/
theorem State.emptied_line :
    (s.emptied k).SparesButLine k ((s.emptied k).driveLine k false) [R.MSIX_PBA, R.CC_STAT k] :=
  State.driveLine_sparesButLine _ k false List.mem_cons_self (List.mem_cons_of_mem _ List.mem_cons_self)

end

theorem tgtFaultInfo_ne {k : Nat} (hk : k < 12) : R.TGT_FAULT_INFO k ≠ R.MSIX_PBA ∧ R.TGT_FAULT_INFO k ≠ R.CC_STAT k := by
  unfold R.TGT_FAULT_INFO R.MSIX_PBA R.CC_STAT
  omega

section
variable {s p : State} {k : Nat} {w : Wr}

/-- STACK_RESET is the write of its register. -/
theorem State.stackReset_serves (s : State) (w : Wr) (hk : k < 12) :
    s.Serves (.stackReset k w) w (G.TGT_STACK_RESET k) (·.writeStackReset k w) :=
  State.serves rfl (decide_eq_true hk) rfl rfl

variable (hk : k < 12) (hw : s.permits w (G.TGT_STACK_RESET k) = true) (hp : s.accepted w.master (R.TGT_STACK_RESET k) = p)
include hk hw hp

/-- With KEY and GO the stack is emptied and the line driven. -/
theorem State.exec_stackReset_go (hkey : bitsOf w.data.toNat 31 24 = 0xA5) (hgo : bitOf w.data.toNat 0 = true) :
    exec (.stackReset k w) s = s.ends ((p.emptied k).driveLine k false) := by
  subst hp
  refine (s.stackReset_serves w hk hw).trans (congrArg s.ends ((State.guarded_permits hw _).trans (if_neg ?_)))
  rw [hkey, hgo]
  decide

/-- Without KEY or GO nothing happens. -/
theorem State.exec_stackReset_ignored (h : bitsOf w.data.toNat 31 24 ≠ 0xA5 ∨ bitOf w.data.toNat 0 = false) :
    exec (.stackReset k w) s = s.ends p := by
  subst hp
  refine (s.stackReset_serves w hk hw).trans (congrArg s.ends ((State.guarded_permits hw _).trans (if_pos ?_)))
  rwa [Bool.not_eq_true']

end

end Sys2Proof.Machine

open Sys2Proof Sys2Proof.Machine

/-- Settles O26: with KEY and GO the write empties the stack and drives the line (`exec_stackReset_go`), without them it does
nothing (`exec_stackReset_ignored`); which sources leave service is said by `release_src` and `release_src_other`. -/
theorem stackResetEmptiesAndThaws : Obligations.StackResetEmptiesAndThaws := by
  intro s k w hk hw p
  refine ⟨fun hkey hgo => ?_, fun h => ?_⟩
  · have hline := p.emptied_line k
    have htgt := p.emptied_tgt_same k
    obtain ⟨hpba, hcore⟩ := tgtFaultInfo_ne hk
    have hinfo : ((p.emptied k).driveLine k false).rd (R.TGT_FAULT_INFO k) = 0 :=
      (hline.rd _ (by simp [hpba, hcore])).trans (p.emptied_faultInfo k)
    refine ⟨_, State.exec_stackReset_go hk hw rfl hkey hgo,
      hline.stack.trans (congrArg IrqTarget.stack htgt), hline.frozen.trans (congrArg IrqTarget.frozen htgt),
      congrArg BitVec.toNat hinfo, fun e he => ?_, fun i hi => ?_,
      fun j hj => (hline.tgt j hj).trans (p.emptied_tgt_other k hj), hline.mem.trans (p.emptied_mem k), fun a ha => ?_⟩
    · rw [hline.src, State.emptied_src]
      exact p.release_src he
    · rw [hline.src, State.emptied_src]
      exact p.release_src_other hi
    · rw [List.mem_cons, not_or] at ha
      obtain ⟨hfault, hrest⟩ := ha
      exact (hline.rd a hrest).trans (p.emptied_rd k hfault)
  · exact ⟨_, State.exec_stackReset_ignored hk hw rfl h, rfl⟩
end

section
/-! SUPPORT. A counted edge of a GPIO pin (R829). -/

namespace Sys2Proof.Machine

/-! ## Bits of a register -/

/-- A field of one bit reads as that bit. -/
theorem State.get_bit (s : State) (a k : Nat) : s.get ⟨a, k, k⟩ = s.word a / 2 ^ k % 2 :=
  congrArg (s.word a / 2 ^ k % 2 ^ ·) (Nat.add_sub_cancel_left k 1)

theorem State.bitOf_word (s : State) (a k : Nat) : bitOf (s.word a) k = s.flag ⟨a, k, k⟩ := by
  unfold State.flag bitOf
  rw [s.get_bit]
  cases Nat.mod_two_eq_zero_or_one (s.word a / 2 ^ k) with
  | inl h => rw [h]; rfl
  | inr h => rw [h]; rfl

/-- A bit that reads the other value is put by adding or subtracting its weight. -/
theorem State.setWord_otherBit {s : State} {a k : Nat} {b : Bool} (h : bitOf (s.word a) k ≠ b) :
    s.setWord a (if b then s.word a + 2 ^ k else s.word a - 2 ^ k) = s.put ⟨a, k, k⟩ b := by
  have hget : fieldGet (s.rd a) k k = 1 - b2n b := by
    refine (s.get_bit a k).trans ?_
    have hmod := Nat.mod_two_eq_zero_or_one (s.word a / 2 ^ k)
    unfold bitOf at h
    cases b <;> simp_all [b2n]
  unfold State.put State.set State.setWord fieldPut
  rw [hget]
  cases b <;> simp [b2n, State.word]

/-! ## The edge -/

/-- The trigger of a pin selects the edge to a level: 2 the rising edge, 3 the falling one. -/
def State.gpioSelects (s : State) (pin : Nat) (level : Bool) : Bool :=
  (s.gpioTrig pin == 2 && level) || (s.gpioTrig pin == 3 && !level)

/-- The source of a pin latches an edge. -/
def State.latchPin (s : State) (pin : Nat) : State :=
  s.setSrc (320 + pin) { s.src (320 + pin) with edge := true }

/-- A pin takes a level, and its source latches the edge where the trigger selects it. -/
def State.pinTakes (s : State) (pin : Nat) (level : Bool) : State :=
  (s.put ⟨R.MISC_GPIO_IN, pin, pin⟩ level).cond (s.gpioSelects pin level) (·.latchPin pin)

section
variable (s : State) (pin : Nat) (level : Bool)

/-- Latching the edge writes the source's record alone. -/
theorem State.pinTakes_regs : (s.pinTakes pin level).regs = (s.put ⟨R.MISC_GPIO_IN, pin, pin⟩ level).regs := by
  unfold State.pinTakes State.cond
  split <;> rfl

theorem State.pinTakes_spares : s.Spares (s.pinTakes pin level) [R.MISC_GPIO_IN] := by
  have hput : s.Spares (s.put ⟨R.MISC_GPIO_IN, pin, pin⟩ level) [R.MISC_GPIO_IN] := s.set_spares ⟨R.MISC_GPIO_IN, pin, pin⟩ _
  unfold State.pinTakes State.cond
  split <;> exact hput

/-- GPIO_IN reads the level at the pin and every other pin as before. -/
theorem State.pinTakes_bits (hpin : pin < 32) :
    bitOf ((s.pinTakes pin level).word R.MISC_GPIO_IN) pin = level ∧
    ∀ k, k ≠ pin → bitOf ((s.pinTakes pin level).word R.MISC_GPIO_IN) k = bitOf (s.word R.MISC_GPIO_IN) k := by
  have hword : (s.pinTakes pin level).word R.MISC_GPIO_IN =
      (s.put ⟨R.MISC_GPIO_IN, pin, pin⟩ level).word R.MISC_GPIO_IN :=
    congrArg (fun regs => (Tbl.get resetWord regs R.MISC_GPIO_IN).toNat) (s.pinTakes_regs pin level)
  rw [hword]
  refine ⟨?_, fun k hk => ?_⟩
  · rw [State.bitOf_word]
    exact s.flag_put_bit level R.MISC_GPIO_IN hpin
  · rw [State.bitOf_word, State.bitOf_word]
    exact s.flag_set_other_bit R.MISC_GPIO_IN R.MISC_GPIO_IN _ hpin hk

/-- A selected edge is latched beside one that is pending. -/
theorem State.pinTakes_src :
    ((s.pinTakes pin level).src (320 + pin)).edge = ((s.src (320 + pin)).edge || s.gpioSelects pin level) := by
  unfold State.pinTakes
  cases s.gpioSelects pin level with
  | true => rw [State.cond_true, State.latchPin, State.src_setSrc_same, Bool.or_true]
  | false => exact (Bool.or_false _).symm

theorem State.pinTakes_src_other {j : Nat} (h : j ≠ 320 + pin) : (s.pinTakes pin level).src j = s.src j := by
  unfold State.pinTakes
  cases s.gpioSelects pin level with
  | true => exact State.src_setSrc_other _ _ _ h
  | false => rfl

end

theorem gpioTrig_ne_gpioIn (i : Nat) : R.MISC_GPIO_TRIG i ≠ R.MISC_GPIO_IN := by
  unfold R.MISC_GPIO_TRIG R.MISC_GPIO_IN
  omega

/-- GPIO_IN holds none of the triggers. -/
theorem State.gpioTrig_setWord_gpioIn (s : State) (v pin : Nat) :
    (s.setWord R.MISC_GPIO_IN v).gpioTrig pin = s.gpioTrig pin := by
  unfold State.gpioTrig State.word
  rw [s.rd_setWord_other v (gpioTrig_ne_gpioIn _)]

section
variable {s : State} {pin : Nat} {level : Bool}

/-- An edge to the level that the pin reads already is none. -/
theorem State.gpioEdge_of_eq (h : bitOf (s.word R.MISC_GPIO_IN) pin = level) : s.gpioEdge pin level = s := by
  unfold State.gpioEdge
  dsimp only
  rw [beq_iff_eq.mpr h, Bool.or_true]
  rfl

/-- The edge of a pin that there is takes effect while the part runs. -/
theorem State.gpioEdge_takes (s : State) (level : Bool) (hpin : pin < 32) :
    s.Takes (.gpioEdge pin level) (·.gpioEdge pin level) :=
  State.takes rfl (decide_eq_true hpin)

/-- With the queue of the pin off, a counted edge leaves no record. -/
theorem State.gpioEdge_of_ne (hpin : pin < 32) (hpart : s.inReset = none) (hne : bitOf (s.word R.MISC_GPIO_IN) pin ≠ level)
    (hqueue : bitOf (s.word R.MISC_GPIO_QEN) pin = false) : s.gpioEdge pin level = s.pinTakes pin level := by
  have hqen : bitOf ((s.pinTakes pin level).word R.MISC_GPIO_QEN) pin = false := by
    obtain ⟨-, -, -, hrd⟩ := s.pinTakes_spares pin level
    unfold State.word at hqueue ⊢
    rw [hrd _ (by decide), hqueue]
  unfold State.gpioEdge
  dsimp only
  rw [decide_eq_false (Nat.not_le.mpr hpin), hpart, beq_false_of_ne hne, State.gpioTrig_setWord_gpioIn,
    State.setWord_otherBit hne]
  exact congrArg ((s.pinTakes pin level).cond · (·.gpioRecord pin level)) hqen

end

end Sys2Proof.Machine

open Sys2Proof Sys2Proof.Machine

/-- Settles O37: an edge to the other level is `pinTakes` (`gpioEdge_of_ne`), which puts one bit of GPIO_IN (`pinTakes_bits`) and
writes one source (`pinTakes_src`); an edge to the level that is there already is none (`gpioEdge_of_eq`). -/
theorem gpioEdgeReachesItsSource : Obligations.GpioEdgeReachesItsSource := by
  intro s pin level hpin hpart
  have hexec := s.gpioEdge_takes level hpin hpart
  refine ⟨fun hne hqueue => ?_, fun heq => ?_⟩
  · obtain ⟨hbit, hbits⟩ := s.pinTakes_bits pin level hpin
    have hedge : ((s.pinTakes pin level).src (320 + pin)).edge =
        ((s.src (320 + pin)).edge || (s.gpioTrig pin == 2 && level) || (s.gpioTrig pin == 3 && !level)) :=
      (s.pinTakes_src pin level).trans (Bool.or_assoc _ _ _).symm
    exact ⟨_, hexec.trans (congrArg s.ends (State.gpioEdge_of_ne hpin hpart hne hqueue)), hbit, fun k _ hk => hbits k hk, hedge,
      fun j hj => s.pinTakes_src_other pin level hj, s.pinTakes_spares pin level⟩
  · exact ⟨s, hexec.trans (congrArg s.ends (State.gpioEdge_of_eq heq)), rfl⟩
end

section
/-! SUPPORT. A step with commands waiting, and the service of the whole queue (chapter 95). -/

namespace Sys2Proof.Machine

/-- With a command waiting, a step takes it from the front of the queue and leaves the others and the time as they were. -/
theorem step_of_cons {s : State} {c : Instr} {rest : List Instr} (h : s.pending = c :: rest) :
    ∃ t, step s = .next t ∧ t.pending = rest ∧ t.ns = s.ns := by
  obtain ⟨u, hu⟩ := exec_ends c { s with pending := rest }
  refine ⟨_, ?_, State.ended_pending { s with pending := rest } u, State.ended_ns { s with pending := rest } u⟩
  unfold step
  rw [h]
  exact hu

/-- A run of one more step is the step and then the run. -/
theorem run_succ_of_step {s t : State} (k : Nat) (h : step s = .next t) :
    Host.Core.run core (k + 1) s = Host.Core.run core k t := by
  have hstep : core.step s = .next t := h
  simp only [Host.Core.run, hstep]

end Sys2Proof.Machine

open Sys2Proof Sys2Proof.Machine

/-- Settles O4, by induction on the number of steps: each takes the front of what is left of the queue (`step_of_cons`). -/
theorem queueIsServedInOrder : Obligations.QueueIsServedInOrder := by
  intro k
  induction k with
  | zero => exact fun s _ => ⟨s, rfl, rfl, rfl⟩
  | succ k ih =>
    intro s hk
    obtain ⟨c, rest, hq⟩ := List.exists_cons_of_length_pos (Nat.zero_lt_of_lt hk)
    obtain ⟨t, hstep, hrest, hns⟩ := step_of_cons hq
    have hlen : k ≤ t.pending.length := by
      rw [hq] at hk
      rw [hrest]
      exact Nat.le_of_succ_le_succ hk
    obtain ⟨u, hrun, hdrop, hns'⟩ := ih t hlen
    refine ⟨u, (run_succ_of_step k hstep).trans hrun, ?_, hns'.trans hns⟩
    rw [hdrop, hrest, hq, List.drop_succ_cons]
end

section
open Sys2Proof Sys2Proof.Machine

/-- Settles O1: a step reads the front of the queue alone. -/
theorem stepServesTheFront : Obligations.StepServesTheFront :=
  fun _ _ _ => rfl

/-- Settles O3: every meaning ends in a next state (`exec_ends`), which keeps the queue and the time by the form of the end. -/
theorem everyCommandEnds : Obligations.EveryCommandEnds := by
  intro c s
  obtain ⟨u, hu⟩ := exec_ends c s
  exact ⟨s.ended u, hu, State.ended_pending s u, State.ended_ns s u⟩
end

section
/-! SUPPORT. Fields of several bits beside one another, and ABORT of a check-value engine (R654, R655). -/

namespace Sys2Proof.Machine

/-! ## Fields beside one another -/

section
variable (s : State) (a b v : Nat) {hi lo j k : Nat}

/-- Bits set leave every group of bits that shares none with them as it was, whatever their registers are. -/
theorem State.get_set_beside (hl : lo ≤ hi) (hh : hi < 32) (hk : k ≤ j) (h : j < lo ∨ hi < k) :
    (s.set ⟨a, hi, lo⟩ v).get ⟨b, j, k⟩ = s.get ⟨b, j, k⟩ :=
  s.get_set_apart ⟨a, hi, lo⟩ ⟨b, j, k⟩ v hl hh hk h

/-- The same for a bit read as a truth value. -/
theorem State.flag_set_beside (hl : lo ≤ hi) (hh : hi < 32) (h : j < lo ∨ hi < j) :
    (s.set ⟨a, hi, lo⟩ v).flag ⟨b, j, j⟩ = s.flag ⟨b, j, j⟩ :=
  congrArg (· != 0) (s.get_set_beside a b v hl hh le_rfl h)

/-- A group of bits reads as the number it was set to, where that fits it. -/
theorem State.get_set_of_lt (hl : lo ≤ hi) (hh : hi < 32) (hv : v < 2 ^ (hi + 1 - lo)) :
    (s.set ⟨a, hi, lo⟩ v).get ⟨a, hi, lo⟩ = v :=
  (s.get_set_same ⟨a, hi, lo⟩ v hl hh).trans (Nat.mod_eq_of_lt hv)

end

/-! ## Time of an accepted write -/

theorem State.injSpend_ns (s : State) (d unit : Nat) : (s.injSpend d unit).ns = s.ns := by
  unfold State.injSpend
  split <;> rfl

/-- The checker takes no time to let a write of control space through. -/
theorem State.accepted_ns {s : State} {w : Wr} {r : RegAt} (hs : spaceOf r.addr = .cspace) (h : s.permits w r = true) :
    (s.accepted w.master r.addr).ns = s.ns := by
  obtain ⟨-, hc, -, -⟩ := State.permits_iff.mp h
  show (s.checked w.master r.addr 4 true).2.ns = s.ns
  rw [State.checked_cspace hs hc, State.injSpend_ns]

/-! ## The end of a job without a result -/

section
variable (s : State) (e : Nat) {code : Nat}

/-- A code other than 0 is a failure. -/
theorem State.cveEnd_failed (h : code ≠ 0) :
    s.cveEnd e code = ((s.drop (F.CVE_STAT_BUSY e)).set (F.CVE_STAT_CODE e) code).raise (F.CVE_STAT_FAIL e) :=
  if_neg h

/-- BUSY clears: CODE and FAIL have other bits of STAT. -/
theorem State.cveEnd_busy (h : code ≠ 0) : (s.cveEnd e code).flag (F.CVE_STAT_BUSY e) = false :=
  calc (s.cveEnd e code).flag (F.CVE_STAT_BUSY e)
      = ((s.drop (F.CVE_STAT_BUSY e)).set (F.CVE_STAT_CODE e) code).flag (F.CVE_STAT_BUSY e) := by
        rw [s.cveEnd_failed e h]
        exact State.flag_set_other_bit _ _ _ 1 (by decide) (by decide)
    _ = (s.drop (F.CVE_STAT_BUSY e)).flag (F.CVE_STAT_BUSY e) :=
        State.flag_set_beside _ _ _ code (by decide) (by decide) (by decide)
    _ = false := s.flag_drop_bit _ (by decide)

theorem State.cveEnd_code (h : code ≠ 0) (hlt : code < 2 ^ 8) : (s.cveEnd e code).get (F.CVE_STAT_CODE e) = code := by
  rw [s.cveEnd_failed e h]
  exact (State.get_set_beside _ _ _ 1 (by decide) (by decide) (by decide) (by decide)).trans
    (State.get_set_of_lt _ _ code (by decide) (by decide) hlt)

theorem State.cveEnd_fail (h : code ≠ 0) : (s.cveEnd e code).flag (F.CVE_STAT_FAIL e) = true := by
  rw [s.cveEnd_failed e h]
  exact State.flag_raise_bit _ _ (by decide)

/-- DONE is as it was. -/
theorem State.cveEnd_done (h : code ≠ 0) : (s.cveEnd e code).flag (F.CVE_STAT_DONE e) = s.flag (F.CVE_STAT_DONE e) :=
  calc (s.cveEnd e code).flag (F.CVE_STAT_DONE e)
      = ((s.drop (F.CVE_STAT_BUSY e)).set (F.CVE_STAT_CODE e) code).flag (F.CVE_STAT_DONE e) := by
        rw [s.cveEnd_failed e h]
        exact State.flag_set_other_bit _ _ _ 1 (by decide) (by decide)
    _ = (s.drop (F.CVE_STAT_BUSY e)).flag (F.CVE_STAT_DONE e) :=
        State.flag_set_beside _ _ _ code (by decide) (by decide) (by decide)
    _ = s.flag (F.CVE_STAT_DONE e) := s.flag_set_other_bit _ _ 0 (by decide) (by decide)

/-- Only STAT is written: the count of JOBS is another register. -/
theorem State.cveEnd_spares (h : code ≠ 0) : s.Spares (s.cveEnd e code) [R.CVE_STAT e] := by
  rw [s.cveEnd_failed e h]
  exact (((State.Spares.refl s _).set (F.CVE_STAT_BUSY e) 0 List.mem_cons_self).set (F.CVE_STAT_CODE e) code
    List.mem_cons_self).set (F.CVE_STAT_FAIL e) 1 List.mem_cons_self

theorem State.cveEnd_ns (h : code ≠ 0) : (s.cveEnd e code).ns = s.ns := by
  rw [s.cveEnd_failed e h]
  exact (State.set_ns _ _ _).trans ((State.set_ns _ _ _).trans (State.set_ns _ _ _))

end

/-! ## The write of CTRL with OP ABORT -/

theorem spaceOf_cveCtrl {e : Nat} (he : e < 8) : spaceOf (R.CVE_CTRL e) = .cspace := by
  unfold R.CVE_CTRL
  exact spaceOf_cspace (by omega) (by omega)

/-- OP of CVE.CTRL has the bits of OP of PLAN.CTRL. -/
theorem asking_cveOp (w : Wr) (e : Nat) {op : Nat} (h : op < 16) :
    (asking w (F.CVE_CTRL_OP e) op).data.toNat % 16 = op :=
  asking_planOp w h

/-- With its KEY, a permitted ABORT ends the job that runs, if one does. -/
theorem State.writeCveCtrl_abort {s p : State} {e : Nat} {w : Wr} (hw : s.permits w (G.CVE_CTRL e) = true)
    (hp : s.accepted w.master (R.CVE_CTRL e) = p) (hkey : bitsOf w.data.toNat 31 24 = 0xA5)
    (hop : w.data.toNat % 16 = 2) :
    (s.accepted w.master (R.CVE_CTRL e)).writeCveCtrl e w = p.cond (p.flag (F.CVE_STAT_BUSY e)) (·.cveEnd e 7) := by
  subst hp
  refine (State.guarded_permits hw _).trans ?_
  dsimp only
  rw [if_neg (not_not.mpr hkey), hop]
  rfl

end Sys2Proof.Machine

open Sys2Proof Sys2Proof.Machine

/-- Settles O27: ABORT is the end of a job with code 7 where one runs (`writeCveCtrl_abort`), and such an end writes STAT alone
(`cveEnd_spares`). -/
theorem abortEndsARunningJob : Obligations.AbortEndsARunningJob := by
  intro s e w he hw hkey p
  have hserves : s.Serves (.cveAbort e w) (asking w (F.CVE_CTRL_OP e) 2) (G.CVE_CTRL e)
      (·.writeCveCtrl e (asking w (F.CVE_CTRL_OP e) 2)) :=
    State.serves_asking rfl (decide_eq_true he) rfl
  have hp : s.accepted (asking w (F.CVE_CTRL_OP e) 2).master (R.CVE_CTRL e) = p :=
    congrArg (s.accepted · _) (asking_master w _ 2)
  have heffect : exec (.cveAbort e w) s = s.ends (p.cond (p.flag (F.CVE_STAT_BUSY e)) (·.cveEnd e 7)) :=
    (hserves hw).trans (congrArg s.ends (State.writeCveCtrl_abort hw hp hkey (asking_cveOp w e (by decide))))
  constructor
  · intro hbusy
    rw [hbusy, State.cond_true] at heffect
    have hns : p.ns = s.ns := (congrArg State.ns hp).symm.trans (State.accepted_ns (r := G.CVE_CTRL e) (spaceOf_cveCtrl he) hw)
    exact ⟨p.cveEnd e 7, heffect, p.cveEnd_busy e (by decide), p.cveEnd_code e (by decide) (by decide),
      p.cveEnd_fail e (by decide), p.cveEnd_done e (by decide), (p.cveEnd_ns e (by decide)).trans hns,
      p.cveEnd_spares e (by decide)⟩
  · intro hidle
    rw [hidle, State.cond_false] at heffect
    exact ⟨p, heffect, rfl⟩
end

section
/-! SUPPORT. A slip of a lane's word boundary (R675). -/

namespace Sys2Proof.Machine

/-- The state after a slip: where the boundary stands, the slip no longer pending, and the count. -/
def State.slipped (s : State) (l : Nat) : State :=
  ((s.set (F.LANE_STAT_BOUNDARY l)
    ((s.get (F.LANE_STAT_BOUNDARY l) + 1) % (if s.laneRaw l then 40 else 66))).drop (F.LANE_STAT_SLIP_PEND l)).inc
    (F.LANE_SLIPS_CNT l)

section
variable {s : State} {l : Nat}

theorem State.laneLive_of (hpart : s.inReset = none) (hunit : s.unitPresent .lane l 0 = true)
    (hstate : s.get (F.LANE_STAT_STATE l) ≠ 0) : s.laneLive l = true := by
  unfold State.laneLive
  rw [hpart, hunit, bne_iff_ne.mpr hstate]
  rfl

theorem State.slipMoves_of_pending (hlive : s.laneLive l = true) (h : s.flag (F.LANE_STAT_SLIP_PEND l) = true) :
    s.slipMoves l = s.slipped l := by
  unfold State.slipMoves
  rw [hlive, h]
  rfl

theorem State.slipMoves_of_idle (h : s.flag (F.LANE_STAT_SLIP_PEND l) = false) : s.slipMoves l = s :=
  if_pos (by rw [h, Bool.not_false, Bool.or_true])

end

section
variable (s : State) (l : Nat)

theorem laneStat_ne_laneSlips : R.LANE_STAT l ≠ R.LANE_SLIPS l := by
  unfold R.LANE_STAT R.LANE_SLIPS
  omega

/-- Both word widths fit the field. -/
theorem State.slipped_boundary :
    (s.slipped l).get (F.LANE_STAT_BOUNDARY l) =
      (s.get (F.LANE_STAT_BOUNDARY l) + 1) % (if s.laneRaw l then 40 else 66) := by
  have hwidth : (s.get (F.LANE_STAT_BOUNDARY l) + 1) % (if s.laneRaw l then 40 else 66) < 2 ^ 8 := by
    split <;> omega
  exact ((State.get_set_other _ _ _ _ (laneStat_ne_laneSlips l)).trans
    (State.get_set_beside _ _ _ 0 (by decide) (by decide) (by decide) (by decide))).trans
    (State.get_set_of_lt _ _ _ (by decide) (by decide) hwidth)

theorem State.slipped_pend : (s.slipped l).flag (F.LANE_STAT_SLIP_PEND l) = false := by
  have hcount : (s.slipped l).flag (F.LANE_STAT_SLIP_PEND l) = _ :=
    congrArg (· != 0) (State.get_set_other _ (F.LANE_SLIPS_CNT l) (F.LANE_STAT_SLIP_PEND l) _ (laneStat_ne_laneSlips l))
  exact hcount.trans (State.flag_drop_bit _ _ (by decide))

/-- The writes of STAT leave the count, which is in another register. -/
theorem State.slipped_slips : (s.slipped l).word (R.LANE_SLIPS l) = min (s.word (R.LANE_SLIPS l) + 1) (2 ^ 32 - 1) := by
  have hstat : ∀ v, (((s.set (F.LANE_STAT_BOUNDARY l) v).drop (F.LANE_STAT_SLIP_PEND l)).word (R.LANE_SLIPS l)) =
      s.word (R.LANE_SLIPS l) := fun v =>
    congrArg BitVec.toNat ((State.rd_wr_other _ _ _ _ (laneStat_ne_laneSlips l).symm).trans
      (State.rd_wr_other _ _ _ _ (laneStat_ne_laneSlips l).symm))
  exact (State.word_inc_whole _ _).trans (by rw [hstat])

theorem State.slipped_spares : s.Spares (s.slipped l) [R.LANE_STAT l, R.LANE_SLIPS l] :=
  (((State.Spares.refl s _).set (F.LANE_STAT_BOUNDARY l) _ List.mem_cons_self).set (F.LANE_STAT_SLIP_PEND l) 0
    List.mem_cons_self).set (F.LANE_SLIPS_CNT l) _ (List.mem_cons_of_mem _ List.mem_cons_self)

end

end Sys2Proof.Machine

open Sys2Proof Sys2Proof.Machine

/-- Settles O28: on a live lane a pending slip makes `slipped`, which writes STAT and SLIPS (`slipped_spares`); with none pending
the event has no effect (`slipMoves_of_idle`). -/
theorem slipMovesTheWordBoundary : Obligations.SlipMovesTheWordBoundary := by
  intro s l hl hpart hunit hstate
  have htakes : s.Takes (.slipApplied l) (·.slipMoves l) := State.takes rfl (decide_eq_true hl)
  have hexec := htakes hpart
  constructor
  · intro hpend
    have hmoves := State.slipMoves_of_pending (State.laneLive_of hpart hunit hstate) hpend
    exact ⟨s.slipped l, hexec.trans (congrArg s.ends hmoves), s.slipped_boundary l, s.slipped_pend l, s.slipped_slips l,
      s.slipped_spares l⟩
  · intro hidle
    exact ⟨s, hexec.trans (congrArg s.ends (State.slipMoves_of_idle hidle)), rfl⟩
end

section
/-! SUPPORT. The measured frame rate of an audio port (R692), a sample of the rails (R733) and a kick of the watchdog (R798). -/

namespace Sys2Proof.Machine

/-! ## The frame rate -/

section
variable {s : State} {p : Nat}

/-- The state after an update of MEAS_FS. -/
def State.fsMeasured (s : State) (p : Nat) : State :=
  (s.setSap p { s.sap p with fsCount := 0, fsNs := s.ns }).set (F.SAP_MEAS_FS_FS p) ((s.sap p).fsCount * 16)

theorem State.measFs_of_second (hunit : s.answers .sap p 0 = true) (h : (s.sap p).fsNs + 1000000000 ≤ s.ns) :
    s.measFs p = s.fsMeasured p := by
  exact if_neg (by rw [hunit, decide_eq_false (Nat.not_lt.mpr h)]; decide)

theorem State.measFs_of_less (h : s.ns < (s.sap p).fsNs + 1000000000) : s.measFs p = s :=
  if_pos (by rw [decide_eq_true h, Bool.or_true])

end

theorem State.fsMeasured_sap (s : State) (p : Nat) :
    (s.fsMeasured p).sap p = { s.sap p with fsCount := 0, fsNs := s.ns } :=
  Tbl.get_set_same _ _ p _

theorem State.fsMeasured_spares (s : State) (p : Nat) : s.Spares (s.fsMeasured p) [R.SAP_MEAS_FS p] :=
  State.Spares.set ⟨rfl, rfl, rfl, fun _ _ => rfl⟩ (F.SAP_MEAS_FS_FS p) _ List.mem_cons_self

/-! ## A sample of the rails -/

theorem State.powerSample_of_gathering {s : State} (h : s.inReset = none ∨ s.inReset = some .warm) (mw : List Nat) :
    s.powerSample mw = { s with therm := { s.therm with samples := s.therm.samples ++ [mw] } } := by
  unfold State.powerSample
  rcases h with h | h <;> rw [h] <;> rfl

theorem State.powerSample_of_supplyReset {s : State} (h : s.inReset = some .powerOn ∨ s.inReset = some .brownOut)
    (mw : List Nat) : s.powerSample mw = s := by
  unfold State.powerSample
  rcases h with h | h <;> rw [h] <;> rfl

/-! ## A kick of the watchdog -/

/-- A permitted write of WDOG_KICK acts where its KEY is 0xA5. -/
theorem State.writeWdogKick_permits {s p : State} {w : Wr} (hw : s.permits w G.CLKRST_WDOG_KICK = true)
    (hp : s.accepted w.master R.CLKRST_WDOG_KICK = p) :
    p.writeWdogKick w =
      p.cond (bitsOf w.data.toNat 31 24 == 0xA5) fun p => p.wdogRestart.drop F.CLKRST_STAT_WDOG_FIRST := by
  subst hp
  exact State.guarded_permits hw _

theorem State.wdogRestart_spares (s : State) (written : List Nat) : s.Spares s.wdogRestart written :=
  ⟨rfl, rfl, rfl, fun _ _ => rfl⟩

end Sys2Proof.Machine

open Sys2Proof Sys2Proof.Machine

/-- Settles O29: after a second the event is `fsMeasured`, whose field holds the count times 16 where that fits it; before, it has
no effect (`measFs_of_less`). -/
theorem frameRateIsMeasuredOverASecond : Obligations.FrameRateIsMeasuredOverASecond := by
  intro s p hp hpart hunit
  have htakes : s.Takes (.measFsUpdate p) (·.measFs p) := State.takes rfl (decide_eq_true hp)
  have hexec := htakes hpart
  constructor
  · intro hsecond hfits
    have hsap := s.fsMeasured_sap p
    exact ⟨s.fsMeasured p, hexec.trans (congrArg s.ends (State.measFs_of_second hunit hsecond)),
      State.get_set_of_lt _ _ _ (by decide) (by decide) hfits, congrArg SapRec.fsCount hsap, congrArg SapRec.fsNs hsap,
      s.fsMeasured_spares p⟩
  · intro hless
    exact ⟨s, hexec.trans (congrArg s.ends (State.measFs_of_less hless)), rfl⟩

/-- Settles O31: a sample only adds to the samples held (`powerSample_of_gathering`), but for the resets of the supply
(`powerSample_of_supplyReset`). -/
theorem powerSamplesGather : Obligations.PowerSamplesGather := by
  intro s mw
  constructor
  · intro h
    exact ⟨_, congrArg s.ends (State.powerSample_of_gathering h mw), rfl, rfl, rfl, rfl, fun _ _ => rfl⟩
  · intro h
    exact ⟨s, congrArg s.ends (State.powerSample_of_supplyReset h mw), rfl⟩

/-- Settles O34: with its KEY the write restarts the count and drops WDOG_FIRST alone; with another it does nothing
(`writeWdogKick_permits`). -/
theorem kickRestartsTheWatchdog : Obligations.KickRestartsTheWatchdog := by
  intro s w hw p
  have hserves : s.Serves (.wdogKick w) w G.CLKRST_WDOG_KICK (·.writeWdogKick w) := State.serves rfl rfl rfl rfl
  have hkick := State.writeWdogKick_permits hw (p := p) rfl
  constructor
  · intro hkey
    rw [beq_iff_eq.mpr hkey, State.cond_true] at hkick
    exact ⟨p.wdogRestart.drop F.CLKRST_STAT_WDOG_FIRST, (hserves hw).trans (congrArg s.ends hkick),
      congrArg ClkRec.wdogNs (State.set_clk _ _ _), State.flag_drop_bit _ _ (by decide),
      (p.wdogRestart_spares _).set F.CLKRST_STAT_WDOG_FIRST 0 List.mem_cons_self⟩
  · intro hkey
    rw [beq_false_of_ne hkey, State.cond_false] at hkick
    exact ⟨p, (hserves hw).trans (congrArg s.ends hkick), rfl⟩
end

section
/-! SUPPORT. The start of a touch scan (R714, R715): which channels it measures, and that it releases none where no disabled
channel is touched. -/

namespace Sys2Proof.Machine

/-! ## Folds over channels -/

/-- A fold whose every step fixes the state it starts from ends in that state. -/
theorem foldl_eq_of_fixed {α β : Type} {f : β → α → β} {b : β} {l : List α} (h : ∀ x ∈ l, f b x = b) : l.foldl f b = b := by
  induction l with
  | nil => rfl
  | cons x l ih =>
    rw [List.foldl_cons, h x List.mem_cons_self]
    exact ih fun y hy => h y (List.mem_cons_of_mem _ hy)

/-- The mask with bit c for each of the first `n` channels c of which both hold. -/
def channelMask (p q : Nat → Bool) (n : Nat) : Nat :=
  ((List.range n).filter p).foldl (fun v c => if q c then v + 2 ^ c else v) 0

section
variable (p q : Nat → Bool)

/-- One channel more sets its own bit, above those of the others. -/
theorem channelMask_succ (n : Nat) : channelMask p q (n + 1) = channelMask p q n + if p n && q n then 2 ^ n else 0 := by
  unfold channelMask
  rw [List.range_succ, List.filter_append, List.foldl_append]
  cases hp : p n with
  | false => simp [hp]
  | true => cases hq : q n <;> simp [hp, hq]

theorem channelMask_lt (n : Nat) : channelMask p q n < 2 ^ n := by
  induction n with
  | zero => exact Nat.one_pos
  | succ n ih =>
    rw [channelMask_succ, pow_succ]
    split <;> omega

/-- The mask holds the bits of the channels of which both hold, and no other of theirs. -/
theorem bitOf_channelMask {n c : Nat} (h : c < n) : bitOf (channelMask p q n) c = (p c && q c) := by
  induction n with
  | zero => exact absurd h (Nat.not_lt_zero c)
  | succ n ih =>
    rw [channelMask_succ, bitOf_eq_testBit]
    obtain hlt | rfl := Nat.lt_succ_iff_lt_or_eq.mp h
    · have hrest : (channelMask p q n).testBit c = (p c && q c) := (bitOf_eq_testBit _ _).symm.trans (ih hlt)
      split
      · rw [Nat.add_comm, Nat.testBit_two_pow_add_gt hlt, hrest]
      · rw [Nat.add_zero, hrest]
    · have hclear : (channelMask p q c).testBit c = false := Nat.testBit_lt_two_pow (channelMask_lt p q c)
      split
      · next hboth => rw [Nat.add_comm, Nat.testBit_two_pow_add_eq, hclear, hboth, Bool.not_false]
      · next hnot => rw [Nat.add_zero, hclear, Bool.eq_false_iff.mpr hnot]

end

/-! ## The scan -/

/-- The channels of a scan of group `g` that starts now. -/
def State.tchMask (s : State) (g : Nat) : Nat :=
  channelMask (bitOf (s.tchEn g)) (fun c => ((s.tch g).chan c).cal) 64

/-- The record of group `g` at the start of a scan. -/
def State.tchTaken (s : State) (g : Nat) : TouchGrp :=
  { s.tch g with
    scan := some (s.tchMask g, 0), fromNs := some s.ns, thresh := s.rd (R.TCH_THRESH g), filter := s.rd (R.TCH_FILTER g),
    longest := max 1 (min 3600 (s.get (F.TCH_MAX_TOUCH_S g))) }

/-- The state after the start of a scan that releases no channel. -/
def State.tchScanning (s : State) (g : Nat) : State :=
  (s.setTch g (s.tchTaken g)).raise (F.TCH_STAT_SCANNING g)

section
variable {s : State} {g : Nat}

/-- Where no disabled channel is touched, none is released. -/
theorem State.tchReleases_none (h : ∀ c < 64, bitOf (s.tchEn g) c = false → s.flag (F.TCHC_STAT_TOUCHED g c) = false) :
    (List.range 64).foldl (fun t c => t.cond (!bitOf (s.tchEn g) c) (·.tchRelease g c)) s = s := by
  refine foldl_eq_of_fixed fun c hc => ?_
  cases hen : bitOf (s.tchEn g) c with
  | true => rfl
  | false =>
    rw [Bool.not_false, State.cond_true]
    unfold State.tchRelease
    rw [h c (List.mem_range.mp hc) hen, State.cond_false]

theorem State.tchScan_starts (hlive : s.tchLive g = true) (hpast : s.tchPast g (s.get (F.TCH_SCAN_PERIOD g)) = true)
    (hrunning : s.flag (F.TCH_STAT_RUNNING g) = true) (hrun : s.flag (F.TCH_CTRL_RUN g) = true)
    (hscan : (s.tch g).scan = none)
    (h : ∀ c < 64, bitOf (s.tchEn g) c = false → s.flag (F.TCHC_STAT_TOUCHED g c) = false) :
    s.tchScan g = s.tchScanning g := by
  unfold State.tchScan
  dsimp only
  rw [hlive, hpast, hrunning, hrun, hscan, State.tchReleases_none h]
  rfl

end

section
variable (s : State) (g : Nat)

theorem State.tchScanning_tch : (s.tchScanning g).tch g = s.tchTaken g :=
  Tbl.get_set_same _ _ g _

theorem State.tchScanning_spares : s.Spares (s.tchScanning g) [R.TCH_STAT g] :=
  State.Spares.set ⟨rfl, rfl, rfl, fun _ _ => rfl⟩ (F.TCH_STAT_SCANNING g) 1 List.mem_cons_self

end

end Sys2Proof.Machine

open Sys2Proof Sys2Proof.Machine

/-- Settles O30: the scan starts on the settings of the present state (`tchTaken`) with the mask of the channels enabled and
calibrated (`bitOf_channelMask`), and releases no channel (`tchReleases_none`). -/
theorem scanTakesItsSettings : Obligations.ScanTakesItsSettings := by
  intro s g hg hpart hunit hrunning hrun hscan hpast huntouched
  have htakes : s.Takes (.tchScanStart g) (·.tchScan g) := State.takes rfl (decide_eq_true hg)
  have hlive : s.tchLive g = true := by
    unfold State.tchLive
    rw [hpart, hunit]
    rfl
  have hstarts := State.tchScan_starts hlive hpast hrunning hrun hscan huntouched
  have htch := s.tchScanning_tch g
  exact ⟨s.tchScanning g, (htakes hpart).trans (congrArg s.ends hstarts), State.flag_raise_bit _ _ (by decide),
    congrArg TouchGrp.thresh htch, congrArg TouchGrp.filter htch, congrArg TouchGrp.longest htch,
    ⟨s.tchMask g, congrArg TouchGrp.scan htch, fun _ hc => bitOf_channelMask _ _ hc⟩, s.tchScanning_spares g⟩
end

section
/-! SUPPORT. The end of a mailbox command in a part that is RETIRED (R764, R769, R774). -/

namespace Sys2Proof.Machine

/-! ## The end of a command with a code other than 0 -/

section
variable (s : State) {code : Nat}

theorem State.mbEnd_failed (h : code ≠ 0) :
    s.mbEnd code = ((s.set F.SEC_MB_STAT_CODE code).raise F.SEC_EVT_MB_EV).raise F.SEC_MB_STAT_FAIL := by
  unfold State.mbEnd
  rw [if_neg h]

/-- BUSY shares its register with CODE and FAIL but none of their bits. -/
theorem State.mbEnd_busy (h : code ≠ 0) : (s.mbEnd code).flag F.SEC_MB_STAT_BUSY = s.flag F.SEC_MB_STAT_BUSY := by
  rw [s.mbEnd_failed h]
  calc (((s.set F.SEC_MB_STAT_CODE code).raise F.SEC_EVT_MB_EV).raise F.SEC_MB_STAT_FAIL).flag F.SEC_MB_STAT_BUSY
      = ((s.set F.SEC_MB_STAT_CODE code).raise F.SEC_EVT_MB_EV).flag F.SEC_MB_STAT_BUSY :=
        State.flag_set_other_bit _ _ _ 1 (by decide) (by decide)
    _ = (s.set F.SEC_MB_STAT_CODE code).flag F.SEC_MB_STAT_BUSY :=
        congrArg (· != 0) (State.get_set_other _ F.SEC_EVT_MB_EV F.SEC_MB_STAT_BUSY 1 (by decide))
    _ = s.flag F.SEC_MB_STAT_BUSY := State.flag_set_beside _ _ _ code (by decide) (by decide) (by decide)

theorem State.mbEnd_code (h : code ≠ 0) (hlt : code < 2 ^ 8) : (s.mbEnd code).get F.SEC_MB_STAT_CODE = code := by
  rw [s.mbEnd_failed h]
  calc (((s.set F.SEC_MB_STAT_CODE code).raise F.SEC_EVT_MB_EV).raise F.SEC_MB_STAT_FAIL).get F.SEC_MB_STAT_CODE
      = ((s.set F.SEC_MB_STAT_CODE code).raise F.SEC_EVT_MB_EV).get F.SEC_MB_STAT_CODE :=
        State.get_set_beside _ _ _ 1 (by decide) (by decide) (by decide) (by decide)
    _ = (s.set F.SEC_MB_STAT_CODE code).get F.SEC_MB_STAT_CODE :=
        State.get_set_other _ F.SEC_EVT_MB_EV F.SEC_MB_STAT_CODE 1 (by decide)
    _ = code := State.get_set_of_lt _ _ code (by decide) (by decide) hlt

theorem State.mbEnd_fail (h : code ≠ 0) : (s.mbEnd code).flag F.SEC_MB_STAT_FAIL = true := by
  rw [s.mbEnd_failed h]
  exact State.flag_raise_bit _ _ (by decide)

theorem State.mbEnd_event (h : code ≠ 0) : (s.mbEnd code).flag F.SEC_EVT_MB_EV = true := by
  rw [s.mbEnd_failed h]
  exact (congrArg (· != 0) (State.get_set_other _ F.SEC_MB_STAT_FAIL F.SEC_EVT_MB_EV 1 (by decide))).trans
    (State.flag_raise_bit _ _ (by decide))

/-- What does not look at the registers does not see the end of a command. -/
theorem State.mbEnd_keeps {γ : Type} (π : State → γ) (hregs : ∀ t x, π { t with regs := x } = π t) (h : code ≠ 0) :
    π (s.mbEnd code) = π s := by
  rw [s.mbEnd_failed h]
  exact (State.set_keeps π hregs _ _ _).trans ((State.set_keeps π hregs _ _ _).trans (State.set_keeps π hregs _ _ _))

end

/-! ## The command of a retired part -/

/-- In RETIRED no command but GET_STATUS is permitted (R765). -/
theorem State.opAllowed_of_retired {s : State} (h : s.lifecycle = 3) {op : Nat} (hop : op ≠ 0x04) :
    s.opAllowed op = false := by
  unfold State.opAllowed
  rw [h, if_neg hop]
  split_ifs <;> rfl

theorem State.secExec_of_refused {s : State} {op : Nat} (h : s.opAllowed op = false) (master : Nat) (bad : Option Nat) :
    s.secExec op master bad = (2, s) := by
  unfold State.secExec
  rw [h]
  rfl

/-- The state with the mailbox's command gone, and the flash with it. -/
def State.mbFreed (s : State) : State :=
  ({ s with sec := { s.sec with cmd := none } }).freeFlash .security

/-- A command that is not permitted ends with code 2. -/
theorem State.mailboxEnd_of_refused {s : State} {op master : Nat} (hpart : s.inReset = none)
    (hcmd : s.sec.cmd = some (op, master)) (hop : s.opAllowed op = false)
    (hflash : s.opFlash op = true → s.holdsFlash .security = true) (bad : Option Nat) :
    s.mailboxEnd bad = (s.mbFreed.drop F.SEC_MB_STAT_BUSY).mbEnd 2 := by
  have hready : (s.inReset.isSome || (s.opFlash op && !s.holdsFlash .security)) = false := by
    rw [hpart]
    cases hf : s.opFlash op with
    | false => rfl
    | true => rw [hflash hf]; rfl
  unfold State.mailboxEnd
  rw [hcmd]
  dsimp only
  rw [hready, State.secExec_of_refused hop]
  rfl

end Sys2Proof.Machine

open Sys2Proof Sys2Proof.Machine

/-- Settles O32: RETIRED permits no command but GET_STATUS (`opAllowed_of_retired`), so the command ends with code 2 before any
effect (`mailboxEnd_of_refused`); the end writes registers and the mailbox's record alone (`mbEnd_keeps`). -/
theorem retiredPartAnswersStatusOnly : Obligations.RetiredPartAnswersStatusOnly := by
  intro s op master bad hpart hretired _ hop hcmd hflash
  have htakes : s.Takes (.mailboxCommandEnd bad) (·.mailboxEnd bad) := State.takes rfl rfl
  have hend := State.mailboxEnd_of_refused hpart hcmd (State.opAllowed_of_retired hretired hop) hflash bad
  have hkeeps : ∀ {γ : Type} (π : State → γ), (∀ t x, π { t with regs := x } = π t) →
      π ((s.mbFreed.drop F.SEC_MB_STAT_BUSY).mbEnd 2) = π s.mbFreed := fun π hregs =>
    (State.mbEnd_keeps _ π hregs (by decide)).trans (State.set_keeps π hregs _ _ _)
  exact ⟨_, (htakes hpart).trans (congrArg s.ends hend),
    (State.mbEnd_busy _ (by decide)).trans (State.flag_drop_bit _ _ (by decide)), State.mbEnd_fail _ (by decide),
    State.mbEnd_code _ (by decide) (by decide), State.mbEnd_event _ (by decide),
    hkeeps State.otp fun _ _ => rfl, hkeeps State.flash fun _ _ => rfl, hkeeps State.mem fun _ _ => rfl,
    hkeeps State.saks fun _ _ => rfl, hkeeps (·.sec.cmd) fun _ _ => rfl⟩
end

section
/-! SUPPORT. The start of a reset (R780 to R783): what it keeps, and what it takes to its reset value. -/

namespace Sys2Proof.Machine

/-! ## What a reset cuts short -/

/-- The state with what a reset cuts short in OTP and flash, where the part runs. -/
def State.cutShort (s : State) : State :=
  s.cond s.inReset.isNone (·.otpCut.flashCut)

section
variable {γ : Type} (π : State → γ) (hfree : ∀ t x, π { t with free := x } = π t)
include hfree

/-- A command cut short leaves some of its words in OTP, drawn by a free value (R764). -/
theorem State.otpCut_keeps (hotp : ∀ t x, π { t with otp := x } = π t) (s : State) : π s.otpCut = π s := by
  unfold State.otpCut
  split
  · rfl
  · split
    · dsimp only
      split
      · rfl
      · exact (foldl_keeps π (fun t _ => hotp t _) _ _).trans (hfree s _)
    · rfl

/-- A write of a marker cut short leaves some of its bytes in flash. -/
theorem State.flashCut_keeps (hflash : ∀ t x, π { t with flash := x } = π t) (s : State) : π s.flashCut = π s := by
  unfold State.flashCut
  split
  · rfl
  · split
    · exact hflash s _
    · exact (hfree _ _).trans (hflash s _)
    · rfl

theorem State.cutShort_keeps (hotp : ∀ t x, π { t with otp := x } = π t) (hflash : ∀ t x, π { t with flash := x } = π t)
    (s : State) : π s.cutShort = π s := by
  unfold State.cutShort
  cases s.inReset.isNone
  · rfl
  · exact (State.flashCut_keeps π hfree hflash _).trans (State.otpCut_keeps π hfree hotp s)

end

/-! ## The registers of a part that is bare -/

/-- A register that the class does not keep reads its reset value. -/
theorem State.bare_rd (s : State) {c : ResetClass} (source phase : Nat) {a : Nat} (h : keptReg c a = false) :
    (s.bare c source phase).rd a = resetWord a := by
  have hclear : (s.bare c source phase).regs = Tbl.clear (fun a => !keptReg c a) s.regs :=
    List.filter_congr fun e _ => (Bool.not_not (keptReg c e.1)).symm
  unfold State.rd
  rw [hclear, Tbl.get_clear, h]
  rfl

/-- The registers of FLT, CLKRST and THERM, which a reset writes after it has taken them back. -/
def islandReg (a : Nat) : Prop :=
  blockOf a = 24 ∨ blockOf a = 23 ∨ blockOf a = 21

/-- `t` has the registers of `s` but for those of FLT, CLKRST and THERM. -/
def State.SparesIsland (s t : State) : Prop :=
  ∀ a, ¬ islandReg a → t.rd a = s.rd a

namespace State.SparesIsland

variable {s t u : State}

theorem refl (s : State) : s.SparesIsland s :=
  fun _ _ => rfl

theorem trans (h : s.SparesIsland t) (h' : t.SparesIsland u) : s.SparesIsland u :=
  fun a ha => (h' a ha).trans (h a ha)

theorem set (s : State) {f : Fld} (v : Nat) (hf : islandReg f.addr) : s.SparesIsland (s.set f v) :=
  fun a ha => s.rd_wr_other f.addr a _ fun e => ha (e ▸ hf)

theorem cond (b : Bool) {f : State → State} (h : s.SparesIsland (f s)) : s.SparesIsland (s.cond b f) := by
  cases b
  · exact refl s
  · exact h

theorem foldl {α : Type} {f : State → α → State} {l : List α} (hf : ∀ t : State, ∀ x ∈ l, t.SparesIsland (f t x)) (s : State) :
    s.SparesIsland (l.foldl f s) := by
  induction l generalizing s with
  | nil => exact refl s
  | cons x l ih =>
    exact (hf s x List.mem_cons_self).trans (ih (fun t y hy => hf t y (List.mem_cons_of_mem _ hy)) (f s x))

end State.SparesIsland

theorem islandReg_fltInj {d : Nat} (hd : d < 96) : islandReg (R.FLT_INJ d) := by
  left
  unfold blockOf cspaceBase R.FLT_INJ
  omega

theorem islandReg_ccStat {k : Nat} (hk : k < 8) : islandReg (R.CC_STAT k) := by
  right; left
  unfold blockOf cspaceBase R.CC_STAT
  omega

/-! ## What the classes keep, and write afterwards -/

/-- The records of the ledger and of the island that BROWN-OUT and WARM keep. -/
def State.islandKept (s old : State) : State :=
  { s with due := old.due, lastEntry := old.lastEntry, clk := { s.clk with good := old.clk.good, bad := old.clk.bad } }

/-- The records that WARM keeps besides. -/
def State.warmKept (s old : State) : State :=
  { s with tbs := old.tbs, tsq := old.tsq, therm := old.therm,
           memc := { s.memc with ce := old.memc.ce, ue := old.memc.ue, lastReqNs := s.ns } }

section
variable (s old : State)

theorem State.keepIsland_eq :
    s.keepIsland old = (s.islandKept old).disarm.put F.CLKRST_STAT_AON_SPLIT (old.flag F.CLKRST_STAT_AON_SPLIT) :=
  rfl

theorem State.keepWarm_eq :
    s.keepWarm old = (s.warmKept old).cond ((s.warmKept old).flag F.THERM_STATUS_STOP_LATCH) fun t =>
      (List.range 7).foldl (fun t k => t.set (F.CC_STAT_STATE (k + 1)) 4) t :=
  rfl

theorem State.disarm_sparesIsland : s.SparesIsland s.disarm := by
  have hdrops : ∀ t : State, ∀ d ∈ List.range 96,
      t.SparesIsland (t.cond (t.flag (F.FLT_INJ_PEND d)) (·.drop (F.FLT_INJ_PEND d))) := fun t d hd =>
    State.SparesIsland.cond _ (State.SparesIsland.set t 0 (islandReg_fltInj (List.mem_range.mp hd)))
  unfold State.disarm
  exact State.SparesIsland.foldl hdrops { s with injLeft := [] }

theorem State.keepIsland_sparesIsland : s.SparesIsland (s.keepIsland old) := by
  rw [State.keepIsland_eq]
  exact ((s.islandKept old).disarm_sparesIsland).trans (State.SparesIsland.set _ _ (.inr (.inl (by decide))))

theorem State.thermReset_sparesIsland : s.SparesIsland s.thermReset :=
  State.SparesIsland.set s s.bndOtp (.inr (.inr (by decide)))

theorem State.keepWarm_sparesIsland : s.SparesIsland (s.keepWarm old) := by
  have hcuts : ∀ t : State, ∀ k ∈ List.range 7, t.SparesIsland (t.set (F.CC_STAT_STATE (k + 1)) 4) := fun t k hk =>
    State.SparesIsland.set t 4 (islandReg_ccStat (Nat.succ_lt_succ (List.mem_range.mp hk)))
  rw [State.keepWarm_eq]
  exact State.SparesIsland.cond (s := s.warmKept old) _ (State.SparesIsland.foldl hcuts _)

end

section
variable {γ : Type} (π : State → γ) (hregs : ∀ t x, π { t with regs := x } = π t)
include hregs

theorem State.disarm_keeps (hinj : ∀ t x, π { t with injLeft := x } = π t) (s : State) : π s.disarm = π s := by
  refine (foldl_keeps π (fun t d => ?_) _ _).trans (hinj s [])
  cases t.flag (F.FLT_INJ_PEND d)
  · rfl
  · exact State.set_keeps π hregs t _ _

theorem State.keepIsland_keeps (hinj : ∀ t x, π { t with injLeft := x } = π t) (s old : State) :
    π (s.keepIsland old) = π (s.islandKept old) :=
  (State.set_keeps π hregs _ _ _).trans (State.disarm_keeps π hregs hinj _)

theorem State.thermReset_keeps (htherm : ∀ t x, π { t with therm := x } = π t) (s : State) : π s.thermReset = π s :=
  (htherm _ _).trans (State.set_keeps π hregs s _ _)

/-- The cores that stay cut after STOP are in registers. -/
theorem State.keepWarm_keeps (s old : State) : π (s.keepWarm old) = π (s.warmKept old) := by
  rw [State.keepWarm_eq]
  cases (s.warmKept old).flag F.THERM_STATUS_STOP_LATCH
  · rfl
  · exact foldl_keeps π (fun t k => State.set_keeps π hregs t _ _) _ _

end

/-! ## The start of a reset -/

/-- The part at the start of a reset of class `c`. -/
def State.inClass (s : State) (c : ResetClass) (source : Nat) : State :=
  let new := s.cutShort.bare c source s.loadPhase
  match c with
  | .powerOn => new.thermReset
  | .brownOut => (new.keepIsland s.cutShort).thermReset
  | .warm => (new.keepIsland s.cutShort).keepWarm s.cutShort

/-- Where no reset of a higher class is in progress, the reset starts (log 64). -/
theorem State.beginReset_of_rank {s : State} {c : ResetClass} (h : ∀ r, s.inReset = some r → r.rank ≤ c.rank)
    (source : Nat) : s.beginReset c source = s.inClass c source := by
  unfold State.beginReset
  refine if_neg ?_
  cases hr : s.inReset with
  | none => exact Bool.false_ne_true
  | some r => simpa using h r hr

theorem State.beginReset_of_higher {s : State} {c r : ResetClass} (hr : s.inReset = some r) (h : c.rank < r.rank)
    (source : Nat) : s.beginReset c source = s := by
  unfold State.beginReset
  rw [hr]
  exact if_pos (decide_eq_true h)

section
variable (s : State) (c : ResetClass) (source : Nat)

/-- A register that the class does not keep, and that is none of the island's, reads its reset value. -/
theorem State.inClass_rd {a : Nat} (h : keptReg c a = false) (ha : ¬ islandReg a) :
    (s.inClass c source).rd a = resetWord a := by
  have hbare : s.cutShort.bare c source s.loadPhase |>.SparesIsland (s.inClass c source) := by
    cases c with
    | powerOn => exact State.thermReset_sparesIsland _
    | brownOut => exact (State.keepIsland_sparesIsland _ _).trans (State.thermReset_sparesIsland _)
    | warm => exact (State.keepIsland_sparesIsland _ _).trans (State.keepWarm_sparesIsland _ _)
  exact (hbare a ha).trans (State.bare_rd _ _ _ h)

/-- What looks at nothing that a class keeps or writes sees the bare part. -/
theorem State.inClass_keeps {γ : Type} (π : State → γ) (hregs : ∀ t x, π { t with regs := x } = π t)
    (hinj : ∀ t x, π { t with injLeft := x } = π t) (htherm : ∀ t x, π { t with therm := x } = π t)
    (hisland : ∀ t old, π (State.islandKept t old) = π t) (hwarm : ∀ t old, π (State.warmKept t old) = π t) :
    π (s.inClass c source) = π (s.cutShort.bare c source s.loadPhase) := by
  have hkept := (State.keepIsland_keeps π hregs hinj (s.cutShort.bare c source s.loadPhase) s.cutShort).trans (hisland _ _)
  cases c with
  | powerOn => exact State.thermReset_keeps π hregs htherm _
  | brownOut => exact (State.thermReset_keeps π hregs htherm _).trans hkept
  | warm => exact (State.keepWarm_keeps π hregs _ _).trans ((hwarm _ _).trans hkept)

/-- The part is in the reset, with no plan and no command of the mailbox. -/
theorem State.inClass_bare :
    (s.inClass c source).inReset = some c ∧ (s.inClass c source).plan = none ∧ (s.inClass c source).applying = none ∧
      (s.inClass c source).sec.cmd = none := by
  have hkeeps : _ = (some c, none, none, none) :=
    State.inClass_keeps s c source (fun t => (t.inReset, t.plan, t.applying, t.sec.cmd)) (fun _ _ => rfl) (fun _ _ => rfl)
      (fun _ _ => rfl) (fun _ _ => rfl) (fun _ _ => rfl)
  simpa only [Prod.mk.injEq] using hkeeps

/-- WARM keeps the time bases and the queues of their timestamps (R782). -/
theorem State.inClass_warm : (s.inClass .warm source).tbs = s.tbs ∧ (s.inClass .warm source).tsq = s.tsq :=
  ⟨(State.keepWarm_keeps State.tbs (fun _ _ => rfl) _ _).trans
      (State.cutShort_keeps State.tbs (fun _ _ => rfl) (fun _ _ => rfl) (fun _ _ => rfl) s),
    (State.keepWarm_keeps State.tsq (fun _ _ => rfl) _ _).trans
      (State.cutShort_keeps State.tsq (fun _ _ => rfl) (fun _ _ => rfl) (fun _ _ => rfl) s)⟩

/-- PORn, a brown-out and WRSTn start a reset of their class. -/
theorem State.exec_reset {i : Instr}
    (h : c = .powerOn ∧ i = .powerOnReset false ∨ c = .brownOut ∧ i = .brownOutReset ∨ c = .warm ∧ i = .warmReset) :
    ∃ source, exec i s = s.ends (s.beginReset c source) := by
  obtain ⟨rfl, rfl⟩ | ⟨rfl, rfl⟩ | ⟨rfl, rfl⟩ := h
  · exact ⟨1, rfl⟩
  · exact ⟨3, rfl⟩
  · exact ⟨4, rfl⟩

end

end Sys2Proof.Machine

open Sys2Proof Sys2Proof.Machine

/-- Settles O33: a reset that starts leaves `inClass`, a bare part (`inClass_bare`) whose registers outside the island are those
of the class or their reset values (`inClass_rd`); one of a lower class than that in progress has no effect
(`beginReset_of_higher`). -/
theorem resetLeavesWhatItsClassKeeps : Obligations.ResetLeavesWhatItsClassKeeps := by
  intro s c i hi
  obtain ⟨source, hexec⟩ := s.exec_reset c hi
  constructor
  · intro hrank
    obtain ⟨hreset, hplan, happly, hcmd⟩ := s.inClass_bare c source
    refine ⟨s.inClass c source, hexec.trans (congrArg s.ends (State.beginReset_of_rank hrank source)), hreset, hplan, happly,
      hcmd, fun a hkept hflt hclk htherm => s.inClass_rd c source hkept ?_, ?_⟩
    · rintro (h | h | h)
      · exact hflt h
      · exact hclk h
      · exact htherm h
    · rintro rfl
      exact s.inClass_warm source
  · rintro ⟨r, hr, hlt⟩
    exact ⟨s, hexec.trans (congrArg s.ends (State.beginReset_of_higher hr hlt source)), rfl⟩
end

section
/-! SUPPORT. The entries of the fault ledger (R803 to R807): into which slot one goes, what it overwrites, and what is
suppressed. -/

namespace Sys2Proof.Machine

/-! ## Registers that an effect spares -/

section
variable {s t u : State} {written more : List Nat}

theorem State.Spares.trans (h : s.Spares t written) (h' : t.Spares u written) : s.Spares u written := by
  obtain ⟨hmem, hflash, htbs, hrd⟩ := h
  obtain ⟨hmem', hflash', htbs', hrd'⟩ := h'
  exact ⟨hmem'.trans hmem, hflash'.trans hflash, htbs'.trans htbs, fun a ha => (hrd' a ha).trans (hrd a ha)⟩

theorem State.Spares.mono (h : s.Spares t written) (hsub : written ⊆ more) : s.Spares t more := by
  obtain ⟨hmem, hflash, htbs, hrd⟩ := h
  exact ⟨hmem, hflash, htbs, fun a ha => hrd a fun hm => ha (hsub hm)⟩

theorem State.Spares.setWord (h : s.Spares t written) {a : Nat} (v : Nat) (ha : a ∈ written) :
    s.Spares (t.setWord a v) written := by
  obtain ⟨hmem, hflash, htbs, hrd⟩ := h
  exact ⟨hmem, hflash, htbs, fun b hb => (t.rd_setWord_other v fun e : b = a => hb (e ▸ ha)).trans (hrd b hb)⟩

theorem State.Spares.rd (h : s.Spares t written) {a : Nat} (ha : a ∉ written) : t.rd a = s.rd a :=
  h.2.2.2 a ha

theorem State.Spares.word (h : s.Spares t written) {a : Nat} (ha : a ∉ written) : t.word a = s.word a :=
  congrArg BitVec.toNat (h.rd ha)

theorem State.Spares.flag (h : s.Spares t written) {f : Fld} (ha : f.addr ∉ written) : t.flag f = s.flag f := by
  unfold State.flag State.get
  rw [h.rd ha]

end

@[simp] theorem State.rd_setWord_same (s : State) (a v : Nat) : (s.setWord a v).rd a = BitVec.ofNat 32 v :=
  s.rd_wr_same a _

/-- An index that fills its register advances by one modulo 2^32. -/
theorem State.word_bump32 (s : State) (a : Nat) : (s.bump32 ⟨a, 31, 0⟩).word a = (s.word a + 1) % 2 ^ 32 :=
  calc (s.bump32 ⟨a, 31, 0⟩).word a
      = (s.bump32 ⟨a, 31, 0⟩).get ⟨a, 31, 0⟩ := (State.get_whole _ a).symm
    _ = (s.get ⟨a, 31, 0⟩ + 1) % 2 ^ 32 :=
        State.get_set_of_lt s a _ (Nat.zero_le 31) (by decide : 31 < 32) (Nat.mod_lt _ (by decide))
    _ = (s.word a + 1) % 2 ^ 32 := by rw [s.get_whole a]

/-! ## The slot of an entry -/

/-- Address of the slot of the next entry (R804). -/
def State.ledgerSlot (s : State) : Nat :=
  R.FLT_ENTRY (s.word R.FLT_WR_CNT % 256 * 4)

/-- The registers of the ledger beside its slots that an entry writes. -/
def ledgerCounts : List Nat :=
  [R.FLT_WR_CNT, R.FLT_RD_IDX, R.FLT_LOST, R.FLT_EVT]

theorem fltEntry_add (i k : Nat) : R.FLT_ENTRY (i + k) = R.FLT_ENTRY i + 4 * k := by
  unfold R.FLT_ENTRY
  omega

/-- The slots lie behind every other register of the ledger. -/
theorem lt_fltEntry {a : Nat} (h : a < 0x41801000) (i k : Nat) : a ≠ R.FLT_ENTRY i + k := by
  unfold R.FLT_ENTRY
  omega

/-- No register of a slot is one of the counts. -/
theorem slot_not_mem_counts (i k : Nat) : R.FLT_ENTRY i + k ∉ ledgerCounts := by
  unfold ledgerCounts
  simp only [List.mem_cons, List.not_mem_nil, or_false, not_or]
  exact ⟨(lt_fltEntry (by decide) i k).symm, (lt_fltEntry (by decide) i k).symm, (lt_fltEntry (by decide) i k).symm,
    (lt_fltEntry (by decide) i k).symm⟩

theorem not_mem_slot {a : Nat} (h : a < 0x41801000) (i : Nat) :
    a ∉ [R.FLT_ENTRY i, R.FLT_ENTRY i + 4, R.FLT_ENTRY i + 8, R.FLT_ENTRY i + 12] := by
  simp only [List.mem_cons, List.not_mem_nil, or_false, not_or]
  exact ⟨lt_fltEntry h i 0, lt_fltEntry h i 4, lt_fltEntry h i 8, lt_fltEntry h i 12⟩

/-- An entry writes its slot and the counts alone. -/
theorem not_mem_slot_counts {a : Nat} (h : a < 0x41801000) (hc : a ∉ ledgerCounts) (i : Nat) :
    a ∉ [R.FLT_ENTRY i, R.FLT_ENTRY i + 4, R.FLT_ENTRY i + 8, R.FLT_ENTRY i + 12, R.FLT_WR_CNT, R.FLT_RD_IDX, R.FLT_LOST,
      R.FLT_EVT] := fun hm =>
  (List.mem_append (s := [R.FLT_ENTRY i, R.FLT_ENTRY i + 4, R.FLT_ENTRY i + 8, R.FLT_ENTRY i + 12]).mp hm).elim
    (not_mem_slot h i) hc

section
variable (s : State) (d : Due)

theorem State.putEntry_eq :
    s.putEntry d = (((s.setWord s.ledgerSlot (d.time % 2 ^ 32)).setWord (s.ledgerSlot + 4)
      (d.time / 2 ^ 32 % 65536 + d.flags * 65536 + d.code * 2 ^ 24)).setWord (s.ledgerSlot + 12) d.detail).setWord
      (s.ledgerSlot + 8) (d.unit % 65536 + s.word R.FLT_WR_CNT % 65536 * 65536) := by
  unfold State.putEntry
  dsimp only
  rw [fltEntry_add, fltEntry_add, fltEntry_add]
  rfl

/-- The four words of the slot (R803). -/
theorem State.putEntry_words :
    (s.putEntry d).rd s.ledgerSlot = BitVec.ofNat 32 d.time ∧
    (s.putEntry d).rd (s.ledgerSlot + 4) =
      BitVec.ofNat 32 (d.time / 2 ^ 32 % 65536 + d.flags * 65536 + d.code * 2 ^ 24) ∧
    (s.putEntry d).rd (s.ledgerSlot + 8) = BitVec.ofNat 32 (d.unit % 65536 + s.word R.FLT_WR_CNT % 65536 * 65536) ∧
    (s.putEntry d).rd (s.ledgerSlot + 12) = BitVec.ofNat 32 d.detail := by
  have htime : BitVec.ofNat 32 (d.time % 2 ^ 32) = BitVec.ofNat 32 d.time :=
    BitVec.eq_of_toNat_eq (by simp only [BitVec.toNat_ofNat, Nat.mod_mod])
  rw [State.putEntry_eq]
  refine ⟨?_, ?_, State.rd_setWord_same _ _ _, ?_⟩
  · rw [State.rd_setWord_other _ _ (by omega), State.rd_setWord_other _ _ (by omega), State.rd_setWord_other _ _ (by omega),
      State.rd_setWord_same, htime]
  · rw [State.rd_setWord_other _ _ (by omega), State.rd_setWord_other _ _ (by omega), State.rd_setWord_same]
  · rw [State.rd_setWord_other _ _ (by omega), State.rd_setWord_same]

theorem State.putEntry_spares :
    s.Spares (s.putEntry d) [s.ledgerSlot, s.ledgerSlot + 4, s.ledgerSlot + 8, s.ledgerSlot + 12] := by
  rw [State.putEntry_eq]
  exact ((((State.Spares.refl s _).setWord _ (by simp)).setWord _ (by simp)).setWord _ (by simp)).setWord _ (by simp)

end

/-! ## The entry that is overwritten -/

/-- 256 entries are unread (R804). -/
def State.ledgerFull (s : State) : Bool :=
  decide (256 ≤ (s.word R.FLT_WR_CNT + 2 ^ 32 - s.word R.FLT_RD_IDX) % 2 ^ 32)

/-- The oldest unread entry is lost: the reader's index moves past it. -/
def State.losesOldest (s : State) : State :=
  ((s.inc F.FLT_LOST_CNT).raise F.FLT_EVT_LOST_EV).bump32 F.FLT_RD_IDX_IDX

section
variable (s : State)

theorem State.overwrites_eq : s.overwrites = s.cond s.ledgerFull State.losesOldest := rfl

/-- The loss is counted before the index moves. -/
theorem State.lost_spares : s.Spares ((s.inc F.FLT_LOST_CNT).raise F.FLT_EVT_LOST_EV) [R.FLT_LOST, R.FLT_EVT] :=
  ((State.Spares.refl s _).set F.FLT_LOST_CNT _ (by decide)).set F.FLT_EVT_LOST_EV 1 (by decide)

theorem State.bump32_spares (a : Nat) : s.Spares (s.bump32 ⟨a, 31, 0⟩) [a] :=
  s.set_spares ⟨a, 31, 0⟩ _

theorem State.losesOldest_spares : s.Spares s.losesOldest [R.FLT_RD_IDX, R.FLT_LOST, R.FLT_EVT] :=
  (s.lost_spares.mono (by decide)).trans ((State.bump32_spares _ R.FLT_RD_IDX).mono (by decide))

theorem State.losesOldest_due : s.losesOldest.due = s.due := by
  simp only [State.losesOldest, State.bump32, State.raise, State.inc, State.add, State.set_due]

theorem State.losesOldest_counts :
    s.losesOldest.word R.FLT_RD_IDX = (s.word R.FLT_RD_IDX + 1) % 2 ^ 32 ∧
    s.losesOldest.word R.FLT_LOST = min (s.word R.FLT_LOST + 1) (2 ^ 32 - 1) ∧
    s.losesOldest.flag F.FLT_EVT_LOST_EV = true ∧
    s.losesOldest.flag F.FLT_EVT_INJ_REF_EV = s.flag F.FLT_EVT_INJ_REF_EV := by
  have hraise := (s.inc F.FLT_LOST_CNT).set_spares F.FLT_EVT_LOST_EV 1
  have hbump := ((s.inc F.FLT_LOST_CNT).raise F.FLT_EVT_LOST_EV).bump32_spares R.FLT_RD_IDX
  have hinc := s.set_spares F.FLT_LOST_CNT (min (s.get F.FLT_LOST_CNT + 1) (2 ^ 32 - 1))
  refine ⟨?_, ?_, ?_, ?_⟩
  · exact (State.word_bump32 _ R.FLT_RD_IDX).trans
      (congrArg (fun v => (v + 1) % 2 ^ 32) (s.lost_spares.word (by decide)))
  · exact (hbump.word (by decide)).trans ((hraise.word (by decide)).trans (s.word_inc_whole R.FLT_LOST))
  · exact (hbump.flag (by decide)).trans (State.flag_raise_bit _ _ (by decide))
  · exact (hbump.flag (by decide)).trans
      ((State.flag_set_other_bit _ _ _ 1 (by decide) (by decide)).trans (hinc.flag (by decide)))

theorem State.overwrites_spares : s.Spares s.overwrites [R.FLT_RD_IDX, R.FLT_LOST, R.FLT_EVT] := by
  rw [State.overwrites_eq]
  cases s.ledgerFull
  · exact State.Spares.refl s _
  · exact s.losesOldest_spares

theorem State.overwrites_due : s.overwrites.due = s.due := by
  rw [State.overwrites_eq]
  cases s.ledgerFull
  · rfl
  · exact s.losesOldest_due

/-- Where the slot holds an unread entry, the reader's index moves on and the loss is counted. -/
theorem State.overwrites_counts :
    s.overwrites.word R.FLT_RD_IDX = (if s.ledgerFull then (s.word R.FLT_RD_IDX + 1) % 2 ^ 32 else s.word R.FLT_RD_IDX) ∧
    s.overwrites.word R.FLT_LOST = (if s.ledgerFull then min (s.word R.FLT_LOST + 1) (2 ^ 32 - 1) else s.word R.FLT_LOST) ∧
    s.overwrites.flag F.FLT_EVT_LOST_EV = (s.ledgerFull || s.flag F.FLT_EVT_LOST_EV) ∧
    s.overwrites.flag F.FLT_EVT_INJ_REF_EV = s.flag F.FLT_EVT_INJ_REF_EV := by
  rw [State.overwrites_eq]
  cases s.ledgerFull with
  | false => exact ⟨rfl, rfl, rfl, rfl⟩
  | true => exact s.losesOldest_counts

end

/-! ## An entry -/

/-- Key of the pair of detector and unit in the table of last entries (R806). -/
def Due.pairKey (d : Due) : Nat :=
  d.code * 65536 + d.unit % 65536

/-- The pair of `d` is dated with the time of `d`. -/
def State.dated (s : State) (d : Due) : State :=
  { s with lastEntry := Tbl.set (fun _ => 0) s.lastEntry d.pairKey (d.ns + 1) }

/-- The slot of the next entry holds `d`, and the entry is counted. -/
def State.counted (s : State) (d : Due) : State :=
  (s.overwrites.putEntry d).bump32 F.FLT_WR_CNT_CNT

/-- The state after an entry for `d`. -/
def State.entered (s : State) (d : Due) : State :=
  ((s.counted d).dated d).raise F.FLT_EVT_NEW_EV

section
variable (s : State) (d : Due)

@[simp] theorem State.dated_flag (f : Fld) : (s.dated d).flag f = s.flag f := rfl
@[simp] theorem State.dated_due : (s.dated d).due = s.due := rfl

theorem State.Spares.dated {s t : State} {written : List Nat} (h : s.Spares t written) (d : Due) :
    s.Spares (t.dated d) written := h

/-- Overwriting does not move the count of the next entry. -/
theorem State.overwrites_wrCnt : s.overwrites.word R.FLT_WR_CNT = s.word R.FLT_WR_CNT :=
  s.overwrites_spares.word (by decide)

theorem State.overwrites_slot : s.overwrites.ledgerSlot = s.ledgerSlot := by
  unfold State.ledgerSlot
  rw [s.overwrites_wrCnt]

theorem State.putEntry_due : (s.putEntry d).due = s.due := by
  rw [State.putEntry_eq, State.setWord_due, State.setWord_due, State.setWord_due, State.setWord_due]

theorem State.counted_due : (s.counted d).due = s.due :=
  calc (s.counted d).due
      = (s.overwrites.putEntry d).due := State.set_due _ _ _
    _ = s.overwrites.due := s.overwrites.putEntry_due d
    _ = s.due := s.overwrites_due

theorem State.putEntry_overwrites_spares :
    s.overwrites.Spares (s.overwrites.putEntry d) [s.ledgerSlot, s.ledgerSlot + 4, s.ledgerSlot + 8, s.ledgerSlot + 12] :=
  s.overwrites_slot ▸ s.overwrites.putEntry_spares d

theorem State.counted_putEntry : (s.overwrites.putEntry d).Spares (s.counted d) [R.FLT_WR_CNT] :=
  State.set_spares _ _ _

/-- After it is counted, an entry writes the event alone. -/
theorem State.entered_counted : (s.counted d).Spares (s.entered d) [R.FLT_EVT] :=
  ((State.Spares.refl (s.counted d) [R.FLT_EVT]).dated d).set F.FLT_EVT_NEW_EV 1 (by decide)

/-- After its words are in the slot, an entry writes the count and the event alone. -/
theorem State.entered_rest : (s.overwrites.putEntry d).Spares (s.entered d) [R.FLT_WR_CNT, R.FLT_EVT] :=
  ((s.counted_putEntry d).mono (by decide)).trans ((s.entered_counted d).mono (by decide))

theorem State.entered_words :
    (s.entered d).rd s.ledgerSlot = BitVec.ofNat 32 d.time ∧
    (s.entered d).rd (s.ledgerSlot + 4) =
      BitVec.ofNat 32 (d.time / 2 ^ 32 % 65536 + d.flags * 65536 + d.code * 2 ^ 24) ∧
    (s.entered d).rd (s.ledgerSlot + 8) = BitVec.ofNat 32 (d.unit % 65536 + s.word R.FLT_WR_CNT % 65536 * 65536) ∧
    (s.entered d).rd (s.ledgerSlot + 12) = BitVec.ofNat 32 d.detail := by
  have hslot : ∀ k, (s.entered d).rd (s.ledgerSlot + k) = (s.overwrites.putEntry d).rd (s.ledgerSlot + k) := fun k =>
    (s.entered_rest d).rd fun hm => slot_not_mem_counts _ k ((by decide : [R.FLT_WR_CNT, R.FLT_EVT] ⊆ ledgerCounts) hm)
  have hwords := s.overwrites.putEntry_words d
  rw [s.overwrites_slot, s.overwrites_wrCnt] at hwords
  obtain ⟨h0, h4, h8, h12⟩ := hwords
  exact ⟨(hslot 0).trans h0, (hslot 4).trans h4, (hslot 8).trans h8, (hslot 12).trans h12⟩

/-- The counts beside the slot. -/
theorem State.entered_counts :
    (s.entered d).word R.FLT_WR_CNT = (s.word R.FLT_WR_CNT + 1) % 2 ^ 32 ∧
    (s.entered d).word R.FLT_RD_IDX = s.overwrites.word R.FLT_RD_IDX ∧
    (s.entered d).word R.FLT_LOST = s.overwrites.word R.FLT_LOST := by
  have hput := s.putEntry_overwrites_spares d
  refine ⟨?_, ?_, ?_⟩
  · calc (s.entered d).word R.FLT_WR_CNT
        = (s.counted d).word R.FLT_WR_CNT := (s.entered_counted d).word (by decide)
      _ = ((s.overwrites.putEntry d).word R.FLT_WR_CNT + 1) % 2 ^ 32 := State.word_bump32 _ _
      _ = (s.word R.FLT_WR_CNT + 1) % 2 ^ 32 := by rw [hput.word (not_mem_slot (by decide) _), s.overwrites_wrCnt]
  · exact ((s.entered_rest d).word (by decide)).trans (hput.word (not_mem_slot (by decide) _))
  · exact ((s.entered_rest d).word (by decide)).trans (hput.word (not_mem_slot (by decide) _))

theorem State.entered_newEv : (s.entered d).flag F.FLT_EVT_NEW_EV = true :=
  State.flag_raise_bit _ _ (by decide)

/-- The events beside NEW_EV are those that overwriting leaves. -/
theorem State.entered_event {k : Nat} (hk : k ≠ 0) :
    (s.entered d).flag ⟨R.FLT_EVT, k, k⟩ = s.overwrites.flag ⟨R.FLT_EVT, k, k⟩ :=
  calc (s.entered d).flag ⟨R.FLT_EVT, k, k⟩
      = ((s.counted d).dated d).flag ⟨R.FLT_EVT, k, k⟩ := State.flag_set_other_bit _ _ _ 1 (by decide) hk
    _ = (s.counted d).flag ⟨R.FLT_EVT, k, k⟩ := State.dated_flag _ _ _
    _ = (s.overwrites.putEntry d).flag ⟨R.FLT_EVT, k, k⟩ :=
        (s.counted_putEntry d).flag (f := ⟨R.FLT_EVT, k, k⟩) (by decide : R.FLT_EVT ∉ [R.FLT_WR_CNT])
    _ = s.overwrites.flag ⟨R.FLT_EVT, k, k⟩ :=
        (s.putEntry_overwrites_spares d).flag (f := ⟨R.FLT_EVT, k, k⟩) (not_mem_slot (by decide : R.FLT_EVT < _) _)

theorem State.entered_spares :
    s.Spares (s.entered d)
      [s.ledgerSlot, s.ledgerSlot + 4, s.ledgerSlot + 8, s.ledgerSlot + 12, R.FLT_WR_CNT, R.FLT_RD_IDX, R.FLT_LOST,
        R.FLT_EVT] :=
  ((s.overwrites_spares.mono (by simp)).trans ((s.putEntry_overwrites_spares d).mono (by simp))).trans
    ((s.entered_rest d).mono (by simp))

theorem State.entered_lastEntry :
    Tbl.get (fun _ => 0) (s.entered d).lastEntry d.pairKey = d.ns + 1 := by
  unfold State.entered
  rw [State.raise, State.set_lastEntry]
  exact Tbl.get_set_same (fun _ => 0) (s.counted d).lastEntry d.pairKey (d.ns + 1)

theorem State.entered_due : (s.entered d).due = s.due :=
  calc (s.entered d).due
      = ((s.counted d).dated d).due := State.set_due _ _ _
    _ = (s.counted d).due := State.dated_due _ _
    _ = s.due := s.counted_due d

end

/-! ## The next detection -/

section
variable {s : State} {d : Due} {rest : List Due}

/-- A detection that is not suppressed is entered. -/
theorem State.ledgerWrite_enters (h : nextDue s.due = some (d, rest)) (hsup : s.suppressed d = false) :
    s.ledgerWrite = State.entered { s with due := rest } d := by
  unfold State.ledgerWrite
  rw [h]
  refine (if_neg ?_).trans ?_
  · exact Bool.eq_false_iff.mp hsup
  · rfl

/-- One that is suppressed is counted alone. -/
theorem State.ledgerWrite_suppresses (h : nextDue s.due = some (d, rest)) (hsup : s.suppressed d = true) :
    s.ledgerWrite = State.inc { s with due := rest } F.FLT_SUPPRESSED_CNT := by
  unfold State.ledgerWrite
  rw [h]
  exact if_pos hsup

/-- The switch class and RESET are never suppressed. -/
theorem State.suppressed_of_exempt (h : d.code ∈ switchClass ∨ d.code = 0x50) : s.suppressed d = false := by
  unfold State.suppressed
  rcases h with h | h
  · rw [List.contains_iff_mem.mpr h]
    rfl
  · rw [h]
    simp

theorem State.suppressed_of_recent (hclass : d.code ∉ switchClass) (hreset : d.code ≠ 0x50)
    (hlast : 0 < Tbl.get (fun _ => 0) s.lastEntry d.pairKey)
    (hrecent : d.ns + 1 - Tbl.get (fun _ => 0) s.lastEntry d.pairKey ≤ 1000000) : s.suppressed d = true := by
  have hcontains : switchClass.contains d.code = false := by simpa using hclass
  unfold State.suppressed
  unfold Due.pairKey at hlast hrecent
  dsimp only
  rw [hcontains, bne_iff_ne.mpr hreset, bne_iff_ne.mpr hlast.ne', decide_eq_true hrecent]
  rfl

end

/-! ## A detection -/

/-- A detection counts for its detector, and is due at the time of the detection. -/
theorem State.detectWith_counts (s : State) (inj : Bool) {code : Nat} (unit detail : Nat) :
    (s.detectWith inj code unit detail).get (F.FLT_DET_CNT_CNT code) = min (s.get (F.FLT_DET_CNT_CNT code) + 1) 65535 := by
  have hinc := State.get_inc_same s (F.FLT_DET_CNT_CNT code) (by decide : (0 : Nat) ≤ 15) (by decide : (15 : Nat) < 32)
  unfold State.detectWith
  dsimp only
  split <;> exact hinc

theorem State.detectWith_dates (s : State) (inj : Bool) (code unit detail : Nat) :
    ∃ d, (s.detectWith inj code unit detail).due = s.due ++ [d] ∧ d.code = code ∧ d.unit = unit ∧ d.ns = s.ns := by
  unfold State.detectWith
  dsimp only
  split <;> exact ⟨_, rfl, rfl, rfl, rfl⟩

/-! ## The start of the count -/

theorem State.thermReset_word (s : State) {a : Nat} (h : a ≠ R.THERM_BND_CONST) : s.thermReset.word a = s.word a :=
  congrArg BitVec.toNat (s.rd_wr_other R.THERM_BND_CONST a _ h)

/-- A POWER-ON reset, which keeps nothing of the ledger, starts its counts at 0 (R804). -/
theorem State.inClass_powerOn_ledger (s : State) (n : Nat) {a : Nat}
    (ha : a ∈ [R.FLT_WR_CNT, R.FLT_RD_IDX, R.FLT_LOST]) : (s.inClass .powerOn n).word a = 0 := by
  have hfacts : ∀ a ∈ [R.FLT_WR_CNT, R.FLT_RD_IDX, R.FLT_LOST],
      a ≠ R.THERM_BND_CONST ∧ keptReg .powerOn a = false ∧ (resetWord a).toNat = 0 := by decide
  obtain ⟨htherm, hkept, hzero⟩ := hfacts a ha
  calc (s.inClass .powerOn n).word a
      = (s.cutShort.bare .powerOn n s.loadPhase).word a := State.thermReset_word _ htherm
    _ = (resetWord a).toNat := congrArg BitVec.toNat (State.bare_rd _ _ _ hkept)
    _ = 0 := hzero

theorem State.powerOnReset_starts (s : State) (aon : Bool) :
    exec (.powerOnReset aon) s = s.ends (s.inClass .powerOn (if aon then 2 else 1)) :=
  congrArg s.ends (State.beginReset_of_rank (fun r _ => by cases r <;> decide) _)

end Sys2Proof.Machine

open Sys2Proof Sys2Proof.Machine

/-- Settles O35: an entry writes its slot, what overwriting leaves, the count and the event. -/
theorem ledgerEntryGoesIntoItsSlot : Obligations.LedgerEntryGoesIntoItsSlot := by
  unfold Obligations.LedgerEntryGoesIntoItsSlot
  refine ⟨fun s aon => ?_, fun s d rest hnext hsup => ?_⟩
  · exact ⟨_, s.powerOnReset_starts aon, s.inClass_powerOn_ledger _ (by decide), s.inClass_powerOn_ledger _ (by decide),
      s.inClass_powerOn_ledger _ (by decide)⟩
  · obtain ⟨htime, hcode, hunit, hdetail⟩ := State.entered_words { s with due := rest } d
    obtain ⟨hcnt, hidx, hlost⟩ := State.entered_counts { s with due := rest } d
    obtain ⟨hidx', hlost', hlostEv, hrefEv⟩ := State.overwrites_counts { s with due := rest }
    have hlostEv' := (State.entered_event { s with due := rest } d (k := 1) (by decide)).trans hlostEv
    have hrefEv' := (State.entered_event { s with due := rest } d (k := 2) (by decide)).trans hrefEv
    exact ⟨_, congrArg s.ends (State.ledgerWrite_enters hnext hsup), State.entered_due _ d, htime, hcode, hunit, hdetail,
      hcnt, hidx.trans hidx', hlost.trans hlost', State.entered_newEv _ d, hlostEv', hrefEv', State.entered_spares _ d⟩

/-- Settles O36: a suppressed detection is counted alone, an exempt one is entered, and a detection counts when it is made. -/
theorem repeatedDetectionsAreSuppressed : Obligations.RepeatedDetectionsAreSuppressed := by
  unfold Obligations.RepeatedDetectionsAreSuppressed
  refine ⟨fun s d rest hnext => ⟨fun hclass hreset hlast hrecent => ?_, fun hexempt => ?_⟩, fun s inj code unit detail _ =>
    ⟨s.detectWith_counts inj unit detail, s.detectWith_dates inj code unit detail⟩⟩
  · have hsup := State.suppressed_of_recent hclass hreset hlast hrecent
    exact ⟨_, congrArg s.ends (State.ledgerWrite_suppresses hnext hsup), State.set_due _ _ _,
      State.word_inc_whole { s with due := rest } R.FLT_SUPPRESSED, State.set_lastEntry _ _ _,
      State.set_spares { s with due := rest } F.FLT_SUPPRESSED_CNT _⟩
  · have hsup := State.suppressed_of_exempt (s := s) hexempt
    obtain ⟨hcnt, -, -⟩ := State.entered_counts { s with due := rest } d
    exact ⟨_, congrArg s.ends (State.ledgerWrite_enters hnext hsup), State.entered_due _ d, hcnt,
      (State.entered_spares { s with due := rest } d).word
        (not_mem_slot_counts (by decide) (by decide) _), State.entered_lastEntry _ d⟩
end

section
/-! SUPPORT. That every command completes in the state of its own effect, family by family. A clause of a family is an event
(`State.takes`), a write of a register (`State.serves`), a request of a field (`State.serves_asking`) or a read
(`State.reads_register`), whose operands name a unit that there is. -/

namespace Sys2Proof.Machine

/-! ## The operands of a command -/

section
variable {n m N M : Nat} {b : Bool}

theorem below_and (h : n < N) (hb : b = true) : (decide (n < N) && b) = true := by
  rw [decide_eq_true h, hb]
  rfl

theorem below_uncut (h : n < N) (hb : b = false) : (decide (n < N) && !b) = true :=
  below_and h (by rw [hb]; rfl)

theorem below_both (h : n < N) (h' : m < M) : (decide (n < N) && decide (m < M)) = true :=
  below_and h (decide_eq_true h')

theorem below_both_and (h : n < N) (h' : m < M) (hb : b = true) : (decide (n < N) && decide (m < M) && b) = true := by
  rw [below_both h h', hb]
  rfl

end

/-! ## Writes and reads of a word -/

section
variable {s : State} {master a : Nat}

/-- A write that the checker lets through reaches its effect. -/
theorem State.busWrite_accepted (act : State → State) (hr : s.inReset = none)
    (hc : (s.checked master a 4 true).1 = false) : s.busWrite master a 4 act = act (s.accepted master a) := by
  unfold State.busWrite State.accepted
  rcases hk : s.checked master a 4 true with ⟨b, t⟩
  rw [hk] at hc
  cases hc
  rw [hr]
  rfl

/-- A write of a word of control space is a write of the register there (R26). -/
theorem State.softWrite_word (data : W32) (hr : s.inReset = none) (hs : spaceOf a = .cspace) (h4 : a % 4 = 0)
    (hc : (s.checked master a 4 true).1 = false) :
    s.softWrite master a 4 data = (s.accepted master a).writeWord a ⟨master, data⟩ := by
  unfold State.softWrite
  rw [if_neg (not_not.mpr hs), State.busWrite_accepted _ hr hc]
  exact if_pos ⟨rfl, h4⟩

/-- A command that reads a register of control space answers it. -/
theorem State.reads_register {c : Instr} {ok : Bool} (hc : exec c s = s.ends (s.onRead ok master a)) (hok : ok = true)
    (ha : 0x40000000 ≤ a ∧ a < 0x50000000 ∧ a % 4 = 0) : s.Reads c master a := by
  obtain ⟨hlo, hhi, h4⟩ := ha
  exact State.reads hc hok (spaceOf_cspace hlo hhi) h4

end

/-! ## The word that a raw lane receives -/

section
variable {s : State} {l : Nat}

theorem State.rxWord_inReset (word : Nat) : (s.rxWord l word).inReset = s.inReset := by
  unfold State.rxWord
  split
  · rfl
  · rw [State.setPair, State.setWord_inReset, State.setWord_inReset]

/-- The word arrives, and is read (R674). -/
theorem State.exec_rxWordRead (master word : Nat) (hl : l < 96) (hr : s.inReset = none) :
    exec (.rxWordRead l master word) s = s.ends ((s.rxWord l word).softRead master (R.LANE_RX_WORD_LO l) 4) := by
  change s.ends ((s.event (l < 96) (·.rxWord l word)).onRead (l < 96) master (R.LANE_RX_WORD_LO l)) = _
  unfold State.event State.onRead
  rw [decide_eq_true hl, hr]
  rfl

theorem State.rxWordRead_answers {master : Nat} (word : Nat) (hl : l < 96) (hr : s.inReset = none)
    (hc : ((s.rxWord l word).checked master (R.LANE_RX_WORD_LO l) 4 false).1 = false) :
    ∃ v t, ((s.rxWord l word).checked master (R.LANE_RX_WORD_LO l) 4 false).2.readWord master (R.LANE_RX_WORD_LO l) =
        (v, t) ∧
      exec (.rxWordRead l master word) s = .next (s.ended { t with resp := some ⟨bytesLE 4 v.toNat, false⟩ }) := by
  have hspace : spaceOf (R.LANE_RX_WORD_LO l) = .cspace := by
    unfold R.LANE_RX_WORD_LO
    exact spaceOf_cspace (by omega) (by omega)
  have halign : R.LANE_RX_WORD_LO l % 4 = 0 := by
    unfold R.LANE_RX_WORD_LO
    omega
  obtain ⟨v, t, hread, hsoft⟩ := State.softRead_word ((State.rxWord_inReset word).trans hr) hspace halign hc
  exact ⟨v, t, hread, (State.exec_rxWordRead master word hl hr).trans (congrArg s.ends hsoft)⟩

end

end Sys2Proof.Machine

open Sys2Proof Sys2Proof.Machine

/-- Settles O39: writes of a word, reads of a half, and the events and the request of attestation. -/
theorem liveComplete : Obligations.LiveComplete :=
  ⟨fun _ _ _ data hr hs h4 hc => congrArg (State.ends _) (State.softWrite_word data hr hs h4 hc),
   fun _ _ _ hs h4 => State.reads (ok := true) rfl rfl hs h4,
   fun _ _ _ data hr hs h4 hc => congrArg (State.ends _) (State.softWrite_word data hr hs h4 hc),
   fun _ _ hn => State.takes rfl (decide_eq_true hn),
   fun _ _ hn => State.takes rfl (decide_eq_true hn),
   fun _ _ _ hn => State.serves_asking rfl (decide_eq_true hn) rfl,
   fun _ _ hn => State.takes rfl (decide_eq_true hn),
   fun _ _ hn => State.takes rfl (decide_eq_true hn)⟩

/-- Settles O40: every command is a request of PLAN_CTRL or an event. -/
theorem planComplete : Obligations.PlanComplete :=
  ⟨fun _ _ => State.serves_asking rfl rfl rfl,
   fun _ _ => State.serves_asking rfl rfl rfl,
   fun _ _ => State.serves_asking rfl rfl rfl,
   fun _ _ => State.serves_asking rfl rfl rfl,
   fun _ _ => State.serves_asking rfl rfl rfl,
   fun _ _ => State.serves_asking rfl rfl rfl,
   fun _ => State.takes rfl rfl,
   fun _ => State.takes rfl rfl,
   fun _ => State.takes rfl rfl,
   fun _ => State.takes rfl rfl,
   fun _ => State.takes rfl rfl,
   fun _ => State.takes rfl rfl,
   fun _ => State.takes rfl rfl,
   fun _ => State.takes rfl rfl,
   fun _ => State.takes rfl rfl,
   fun _ => State.takes rfl rfl,
   fun _ => State.takes rfl rfl,
   fun _ => State.takes rfl rfl,
   fun _ => State.takes rfl rfl⟩

/-- Settles O41: every command is an event of a unit, or a write of a register of a stream. -/
theorem ingressComplete : Obligations.IngressComplete :=
  ⟨fun _ _ _ hp => State.takes rfl (decide_eq_true hp),
   fun _ _ hp => State.takes rfl (decide_eq_true hp),
   fun _ _ hi => State.takes rfl (decide_eq_true hi),
   fun _ _ hi => State.takes rfl (decide_eq_true hi),
   fun _ _ hj => State.takes rfl (decide_eq_true hj),
   fun _ _ _ hj => State.takes rfl (decide_eq_true hj),
   fun _ _ _ hi => State.serves_asking rfl (decide_eq_true hi) rfl,
   fun _ _ _ hi => State.serves_asking rfl (decide_eq_true hi) rfl,
   fun _ => State.takes rfl rfl,
   fun _ _ _ hi => State.serves rfl (decide_eq_true hi) rfl rfl⟩

/-- Settles O42: every command is an event of an engine that is not cut, or a write of a register of a context. -/
theorem decodeArrayComplete : Obligations.DecodeArrayComplete :=
  ⟨fun _ _ _ hc => State.serves_asking rfl (decide_eq_true hc) rfl,
   fun _ _ _ hc => State.serves_asking rfl (decide_eq_true hc) rfl,
   fun _ _ hc => State.takes rfl (decide_eq_true hc),
   fun _ _ _ hc => State.serves rfl (decide_eq_true hc) rfl rfl,
   fun _ _ _ hc hcut => State.takes rfl (below_uncut hc hcut),
   fun _ _ _ hk hcut => State.takes rfl (below_uncut hk hcut),
   fun _ _ _ hc hcut => State.takes rfl (below_uncut hc hcut),
   fun _ _ hk hcut => State.takes rfl (below_uncut hk hcut),
   fun _ _ hc hcut => State.takes rfl (below_uncut hc hcut),
   fun _ _ _ hc => State.serves_asking rfl (decide_eq_true hc) rfl,
   fun _ _ _ hc => State.serves rfl (decide_eq_true hc) rfl rfl⟩

/-- Settles O43: every command is an event of a pipe that answers, or a write of a register. -/
theorem stallsComplete : Obligations.StallsComplete :=
  ⟨fun _ _ _ _ hn hm => State.serves rfl (below_both hn hm) rfl rfl,
   fun _ _ _ _ hn hm => State.serves rfl (below_both hn hm) rfl rfl,
   fun _ _ _ _ hn hm => State.serves rfl (below_both hn hm) rfl rfl,
   fun _ _ _ hn hm hon => State.takes rfl (below_both_and hn hm hon),
   fun _ _ hn hon => State.takes rfl (below_and hn hon),
   fun _ _ _ hn hm hon => State.takes rfl (below_both_and hn hm hon),
   fun _ _ _ _ hn hm hon => State.takes rfl (below_both_and hn hm hon),
   fun _ _ _ hn hm hon => State.takes rfl (below_both_and hn hm hon),
   fun _ _ _ hn => State.serves_asking rfl (decide_eq_true hn) rfl,
   fun _ _ hn hon => State.takes rfl (below_and hn hon),
   fun _ _ _ _ _ hn => State.takes rfl (decide_eq_true hn),
   fun _ _ => State.serves_asking rfl rfl rfl,
   fun _ => State.takes rfl rfl⟩

/-- Settles O44: reads and writes of the tables, and the events of a scaler that answers. -/
theorem poolComplete : Obligations.PoolComplete :=
  ⟨fun _ _ _ hk => State.serves rfl (decide_eq_true hk) rfl rfl,
   fun _ _ hk hon => State.takes rfl (below_and hk hon),
   fun _ _ _ hk => State.reads_register rfl (decide_eq_true hk) (by unfold R.SP_COEF_DATA; omega),
   fun _ _ _ hk => State.serves rfl (decide_eq_true hk) rfl rfl,
   fun _ _ _ hk => State.serves_asking rfl (decide_eq_true hk) rfl,
   fun _ _ hk hon => State.takes rfl (below_and hk hon),
   fun _ _ _ hn => State.reads_register rfl (decide_eq_true hn) (by unfold R.HEAD_LUT_DATA1; omega),
   fun _ _ _ hn => State.serves rfl (decide_eq_true hn) rfl rfl,
   fun _ => State.takes rfl rfl⟩

/-- Settles O45: every command is an event or a write of a head, but for the read of TOL_MIN. -/
theorem headsComplete : Obligations.HeadsComplete :=
  ⟨fun _ _ _ hn => State.serves rfl (decide_eq_true hn) rfl rfl,
   fun _ _ hn hon => State.takes rfl (below_and hn hon),
   fun _ _ _ hn => State.serves_asking rfl (decide_eq_true hn) rfl,
   fun _ _ hn => State.takes rfl (decide_eq_true hn),
   fun _ _ _ hn => State.serves_asking rfl (decide_eq_true hn) rfl,
   fun _ _ hn => State.takes rfl (decide_eq_true hn),
   fun _ _ _ hn => State.serves rfl (decide_eq_true hn) rfl rfl,
   fun _ _ hn hon => State.takes rfl (below_and hn hon),
   fun _ _ _ _ hn => State.takes rfl (decide_eq_true hn),
   fun _ _ _ _ hn => State.takes rfl (decide_eq_true hn),
   fun _ _ _ hn => State.serves_asking rfl (decide_eq_true hn) rfl,
   fun _ _ _ hn => State.takes rfl (decide_eq_true hn),
   fun _ _ _ hn => State.reads_register rfl (decide_eq_true hn) (by unfold R.HEAD_TOL_MIN; omega)⟩

/-- Settles O46: every command is an event or a write of a source or a sink. -/
theorem portsComplete : Obligations.PortsComplete :=
  ⟨fun _ _ _ hk => State.takes rfl (decide_eq_true hk),
   fun _ _ _ hk => State.takes rfl (decide_eq_true hk),
   fun _ _ _ hk => State.takes rfl (decide_eq_true hk),
   fun _ _ _ _ hk => State.takes rfl (decide_eq_true hk),
   fun _ _ _ hk => State.takes rfl (decide_eq_true hk),
   fun _ _ _ hk => State.serves_asking rfl (decide_eq_true hk) rfl,
   fun _ _ hk => State.takes rfl (decide_eq_true hk),
   fun _ _ _ hk => State.serves_asking rfl (decide_eq_true hk) rfl,
   fun _ _ _ _ hk => State.takes rfl (decide_eq_true hk),
   fun _ _ _ hk => State.serves_asking rfl (decide_eq_true hk) rfl,
   fun _ _ _ hk => State.serves_asking rfl (decide_eq_true hk) rfl,
   fun _ _ hk => State.takes rfl (decide_eq_true hk),
   fun _ _ _ hj => State.serves rfl (decide_eq_true hj) rfl rfl,
   fun _ _ _ hj => State.serves_asking rfl (decide_eq_true hj) rfl,
   fun _ _ hj => State.takes rfl (decide_eq_true hj),
   fun _ _ hj => State.takes rfl (decide_eq_true hj),
   fun _ _ _ _ _ hj => State.takes rfl (decide_eq_true hj),
   fun _ _ hj => State.takes rfl (decide_eq_true hj)⟩

/-- Settles O47: every command is an event of an engine that is not cut, or a write of a register of a context. -/
theorem encodeArrayComplete : Obligations.EncodeArrayComplete :=
  ⟨fun _ _ _ hc => State.serves_asking rfl (decide_eq_true hc) rfl,
   fun _ _ _ hc => State.serves_asking rfl (decide_eq_true hc) rfl,
   fun _ _ hc => State.takes rfl (decide_eq_true hc),
   fun _ _ hc hcut => State.takes rfl (below_uncut hc hcut),
   fun _ _ _ _ _ hc hcut => State.takes rfl (below_uncut hc hcut),
   fun _ _ _ hk hcut => State.takes rfl (below_uncut hk hcut),
   fun _ _ _ _ hc hcut => State.takes rfl (below_uncut hc hcut),
   fun _ _ hc hcut => State.takes rfl (below_uncut hc hcut),
   fun _ _ hk hcut => State.takes rfl (below_uncut hk hcut),
   fun _ _ _ hc => State.serves_asking rfl (decide_eq_true hc) rfl,
   fun _ _ _ hc => State.serves rfl (decide_eq_true hc) rfl rfl⟩

/-- Settles O48: every command is an event of a link or a request of WLK_CTRL; the link of a rejected frame receives. -/
theorem wallLinkComplete : Obligations.WallLinkComplete :=
  ⟨fun _ _ _ => State.takes rfl rfl,
   fun _ _ _ => State.takes rfl rfl,
   fun _ _ => State.takes rfl rfl,
   fun _ _ => State.takes rfl rfl,
   fun _ _ why h => State.wlkFrameReject_takes why h,
   fun _ _ _ => State.takes rfl rfl,
   fun _ _ _ => State.takes rfl rfl,
   fun _ _ => State.takes rfl rfl,
   fun _ _ => State.takes rfl rfl,
   fun _ _ => State.takes rfl rfl,
   fun _ _ => State.takes rfl rfl,
   fun _ _ => State.takes rfl rfl,
   fun _ _ => State.takes rfl rfl,
   fun _ _ => State.takes rfl rfl,
   fun _ _ => State.takes rfl rfl,
   fun _ _ => State.takes rfl rfl,
   fun _ _ => State.takes rfl rfl,
   fun _ _ => State.takes rfl rfl,
   fun _ _ => State.takes rfl rfl,
   fun _ => State.takes rfl rfl,
   fun _ _ => State.serves_asking rfl rfl rfl,
   fun _ _ => State.serves_asking rfl rfl rfl,
   fun _ _ => State.serves_asking rfl rfl rfl⟩

/-- Settles O49: every command is an event or a request of TWIN_CTRL. -/
theorem pairingComplete : Obligations.PairingComplete :=
  ⟨fun _ => State.takes rfl rfl,
   fun _ _ => State.takes rfl rfl,
   fun _ _ => State.takes rfl rfl,
   fun _ => State.takes rfl rfl,
   fun _ _ => State.takes rfl rfl,
   fun _ _ => State.takes rfl rfl,
   fun _ _ => State.takes rfl rfl,
   fun _ => State.takes rfl rfl,
   fun _ _ => State.takes rfl rfl,
   fun _ _ => State.takes rfl rfl,
   fun _ _ => State.takes rfl rfl,
   fun _ _ => State.serves_asking rfl rfl rfl,
   fun _ _ => State.serves_asking rfl rfl rfl,
   fun _ _ => State.serves_asking rfl rfl rfl,
   fun _ => State.takes rfl rfl,
   fun _ => State.takes rfl rfl,
   fun _ => State.takes rfl rfl,
   fun _ => State.takes rfl rfl,
   fun _ _ => State.takes rfl rfl,
   fun _ => State.takes rfl rfl⟩

/-- Settles O50: an access of memory outside control space, and the events of the memory controller. -/
theorem memcComplete : Obligations.MemcComplete :=
  ⟨fun _ _ h => State.memAccess_takes h,
   fun _ _ => State.takes rfl rfl,
   fun _ => State.takes rfl rfl,
   fun _ => State.takes rfl rfl,
   fun _ => State.takes rfl rfl,
   fun _ _ => State.serves rfl rfl rfl rfl,
   fun _ _ => State.takes rfl rfl⟩

/-- Settles O51: every command is an event or a write of a time base, but for the read of NOW_NS. -/
theorem timeBasesComplete : Obligations.TimeBasesComplete :=
  ⟨fun _ _ _ ht => State.serves_asking rfl (decide_eq_true ht) rfl,
   fun _ _ _ ht => State.serves_asking rfl (decide_eq_true ht) rfl,
   fun _ _ _ ht => State.serves_asking rfl (decide_eq_true ht) rfl,
   fun _ _ _ ht => State.serves_asking rfl (decide_eq_true ht) rfl,
   fun _ _ _ ht => State.serves rfl (decide_eq_true ht) rfl rfl,
   fun _ _ _ ht => State.serves rfl (decide_eq_true ht) rfl rfl,
   fun _ _ _ ht => State.serves_asking rfl (decide_eq_true ht) rfl,
   fun _ _ ht => State.takes rfl (decide_eq_true ht),
   fun _ _ _ ht => State.reads_register rfl (decide_eq_true ht) (by unfold R.TB_NOW_NS; omega),
   fun _ _ tx _ hp => State.serves rfl (decide_eq_true hp) (by cases tx <;> rfl) rfl⟩

/-- Settles O52: the events of delivery, and the reads and writes of a target. -/
theorem interruptsComplete : Obligations.InterruptsComplete :=
  ⟨fun _ _ => State.serves rfl rfl rfl rfl,
   fun _ => State.takes rfl rfl,
   fun _ _ hg => State.takes rfl (decide_eq_true hg),
   fun _ _ _ hk => State.reads_register rfl (decide_eq_true hk) (by unfold R.TGT_CLAIM; omega),
   fun _ _ _ hk => State.serves rfl (decide_eq_true hk) rfl rfl,
   fun _ _ _ hk => State.serves rfl (decide_eq_true hk) rfl rfl⟩

/-- Settles O53: every command is a request or an event of an engine. -/
theorem checkValuesComplete : Obligations.CheckValuesComplete :=
  ⟨fun _ _ _ he => State.serves_asking rfl (decide_eq_true he) rfl,
   fun _ _ _ he => State.serves_asking rfl (decide_eq_true he) rfl,
   fun _ _ he => State.takes rfl (decide_eq_true he),
   fun _ _ he => State.takes rfl (decide_eq_true he)⟩

/-- Settles O54: every command is an event or a write of a lane; a received word is read after it arrives. -/
theorem lanesComplete : Obligations.LanesComplete :=
  ⟨fun _ _ _ hl => State.serves rfl (decide_eq_true hl) rfl rfl,
   fun _ _ hl => State.takes rfl (decide_eq_true hl),
   fun _ _ hl => State.takes rfl (decide_eq_true hl),
   fun _ _ hl => State.takes rfl (decide_eq_true hl),
   fun _ _ _ hl => State.serves_asking rfl (decide_eq_true hl) rfl,
   fun _ _ hl => State.takes rfl (decide_eq_true hl),
   fun _ _ _ hl => State.serves_asking rfl (decide_eq_true hl) rfl,
   fun _ _ hl => State.takes rfl (decide_eq_true hl),
   fun _ _ hl => State.takes rfl (decide_eq_true hl),
   fun _ _ _ word hl => State.rxWordRead_answers word hl⟩

/-- Settles O55: every command is an event or a write of a port or of the audio PLL. -/
theorem audioPortsComplete : Obligations.AudioPortsComplete :=
  ⟨fun _ _ _ _ hp => State.takes rfl (decide_eq_true hp),
   fun _ _ _ hp => State.serves_asking rfl (decide_eq_true hp) rfl,
   fun _ _ _ hp => State.serves_asking rfl (decide_eq_true hp) rfl,
   fun _ _ _ hp => State.serves rfl (decide_eq_true hp) rfl rfl,
   fun _ _ hp => State.takes rfl (decide_eq_true hp),
   fun _ _ _ hp => State.serves rfl (decide_eq_true hp) rfl rfl,
   fun _ _ => State.serves rfl rfl rfl rfl,
   fun _ _ => State.serves rfl rfl rfl rfl,
   fun _ _ hp => State.takes rfl (decide_eq_true hp),
   fun _ _ hp hon => State.takes rfl (below_and hp hon)⟩

/-- Settles O56: every command is an event or a write of a group. -/
theorem touchSenseComplete : Obligations.TouchSenseComplete :=
  ⟨fun _ _ _ hg => State.serves_asking rfl (decide_eq_true hg) rfl,
   fun _ _ _ hg => State.serves_asking rfl (decide_eq_true hg) rfl,
   fun _ _ hi _ hg => State.serves rfl (decide_eq_true hg) (by cases hi <;> rfl) rfl,
   fun _ _ _ hg => State.takes rfl (decide_eq_true hg),
   fun _ _ hg => State.takes rfl (decide_eq_true hg),
   fun _ _ _ hg => State.takes rfl (decide_eq_true hg)⟩

/-- Settles O57: the events of the island take effect in a reset too; the others are an event, a request and a read. -/
theorem thermalComplete : Obligations.ThermalComplete :=
  ⟨fun _ _ => rfl,
   fun _ _ => rfl,
   fun _ _ => State.takes rfl rfl,
   fun _ _ => State.serves_asking rfl rfl rfl,
   fun _ _ => State.reads_register rfl rfl (by unfold R.THERM_TJ_PEAK; omega)⟩

/-- Settles O58: every command is a request of MB_CMD or an event. -/
theorem securityComplete : Obligations.SecurityComplete :=
  ⟨fun _ _ => State.serves_asking rfl rfl rfl,
   fun _ _ => State.serves_asking rfl rfl rfl,
   fun _ _ => State.serves_asking rfl rfl rfl,
   fun _ _ => State.serves_asking rfl rfl rfl,
   fun _ _ => State.serves_asking rfl rfl rfl,
   fun _ _ => State.serves_asking rfl rfl rfl,
   fun _ _ => State.serves_asking rfl rfl rfl,
   fun _ _ => State.serves_asking rfl rfl rfl,
   fun _ _ => State.serves_asking rfl rfl rfl,
   fun _ _ => State.serves_asking rfl rfl rfl,
   fun _ _ => State.serves_asking rfl rfl rfl,
   fun _ _ => State.serves_asking rfl rfl rfl,
   fun _ _ => State.serves_asking rfl rfl rfl,
   fun _ _ => State.serves_asking rfl rfl rfl,
   fun _ _ => State.takes rfl rfl,
   fun _ _ => State.takes rfl rfl,
   fun _ => State.takes rfl rfl,
   fun _ _ _ _ => State.takes rfl rfl⟩

/-- Settles O59: the events of the island take effect in a reset too; the others are events and writes. -/
theorem resetsComplete : Obligations.ResetsComplete :=
  ⟨fun _ _ => rfl,
   fun _ => rfl,
   fun _ => rfl,
   fun _ _ => State.serves_asking rfl rfl rfl,
   fun _ _ => rfl,
   fun _ => State.takes rfl rfl,
   fun _ => State.takes rfl rfl,
   fun _ _ => State.serves_asking rfl rfl rfl,
   fun _ _ => rfl,
   fun _ => rfl,
   fun _ _ => rfl,
   fun _ => State.takes rfl rfl,
   fun _ _ => State.serves rfl rfl rfl rfl,
   fun _ _ => State.serves rfl rfl rfl rfl,
   fun _ _ _ hk => State.serves rfl (decide_eq_true hk) rfl rfl,
   fun _ _ _ hk => State.serves rfl (decide_eq_true hk) rfl rfl,
   fun _ _ hk => State.takes rfl (decide_eq_true hk)⟩

/-- Settles O60: every command is an event, in a reset too for the ledger, or a write. -/
theorem faultsComplete : Obligations.FaultsComplete :=
  ⟨fun _ _ _ h => State.serves_asking rfl h rfl,
   fun _ _ _ _ => State.takes rfl rfl,
   fun _ _ _ => State.takes rfl rfl,
   fun _ => rfl,
   fun _ _ _ hd => State.serves_asking rfl (decide_eq_true hd) rfl,
   fun _ _ => State.serves rfl rfl rfl rfl,
   fun _ _ _ hpin => State.takes rfl (decide_eq_true hpin),
   fun _ _ _ hb => State.serves_asking rfl (decide_eq_true hb) rfl,
   fun _ _ _ _ hb => State.takes rfl (decide_eq_true hb)⟩

end
